-- ==== Sys2Proof/Word.lean ====
section
/-! DEFINITION. Word.lean: the bit strings and the numbers of stations and lanes that every file uses. -/

namespace Sys2Proof

/-- One byte of a frame, of the plan image or of a packet (R203, R207, R208). -/
abbrev Byte := BitVec 8

/-- A 16-bit quantity: a term, a digest, a check sequence, a packet signature. -/
abbrev Word16 := BitVec 16

/-- A row's term, 0 to 65535 (R2). -/
abbrev Term := Word16

/-- A station number, 0 to 7 (R180). -/
abbrev Station := Fin 8

/-- A lane, L0 to L3 (R84). -/
abbrev LaneId := Fin 4

/-- The lanes in lane order. -/
def allLanes : List LaneId := [0, 1, 2, 3]

/-- The station numbers in order. -/
def allStations : List Station := [0, 1, 2, 3, 4, 5, 6, 7]

end Sys2Proof
end

