-- ==== Sys2Proof/Syntax.lean ====
section
/-! DEFINITION. Syntax.lean: the commands of the station, one constructor for each row of the table of operations and
events, with their operands, and the frames of the station link as their fields. -/

namespace Sys2Proof

/-- The three timed acquisition stages (R89, R90). -/
inductive AcqStage where
  | acq1 | acq2 | acq3
deriving DecidableEq, Repr

/-- What the acknowledgement window and the line tell of a frame that completed.
`sender` is the header's sender number (R203); `seen` says that the seen bit read dominant (R146); `fresh` says that the
frame's start bit came after the station's latest entry into a mode, without which R140 leaves the frame unchecked. -/
structure Rx where
  sender : BitVec 4
  seen   : Bool
  fresh  : Bool
deriving DecidableEq, Repr

/-- The reason field of a CEDE; RECLAIMED declares the for-slot byte (R203, R204). -/
inductive CedeReason where
  | lost
  | reclaimed (forSlot : Byte)
  | clash
  | yielded
  | resting
deriving DecidableEq, Repr

/-- The station modes a ROLL can carry (R205). -/
inductive RollMode where
  | joining | joined | resting | isolated
deriving DecidableEq, Repr

/-- A lane summary of a ROLL, its four bytes as received (R205). -/
structure LaneSummary where
  state  : Byte
  role   : Byte
  slot   : Byte
  margin : Byte
deriving DecidableEq, Repr

/-- The row state byte of a row record, a declaring field (R203, R205). -/
inductive RowCode where
  | unknown | opened | carried | swapping
deriving DecidableEq, Repr

/-- A row record of a ROLL or of a ROW report (R205). The fields that are present are what the presence byte declares. -/
structure RowRecord where
  slot          : Byte
  state         : RowCode
  termReclaims  : Option (Term × Byte)
  carrier       : Option Byte
  standby       : Option Byte
  lastCarrier   : Option Byte
  phaseHold     : Option Byte
  drainCount    : Option Byte
deriving DecidableEq, Repr

/-- The body of a ROLL (R205). -/
structure RollBody where
  number : Byte
  mode   : RollMode
  digest : Word16
  lanes  : Vector LaneSummary 4
  echoes : List RowRecord
deriving DecidableEq, Repr

/-- The record body of a REPORT, one constructor for each record kind (R206). -/
inductive RecordBody where
  | station (mode barred reset lastRoll spoil unseen badRx alert : Byte) (planNumber digest : Word16)
  | lane (state role slot input settings margin : Byte) (residual : Word16) (retry sync gate occupancy alignment : Byte)
  | row (record : RowRecord)
  | peer (state stale : Byte) (mode lastRoll : Option Byte) (digest : Option Word16)
      (lanes : Option (Vector LaneSummary 4))
  | plan (freqHigh freqMid freqLow flags rank outlet home mask : Byte)
deriving DecidableEq, Repr

/-- The body of a REPORT (R206): selection kind (the record's own), selection index, refused flag, last outcome, record. -/
structure ReportBody where
  index   : Byte
  refused : Bool
  outcome : Byte
  record  : RecordBody
deriving DecidableEq, Repr

/-- A frame of the station link by its kind and fields (R141), each field as the byte or bytes R204 to R206 give it. -/
inductive Frame where
  | quiet (subject roll : Byte)
  | cede (slot role : Byte) (term : Term) (lane : Byte) (reason : CedeReason)
  | swapDrop (slot : Byte) (term : Term) (reason : Byte)
  | swapDone (slot : Byte) (newTerm : Term) (lane : Byte)
  | swapGo (slot : Byte) (term : Term) (drainCount : Byte)
  | swapHold (slot : Byte) (term : Term) (hold : Byte)
  | swapReady (slot : Byte) (term : Term)
  | swapOffer (slot : Byte) (term : Term)
  | bid (slot role : Byte) (term : Term) (lane margin : Byte)
  | directive (target action argument : Byte)
  | query (target kind index : Byte)
  | report (body : ReportBody)
  | roll (body : RollBody)
deriving DecidableEq, Repr

/-- What a receiver has of a foreign frame at its end (R138, R144): the bytes of its byte slots, whether a stop bit read
dominant, and whether no recessive start bit had come by the position after the 259th byte slot. -/
structure RawFrame where
  bytes    : List Byte
  badStop  : Bool
  endless  : Bool
  fresh    : Bool
deriving DecidableEq, Repr

/-- What all other drivers together place on the backplane lines during one window (R124, R208): the data bytes, the two
marks at clock 0, and each mark in any of the clocks 0 to 187. A set bit or mark is the dominant level. -/
structure WindowLines where
  bytes    : List Byte
  valid    : Bool
  last     : Bool
  validAny : Bool
  lastAny  : Bool
deriving DecidableEq, Repr

/-- How the configuration port answers a load attempt: how many reads of CFGD in a row find it low, from the read at the start of
the bus clear on (R182); and, for an attempt that gets no answer, how much of it the station has driven when it abandons it, what
the memory gives from location 0 on, and whether the port then allows a stop condition (R184). -/
structure PortAnswer where
  lowReads : Nat
  moments  : Nat
  memory   : List Byte
  canStop  : Bool
deriving DecidableEq, Repr

/-- The commands: one constructor for each row of the table of operations and events. -/
inductive Instr where
  -- resets (R159, R180)
  | powerOnReset
  | pinReset
  /-- `pins` are the levels of STN2 to STN0; `port` is how the port answers the attempt that begins (log 48). -/
  | resetEnd (pins : BitVec 3) (port : PortAnswer)
  -- plan loader (R182 to R189)
  | clockHoldTimeout
  | loadNoAnswer
  | loadRetryWaitExpiry (port : PortAnswer)
  /-- `memory` is what the configuration memory gives from location 0 on. -/
  | loadAttemptComplete (memory : List Byte)
  -- station link (R142 to R150)
  /-- `rivals` are the header bytes of the other nodes that start at the same bit time. -/
  | frameSendStart (rivals : List Byte)
  | duplicateSendMismatch
  | frameOwnNumberReceived (fresh : Bool)
  | frameCheckFailed (raw : RawFrame)
  | frameSpoiled (sender : BitVec 4) (fresh : Bool)
  | ownFrameSpoiled
  | ownFrameVoid
  | spoilStreakLimit
  | unseenStreakLimit
  | badReceiveStreakLimit (raw : RawFrame)
  -- completed frames (R141)
  | quiet (rx : Rx) (subject roll : Byte)
  | quietAboutSelf (rx : Rx) (roll : Byte)
  | cedeCarrier (rx : Rx) (slot : Byte) (term : Term) (lane : Byte) (reason : CedeReason)
  | cedeStandby (rx : Rx) (slot : Byte) (term : Term) (lane : Byte) (reason : CedeReason)
  | bidCarrier (rx : Rx) (slot : Byte) (term : Term) (lane margin : Byte)
  | bidStandby (rx : Rx) (slot : Byte) (term : Term) (lane margin : Byte)
  | swapOffer (rx : Rx) (slot : Byte) (term : Term)
  | swapReady (rx : Rx) (slot : Byte) (term : Term)
  | swapGo (rx : Rx) (slot : Byte) (term : Term) (drainCount : Byte)
  | swapHold (rx : Rx) (slot : Byte) (term : Term) (hold : Byte)
  | swapDone (rx : Rx) (slot : Byte) (newTerm : Term) (lane : Byte)
  | swapDrop (rx : Rx) (slot : Byte) (term : Term) (reason : Byte)
  | roll (rx : Rx) (body : RollBody)
  | query (rx : Rx) (target kind index : Byte)
  | report (rx : Rx) (body : ReportBody)
  | directiveClear (rx : Rx) (target argument : Byte)
  | directiveYield (rx : Rx) (target argument : Byte)
  | directiveSwap (rx : Rx) (target argument : Byte)
  | directiveRest (rx : Rx) (target argument : Byte)
  | directiveResume (rx : Rx) (target argument : Byte)
  | directiveUnknownAction (rx : Rx) (target action argument : Byte)
  -- timers of the station and of the claim and swap units
  | rollTimerExpiry
  | staleTimerExpiry (peer : Station)
  | joinQuietExpiry
  | muteRestExpiry
  | bidClockDue (slot : Nat)
  | standbyBidClockDue (slot : Nat)
  | reclaimWaitExpiry (slot : Nat)
  | alignTimerExpiry (lane : LaneId)
  -- lane events (R87 to R101, R110, R111)
  | tuneTimeEnd (lane : LaneId)
  | guardDetected (lane : LaneId)
  | stageWindowExpiry (lane : LaneId) (stage : AcqStage)
  /-- `margin` is the demodulator's estimate for the period that closes (R92). -/
  | qualityPeriodClose (lane : LaneId) (margin : Nat)
  /-- `pos` is the position, in the demodulated stream, of the byte that is the hit. -/
  | acq3SyncLock (lane : LaneId) (pos : Nat)
  | holdoverReturn (lane : LaneId) (pos : Nat)
  | syncMissLimit (lane : LaneId) (pos : Nat)
  | holdoverWindowExpiry (lane : LaneId)
  | retryLimitSpent (lane : LaneId)
  | retryPeriodEnd (lane : LaneId)
  | lockClock60s (lane : LaneId)
  | steadyRunComplete (lane : LaneId) (margin : Nat)
  | qualityTrigger (lane : LaneId) (margin : Nat)
  | clashStreakLimit (lane : LaneId) (margin : Nat)
  -- swap countdown and backplane (R72, R73, R114, R123 to R131)
  | overrunLimit (others : WindowLines)
  | drainCountdownEnd (frameMark : Bool) (others : WindowLines)
  /-- `pos` is the stream position at which the packet begins, `bytes` the 188 bytes after error correction, `unrepaired`
  says that the error corrector could not repair the packet (R112). -/
  | packetArrival (lane : LaneId) (pos : Nat) (bytes : List Byte) (unrepaired : Bool)
  /-- `frameMark` says that the frame mark stands at the window's first clock (R123, R208). -/
  | windowStart (frameMark : Bool)
  | windowEnd (others : WindowLines)
  | cycleCutShort
  | syncHit (lane : LaneId) (pos : Nat)
  | syncMiss (lane : LaneId) (pos : Nat)
deriving DecidableEq, Repr

end Sys2Proof
end

