-- ==== Sys2Proof/Machine/CheckSequence.lean ====
section
/-! DEFINITION. CheckSequence.lean: the 16-bit check sequence that frames, plan images and packet signatures share (R139,
R112, R207). -/

namespace Sys2Proof.Machine

/-- One bit taken into the register: generator x^16 + x^12 + x^5 + 1 (R139). -/
def crcBit (r : Word16) (b : Bool) : Word16 :=
  if r.msb != b then (r <<< 1) ^^^ 0x1021#16 else r <<< 1

/-- One byte, most significant bit first (R139). -/
def crcByte (r : Word16) (x : Byte) : Word16 :=
  [7, 6, 5, 4, 3, 2, 1, 0].foldl (fun r i => crcBit r (x.getLsbD i)) r

/-- The check sequence of a list of bytes; the register starts at all ones and the result is not inverted (R139). -/
def checkSequence (bytes : List Byte) : Word16 := bytes.foldl crcByte 0xFFFF#16

/-- The two bytes of a 16-bit field, most significant first (chapter 11). -/
def wordBytes (w : Word16) : List Byte := [w.extractLsb' 8 8, w.extractLsb' 0 8]

/-- The 16-bit value of two bytes, most significant first (chapter 11). -/
def wordOf (high low : Byte) : Word16 := high ++ low

end Sys2Proof.Machine
end

