-- ==== Sys2Proof/Config.lean ====
section
/-! DEFINITION. Config.lean: the values the manual leaves open and this model fixes. Each is named in a log entry. -/

namespace Sys2Proof.Config

/-- The station number between the start of a reset and the sample of R180. DESIGN CHOICE, unsafe: log 3. -/
def numberBeforeSample : Station := 0

/-- What the loader reads where nothing drives CFGD: the pulled-up level, ones (R182, R189). DEDUCED: log 10. -/
def undrivenByte : Byte := 0xFF#8

end Sys2Proof.Config
end

