-- ==== Sys2Proof/Machine/State.lean ====
section
/-! DEFINITION. State.lean: everything the manual gives one station, as plain data, and its value right after reset. -/

namespace Sys2Proof.Machine

/-- Why a step faults: never. The manual describes no condition in which the station stops without an effect, so this type
has no constructor (log 32). -/
inductive Fault where
deriving DecidableEq, Repr

/-- Why a step refuses. -/
inductive Refusal where
  /-- Raised by an arm of `exec` whose command has no meaning yet; safe. No arm of this model raises it. -/
  | notModelled (mnemonic : String)
deriving DecidableEq, Repr

/-- The station mode (R159). -/
inductive Mode where
  | loading | barred | joining | joined | resting | isolated | mute
deriving DecidableEq, Repr

/-- The BARRED cause (R159). -/
inductive BarredCause where
  | none | planBad | duplicate
deriving DecidableEq, Repr

/-- The reset cause (R159). -/
inductive ResetCause where
  | power | pin | quieted | isolationEnd | muteEnd
deriving DecidableEq, Repr

/-! ### The plan store (R181, R186, R187) -/

inductive Bandwidth where
  | mhz6 | mhz7 | mhz8
deriving DecidableEq, Repr

/-- The input field of a slot record. -/
inductive SlotInput where
  | a | b | either
deriving DecidableEq, Repr

inductive Profile where
  | fixed | sfn
deriving DecidableEq, Repr

/-- What a retry count of 15 leads to (R99). -/
inductive RetryMode where
  | limited | unlimited
deriving DecidableEq, Repr

/-- A slot record (R187). `freq` is in kHz; bit n of `mask` is station n. -/
structure SlotRec where
  freq          : Nat
  bandwidth     : Bandwidth
  input         : SlotInput
  profile       : Profile
  rank          : Nat
  outlet        : Nat
  home          : Station
  mask          : Byte
  rotate        : Bool
  standbyWanted : Bool
deriving DecidableEq, Repr

/-- A pin window (R188). -/
structure PinWindow where
  valid : Bool
  value : BitVec 5
  mask  : BitVec 5
deriving DecidableEq, Repr

/-- A loaded plan (R181). The slot count N is the number of slot records. -/
structure Plan where
  number     : Word16
  drainCount : Nat
  retry      : RetryMode
  windows    : Vector (PinWindow × PinWindow) 8
  slots      : List SlotRec
  digest     : Word16
deriving DecidableEq, Repr

inductive LoaderPhase where
  | off | reading | waiting
deriving DecidableEq, Repr

/-- What the station drives on CFGC and CFGD at one moment: each line low, or left to rise (R182). -/
structure PortLines where
  clockLow : Bool
  dataLow  : Bool
deriving DecidableEq, Repr

/-- The plan loader (R182 to R185). `port` is what the station has driven on the configuration port in the latest attempt, moment by
moment; `answer` is how the port answers that attempt (the model's own field, log 48). -/
structure Loader where
  phase    : LoaderPhase
  attempts : Nat
  wait     : Option Nat
  pulses   : Nat
  working  : List Byte
  port     : List PortLines
  answer   : PortAnswer
deriving DecidableEq, Repr

/-! ### The carriage table (R2, R3, R31) -/

/-- A (station, lane) pair of a row. -/
structure Pair where
  station : Station
  lane    : LaneId
deriving DecidableEq, Repr

/-- The swap phase of a SWAPPING row; hold and drain count exist in DRAINING only (R2). -/
inductive SwapPhase where
  | offered
  | ready
  | draining (hold : Bool) (drainCount : Nat)
deriving DecidableEq, Repr

/-- A row, each state with the fields R2 gives it. The reclaim count of a CARRIED or SWAPPING row is 0. -/
inductive Row where
  | unknown
  | opened (term : Term) (last : Option Station) (reclaims : Nat)
  | carried (term : Term) (carrier : Pair) (standby : Option Pair) (last : Option Station)
  | swapping (term : Term) (carrier standby : Pair) (last : Option Station) (phase : SwapPhase)
deriving DecidableEq, Repr

/-- The local data beside a row (R3, R31). Clocks count milliseconds up, `reclaimWait` counts down; `none` is stopped. -/
structure RowLocal where
  bidClock     : Option Nat
  place        : Option Nat
  tried        : Bool
  reclaimWait  : Option Nat
  standbyClock : Option Nat
  standbyPlace : Option Nat
  standbyTried : Bool
deriving DecidableEq, Repr

/-- One slot's entry of the table. -/
structure Entry where
  row : Row
  loc : RowLocal
deriving DecidableEq, Repr

/-! ### Lanes (R84, R109, R112, R118, R128, R55) -/

inductive LaneState where
  | idle | tune | acq1 | acq2 | acq3 | locked | holdover | retryWait | spent
deriving DecidableEq, Repr

inductive LaneRole where
  | free | trial | carrier | standby | taker | giver | home
deriving DecidableEq, Repr

/-- The role field of a BID or CEDE. -/
inductive CarriageRole where
  | carrier | standby
deriving DecidableEq, Repr

inductive Input where
  | a | b
deriving DecidableEq, Repr

inductive Settings where
  | steady | recovery
deriving DecidableEq, Repr

/-- The claim mark of a lane (R31). A STANDBY trial keeps the row's term at its binding (R46), a LATE trial whether it is for
standby (R43), a HELD lane its for-slot and the role it gave up (R51, R52). -/
inductive ClaimMark where
  | none
  | ordinary
  | standby (term : Term)
  | late (forStandby : Bool)
  | reclaim
  | held (forSlot : Nat) (gaveUp : CarriageRole)
deriving DecidableEq, Repr

/-- Packet sync (R109). `boundary` is the stream position of the next expected packet boundary, `lockHit` that of the hit that
made packet sync SYNCED, until its packet has been delivered (R110). -/
structure Sync where
  synced    : Bool
  boundary  : Option Nat
  lockHit   : Option Nat
  hits      : Nat
  misses    : Nat
  qualified : Bool
deriving DecidableEq, Repr

/-- A packet record (R112). -/
structure PacketRec where
  bytes          : List Byte
  streamId       : BitVec 13
  continuity     : BitVec 4
  errorIndicator : Bool
  signature      : Word16
deriving DecidableEq, Repr

/-- An entry of the giver trace (R118). -/
structure TraceEntry where
  signature : Word16
  last      : Bool
deriving DecidableEq, Repr

/-- The giver trace and alignment state of a TAKER; `feeding` says that the outlet port feeds it (R118). -/
structure Taker where
  trace   : List TraceEntry
  aligned : Bool
  feeding : Bool
deriving DecidableEq, Repr

inductive GiverStage where
  | offering | going | draining | overrun | closed | dropping
deriving DecidableEq, Repr

/-- The reason field of a SWAP-DROP (R203). -/
inductive DropReason where
  | alignTimeout | takerLost | overrun | directed
deriving DecidableEq, Repr

/-- A taker's stage; DROPPING keeps the reason of its SWAP-DROP, which R80 reads. -/
inductive TakerStage where
  | seeking | readied | draining | opened
  | dropping (reason : DropReason)
deriving DecidableEq, Repr

/-- A lane's swap context without its quality streak (R55). `align` is what is left of the align timer. -/
inductive SwapCtx where
  | none
  | giver (slot : Nat) (term : Term) (stage : GiverStage) (remaining overrun : Nat)
  | taker (slot : Nat) (term : Term) (stage : TakerStage) (align : Option Nat)
deriving DecidableEq, Repr

/-- What a lane's tuner is set to, on the input in use (R87, R187): a centre frequency in kHz and a bandwidth. The rules give no
value for it at reset (log 49). -/
structure Tuner where
  freq      : Nat
  bandwidth : Bandwidth
deriving DecidableEq, Repr

/-- A lane (R84) with its packet sync, buffer, trace, claim mark, clash record and swap context.
`stateTimer` is what is left of the timer of the present state, `periodClock` of the quality period; `gate` set is OPEN.
`traceNo` is the model's own: how many giver traces the lane has held, by which a window knows the trace it began under. -/
structure Lane where
  state         : LaneState
  role          : LaneRole
  slot          : Option Nat
  input         : Input
  nextInput     : Input
  tuner         : Tuner
  settings      : Settings
  margin        : Nat
  residual      : Nat
  periodErrors  : Nat
  lowPeriods    : Nat
  steadyRun     : Nat
  lockClock     : Option Nat
  retryCount    : Nat
  stateTimer    : Option Nat
  periodClock   : Option Nat
  sync          : Sync
  buffer        : List PacketRec
  gate          : Bool
  taker         : Option Taker
  traceNo       : Nat
  mark          : ClaimMark
  bidTerm       : Option Term
  clashSeen     : Bool
  clashStreak   : Nat
  qualityStreak : Nat
  ctx           : SwapCtx
deriving DecidableEq, Repr

/-! ### Peer directory (R172) -/

inductive DirState where
  | self | absent | present | silent | alien
deriving DecidableEq, Repr

/-- A directory record (R172). `staleTimer` is what is left of the 750 ms. -/
structure PeerRec where
  state      : DirState
  mode       : Option RollMode
  lastRoll   : Option Byte
  digest     : Option Word16
  lanes      : Option (Vector LaneSummary 4)
  staleTimer : Option Nat
  staleMark  : Bool
deriving DecidableEq, Repr

/-! ### Station link (R145, R147 to R158) -/

/-- What stands in the send queue: a frame fixed when it was queued, or a request for a REPORT or a ROLL (R152). -/
inductive QFrame where
  | fixed (f : Frame)
  | report
  | roll
deriving DecidableEq, Repr

/-- An entry of the send queue; `onLine` says that the frame is on the line. -/
structure QEntry where
  frame  : QFrame
  onLine : Bool
deriving DecidableEq, Repr

/-- The mark driven in an acknowledgement window (R145). -/
inductive AckMark where
  | none | spoil | seen
deriving DecidableEq, Repr

/-- The station link controller. `onAir` is the own frame on the line with the contents it took when it went onto the line;
`owed` holds the frames that the queue discarded and whose owners queue them again at the next completed frame; `due` holds them
while that frame is handled, and is empty between events. -/
structure Link where
  queue       : List QEntry
  onAir       : Option Frame
  notedRoll   : Bool
  notedReport : Bool
  owed        : List QFrame
  due         : List QFrame
  ack         : AckMark
  spoil       : Nat
  unseen      : Nat
  badRx       : Nat
  lastRoll    : Byte
deriving DecidableEq, Repr

/-! ### Outlet port (R123, R126, R131) -/

/-- Where the backplane cycle stands. -/
inductive CyclePos where
  | awaiting
  | between (outlet : Nat)
  | inside (outlet : Nat)
deriving DecidableEq, Repr

/-- The record taken for the window in progress (R126). -/
structure Driven where
  lane   : LaneId
  slot   : Nat
  packet : PacketRec
  last   : Bool
deriving DecidableEq, Repr

/-- The outlet port. `reader` is the taking lane for which the window in progress is read, with the number of its trace (R131). -/
structure Backplane where
  pos    : CyclePos
  driven : Option Driven
  reader : Option (LaneId × Nat)
deriving DecidableEq, Repr

/-! ### Report selector (R193) -/

inductive RecordKind where
  | station | lane | row | peer | plan
deriving DecidableEq, Repr

/-- The last directive outcome (R193). -/
inductive DirOutcome where
  | none | done | refusedBusy | refusedState | unknownSlot | unknownAction
deriving DecidableEq, Repr

structure Selector where
  kind    : RecordKind
  index   : Nat
  refused : Bool
  outcome : DirOutcome
deriving DecidableEq, Repr

/-! ### The station -/

/-- One station. `lineFound` says that the link controller has found the line idle since the reset (R137; log 9). `pending` is
the queue of commands that wait, first in, first out: the model's own field. -/
structure State where
  inReset     : Bool
  lineFound   : Bool
  number      : Station
  mode        : Mode
  barredCause : BarredCause
  resetCause  : ResetCause
  loader      : Loader
  plan        : Option Plan
  table       : List Entry
  dir         : Vector PeerRec 8
  lanes       : Vector Lane 4
  clashBarred : List Nat
  link        : Link
  bp          : Backplane
  sel         : Selector
  rollTimer   : Option Nat
  joinQuiet   : Option Nat
  muteRest    : Option Nat
  joinMark    : Bool
  echoPointer : Nat
  pending     : List Instr
deriving DecidableEq, Repr

/-! ### Reset values -/

/-- R109. -/
def Sync.reset : Sync := { synced := false, boundary := none, lockHit := none, hits := 0, misses := 0, qualified := false }

/-- R84, R55, R128. -/
def Lane.reset : Lane :=
  { state := .idle, role := .free, slot := none, input := .a, nextInput := .a,
    tuner := { freq := 0, bandwidth := .mhz6 }, settings := .steady, margin := 0,
    residual := 0, periodErrors := 0, lowPeriods := 0, steadyRun := 0, lockClock := none, retryCount := 0,
    stateTimer := none, periodClock := none, sync := .reset, buffer := [], gate := false, taker := none,
    traceNo := 0, mark := .none, bidTerm := none, clashSeen := false, clashStreak := 0, qualityStreak := 0, ctx := .none }

/-- R172: ABSENT with everything absent. -/
def PeerRec.absent : PeerRec :=
  { state := .absent, mode := none, lastRoll := none, digest := none, lanes := none, staleTimer := none,
    staleMark := false }

/-- R172: the directory after reset, SELF at the own number. -/
def resetDir (self : Station) : Vector PeerRec 8 :=
  (Vector.replicate 8 PeerRec.absent).set self { PeerRec.absent with state := .self }

/-- R151, R152, R158. -/
def Link.reset : Link :=
  { queue := [], onAir := none, notedRoll := false, notedReport := false, owed := [], due := [], ack := .none, spoil := 0,
    unseen := 0, badRx := 0, lastRoll := 0#8 }

/-- R181, R182: before the loader starts. -/
def Loader.reset : Loader :=
  { phase := .off, attempts := 0, wait := none, pulses := 0, working := [], port := [],
    answer := { lowReads := 0, moments := 0, memory := [], canStop := false } }

/-- R123: the first frame mark starts outlet 0 (log 4). -/
def Backplane.reset : Backplane := { pos := .awaiting, driven := none, reader := none }

/-- R193. -/
def Selector.reset : Selector := { kind := .station, index := 0, refused := false, outcome := .none }

/-- R3, R31: every clock stopped, no place, nothing tried. -/
def RowLocal.reset : RowLocal :=
  { bidClock := none, place := none, tried := false, reclaimWait := none, standbyClock := none, standbyPlace := none,
    standbyTried := false }

/-- R4: an UNKNOWN row with its local data at rest. -/
def Entry.unknown : Entry := { row := .unknown, loc := .reset }

/-- The station right after power-on: the reset is still in progress, the station number not yet sampled (R159, R180;
log 3). -/
def State.reset : State :=
  { inReset := true, lineFound := false, number := Config.numberBeforeSample, mode := .loading,
    barredCause := .none, resetCause := .power,
    loader := .reset, plan := none, table := [], dir := resetDir Config.numberBeforeSample,
    lanes := Vector.replicate 4 Lane.reset, clashBarred := [], link := .reset, bp := .reset, sel := .reset,
    rollTimer := none, joinQuiet := none, muteRest := none, joinMark := false, echoPointer := 0, pending := [] }

end Sys2Proof.Machine
end

