-- ==== Sys2Proof/Machine/Align.lean ====
section
/-! DEFINITION. Align.lean: the alignment test and the pairing of a taker's giver trace with its buffer (R119, R120). -/

namespace Sys2Proof.Machine

/-- What the comparison of the entries after a match gives (R119). -/
inductive Compared where
  | equal
  | differs
  | undecided
deriving DecidableEq, Repr

/-- Up to `n` pairs are compared; a buffer that runs out first counts as a difference (R119, steps 3 to 7). -/
def comparePairs : Nat → List TraceEntry → List PacketRec → Compared
  | 0, _, _ => .equal
  | _ + 1, [], _ => .undecided
  | _ + 1, _ :: _, [] => .differs
  | n + 1, t :: ts, b :: bs => if t.signature = b.signature then comparePairs n ts bs else .differs

/-- The records that follow the newest record with the signature (R119, steps 2 and 3). -/
def afterNewest (sig : Word16) : List PacketRec → Option (List PacketRec)
  | [] => none
  | b :: bs =>
    match afterNewest sig bs with
    | some rest => some rest
    | none => if b.signature = sig then some bs else none

/-- What a trace or buffer arrival leads to: the trace, the buffer and the alignment state after it, and whether the entry
marked LAST was consumed. -/
abbrev Aligned := List TraceEntry × List PacketRec × Bool × Bool

/-- The alignment test of an UNALIGNED lane (R119). Entries behind the four that match are discarded with the trace, and the lane is
ALIGNED: the model's choice (log 53). -/
def alignTest : List TraceEntry → List PacketRec → Aligned
  | [], buf => ([], buf, false, false)
  | t :: ts, buf =>
    match afterNewest t.signature buf with
    | none => alignTest ts buf
    | some rest =>
      match comparePairs 3 ts rest with
      | .equal => ([], rest.drop 3, true, (t :: ts.take 3).any (·.last))
      | .differs => alignTest ts buf
      | .undecided => (t :: ts, buf, false, false)

/-- The pairing of an ALIGNED lane (R120), which ends where an entry marked LAST is consumed (R68). -/
def pairUp : List TraceEntry → List PacketRec → Aligned
  | [], buf => ([], buf, true, false)
  | t :: ts, [] => (t :: ts, [], true, false)
  | t :: ts, b :: bs =>
    if t.signature = b.signature then (if t.last then (ts, bs, true, true) else pairUp ts bs)
    else (t :: ts, b :: bs, false, false)

/-- An entry joins the trace, which holds at most eight (R118). -/
def joinTrace (trace : List TraceEntry) (e : TraceEntry) : List TraceEntry :=
  (if trace.length < 8 then trace else trace.drop 1) ++ [e]

/-- An entry arrives at the trace (R119, R120, R121). -/
def traceStep (aligned : Bool) (trace : List TraceEntry) (buf : List PacketRec) (e : TraceEntry) : Aligned :=
  let trace := joinTrace trace e
  if aligned then
    match pairUp trace buf with
    | (tr, b, al, last) => (tr, b, al && tr.length < 8, last)
  else alignTest trace buf

/-- A record joins a buffer, which holds at most 32; at a full buffer the oldest is discarded (R114, R115). -/
def joinBuffer (buf : List PacketRec) (r : PacketRec) : List PacketRec :=
  (if buf.length < 32 then buf else buf.drop 1) ++ [r]

end Sys2Proof.Machine
end

