-- ==== Sys2Proof/WellFormed.lean ====
section
/-! DEFINITION. WellFormed.lean: which commands a station's surroundings can send it. The machine answers every command,
well formed or not; a command that is not well formed stands for nothing the lines of a station could carry. -/

namespace Sys2Proof

/-- A phase byte whose phase code is 3 declares no length (R205). -/
def RowRecord.wf (r : RowRecord) : Bool :=
  match r.phaseHold with
  | none => true
  | some b => b.toNat % 4 != 3

/-- The echo count a ROLL's mode permits (R205). -/
def RollBody.countWf (b : RollBody) : Bool :=
  match b.mode with
  | .joining | .isolated => b.echoes.length == 0
  | .joined | .resting => b.echoes.length == 1 || b.echoes.length == 2

/-- A ROLL body that has a permitted length (R205). -/
def RollBody.wf (b : RollBody) : Bool := b.countWf && b.echoes.all RowRecord.wf

/-- A REPORT body that has a permitted length (R206). -/
def ReportBody.wf (b : ReportBody) : Bool :=
  match b.record with
  | .row r => r.wf
  | _ => true

/-- A frame whose declaring fields are all defined, so that it has a permitted length (R203 to R206). -/
def Frame.wf : Frame → Bool
  | .roll b => b.wf
  | .report b => b.wf
  | _ => true

/-- A delivered packet is 188 bytes and begins with the sync value 47h (R110, R208). -/
def packetWf (bytes : List Byte) : Bool := bytes.length == 188 && bytes.head? == some 0x47#8

/-- The lines of a whole window: 188 bytes, and a mark at clock 0 is a mark in some clock (R208). -/
def WindowLines.wf (w : WindowLines) : Bool :=
  w.bytes.length == 188 && (!w.valid || w.validAny) && (!w.last || w.lastAny)

/-- At most 259 byte slots are received (R144). -/
def RawFrame.wf (r : RawFrame) : Bool := r.bytes.length ≤ 259

/-- A margin is 0 to 63 (R84). -/
def marginWf (m : Nat) : Bool := m ≤ 63

/-- A slot number is 0 to 19 (R2). -/
def slotWf (k : Nat) : Bool := k < 20

/-- CFGD is read once before the first and once after each of the nine pulses (R182). -/
def PortAnswer.wf (a : PortAnswer) : Bool := a.lowReads ≤ 10

/-- The commands that a station can be given. -/
def Instr.wf : Instr → Bool
  | .powerOnReset => true
  | .pinReset => true
  | .resetEnd _ a => a.wf
  | .clockHoldTimeout => true
  | .loadNoAnswer => true
  | .loadRetryWaitExpiry a => a.wf
  | .loadAttemptComplete _ => true
  | .frameSendStart _ => true
  | .duplicateSendMismatch => true
  | .frameOwnNumberReceived _ => true
  | .frameCheckFailed r => r.wf
  | .frameSpoiled _ _ => true
  | .ownFrameSpoiled => true
  | .ownFrameVoid => true
  | .spoilStreakLimit => true
  | .unseenStreakLimit => true
  | .badReceiveStreakLimit r => r.wf
  | .quiet _ _ _ => true
  | .quietAboutSelf _ _ => true
  | .cedeCarrier _ _ _ _ _ => true
  | .cedeStandby _ _ _ _ _ => true
  | .bidCarrier _ _ _ _ _ => true
  | .bidStandby _ _ _ _ _ => true
  | .swapOffer _ _ _ => true
  | .swapReady _ _ _ => true
  | .swapGo _ _ _ _ => true
  | .swapHold _ _ _ _ => true
  | .swapDone _ _ _ _ => true
  | .swapDrop _ _ _ _ => true
  | .roll _ b => b.wf
  | .query _ _ _ _ => true
  | .report _ b => b.wf
  | .directiveClear _ _ _ => true
  | .directiveYield _ _ _ => true
  | .directiveSwap _ _ _ => true
  | .directiveRest _ _ _ => true
  | .directiveResume _ _ _ => true
  | .directiveUnknownAction _ _ a _ => decide (5 ≤ a.toNat)
  | .rollTimerExpiry => true
  | .staleTimerExpiry _ => true
  | .joinQuietExpiry => true
  | .muteRestExpiry => true
  | .bidClockDue k => slotWf k
  | .standbyBidClockDue k => slotWf k
  | .reclaimWaitExpiry k => slotWf k
  | .alignTimerExpiry _ => true
  | .tuneTimeEnd _ => true
  | .guardDetected _ => true
  | .stageWindowExpiry _ _ => true
  | .qualityPeriodClose _ m => marginWf m
  | .acq3SyncLock _ _ => true
  | .holdoverReturn _ _ => true
  | .syncMissLimit _ _ => true
  | .holdoverWindowExpiry _ => true
  | .retryLimitSpent _ => true
  | .retryPeriodEnd _ => true
  | .lockClock60s _ => true
  | .steadyRunComplete _ m => marginWf m
  | .qualityTrigger _ m => marginWf m
  | .clashStreakLimit _ m => marginWf m
  | .overrunLimit w => w.wf
  | .drainCountdownEnd _ w => w.wf
  | .packetArrival _ _ b _ => packetWf b
  | .windowStart _ => true
  | .windowEnd w => w.wf
  | .cycleCutShort => true
  | .syncHit _ _ => true
  | .syncMiss _ _ => true

end Sys2Proof
end

