-- ==== Sys2Proof/Machine/Formats.lean ====
section
/-! DEFINITION. Formats.lean: the layout of every frame (R203 to R206) and the receive check (R144). -/

namespace Sys2Proof.Machine

/-- The kind code (R141). -/
def Frame.code : Frame → Nat
  | .quiet .. => 0
  | .cede .. => 1
  | .swapDrop .. => 2
  | .swapDone .. => 3
  | .swapGo .. => 4
  | .swapHold .. => 5
  | .swapReady .. => 6
  | .swapOffer .. => 7
  | .bid .. => 8
  | .directive .. => 9
  | .query .. => 10
  | .report .. => 11
  | .roll .. => 12

/-- The reason byte of a CEDE and its for-slot byte (R203, R204). -/
def reasonBytes : CedeReason → List Byte
  | .lost => [0#8]
  | .reclaimed fs => [1#8, fs]
  | .clash => [2#8]
  | .yielded => [3#8]
  | .resting => [4#8]

def RollMode.byte : RollMode → Byte
  | .joining => 0#8
  | .joined => 1#8
  | .resting => 2#8
  | .isolated => 3#8

def RowCode.byte : RowCode → Byte
  | .unknown => 0#8
  | .opened => 1#8
  | .carried => 2#8
  | .swapping => 3#8

def summaryBytes (l : LaneSummary) : List Byte := [l.state, l.role, l.slot, l.margin]

def summariesBytes (v : Vector LaneSummary 4) : List Byte :=
  summaryBytes v[0] ++ summaryBytes v[1] ++ summaryBytes v[2] ++ summaryBytes v[3]

/-- A byte from its bits, bit 0 first. -/
def byteOfBits (b0 b1 b2 b3 b4 b5 : Bool) : Byte :=
  BitVec.ofNat 8 (b0.toNat + 2 * b1.toNat + 4 * b2.toNat + 8 * b3.toNat + 16 * b4.toNat + 32 * b5.toNat)

/-- The presence byte of a row record (R205). -/
def RowRecord.presence (r : RowRecord) : Byte :=
  byteOfBits r.termReclaims.isSome r.carrier.isSome r.standby.isSome r.lastCarrier.isSome r.phaseHold.isSome
    r.drainCount.isSome

/-- A row record (R205). -/
def RowRecord.bytes (r : RowRecord) : List Byte :=
  [r.slot, RowCode.byte r.state, RowRecord.presence r]
    ++ (match r.termReclaims with | none => [] | some (t, n) => wordBytes t ++ [n])
    ++ r.carrier.toList ++ r.standby.toList ++ r.lastCarrier.toList ++ r.phaseHold.toList ++ r.drainCount.toList

/-- The record kind code of a record body (R203). -/
def RecordBody.kind : RecordBody → Byte
  | .station .. => 0#8
  | .lane .. => 1#8
  | .row .. => 2#8
  | .peer .. => 3#8
  | .plan .. => 4#8

/-- A record body (R206). -/
def RecordBody.bytes : RecordBody → List Byte
  | .station m b r n sp un bad al pn dg => [m, b, r, n, sp, un, bad, al] ++ wordBytes pn ++ wordBytes dg
  | .lane st ro sl inp se ma res re sy ga oc al => [st, ro, sl, inp, se, ma] ++ wordBytes res ++ [re, sy, ga, oc, al]
  | .row r => RowRecord.bytes r
  | .peer st stale mode roll dg lanes =>
      [st, byteOfBits mode.isSome roll.isSome dg.isSome lanes.isSome false false, stale]
        ++ mode.toList ++ roll.toList ++ (match dg with | none => [] | some d => wordBytes d)
        ++ (match lanes with | none => [] | some v => summariesBytes v)
  | .plan f2 f1 f0 fl rk ou ho ma => [f2, f1, f0, fl, rk, ou, ho, ma]

/-- A frame's body (R204 to R206). -/
def Frame.body : Frame → List Byte
  | .quiet subject roll => [subject, roll]
  | .cede slot role term lane reason => [slot, role] ++ wordBytes term ++ [lane] ++ reasonBytes reason
  | .swapDrop slot term reason => [slot] ++ wordBytes term ++ [reason]
  | .swapDone slot newTerm lane => [slot] ++ wordBytes newTerm ++ [lane]
  | .swapGo slot term drainCount => [slot] ++ wordBytes term ++ [drainCount]
  | .swapHold slot term hold => [slot] ++ wordBytes term ++ [hold]
  | .swapReady slot term => [slot] ++ wordBytes term
  | .swapOffer slot term => [slot] ++ wordBytes term
  | .bid slot role term lane margin => [slot, role] ++ wordBytes term ++ [lane, margin]
  | .directive target action argument => [target, action, argument]
  | .query target kind index => [target, kind, index]
  | .report b => [RecordBody.kind b.record, b.index, BitVec.ofNat 8 b.refused.toNat, b.outcome] ++ RecordBody.bytes b.record
  | .roll b =>
      [b.number, RollMode.byte b.mode] ++ wordBytes b.digest ++ summariesBytes b.lanes
        ++ [BitVec.ofNat 8 b.echoes.length] ++ (b.echoes.map RowRecord.bytes).flatten

/-- The header byte: kind code in bits 7 to 4, sender number in bits 3 to 0 (R203). -/
def headerByte (sender : BitVec 4) (code : Nat) : Byte := BitVec.ofNat 4 code ++ sender

/-- The bytes of a frame: header, length, body, check sequence (R138, R203). -/
def encodeFrame (sender : BitVec 4) (f : Frame) : List Byte :=
  let body := Frame.body f
  let covered := headerByte sender (Frame.code f) :: BitVec.ofNat 8 body.length :: body
  covered ++ wordBytes (checkSequence covered)

/-! ### Reading a body back -/

def reasonOf : List Byte → Option CedeReason
  | [r] =>
    if r = 0#8 then some .lost else if r = 2#8 then some .clash else if r = 3#8 then some .yielded
    else if r = 4#8 then some .resting else none
  | [r, fs] => if r = 1#8 then some (.reclaimed fs) else none
  | _ => none

def rollModeOf (b : Byte) : Option RollMode :=
  if b = 0#8 then some .joining else if b = 1#8 then some .joined else if b = 2#8 then some .resting
  else if b = 3#8 then some .isolated else none

def rowCodeOf (b : Byte) : Option RowCode :=
  if b = 0#8 then some .unknown else if b = 1#8 then some .opened else if b = 2#8 then some .carried
  else if b = 3#8 then some .swapping else none

/-- A field that a presence bit declares: one byte when the bit is set. -/
def takeIf (present : Bool) (bytes : List Byte) : Option (Option Byte × List Byte) :=
  match present, bytes with
  | false, bs => some (none, bs)
  | true, b :: bs => some (some b, bs)
  | true, [] => none

/-- Term and reclaims, three bytes when the bit is set (R205). -/
def takeTermIf (present : Bool) (bytes : List Byte) : Option (Option (Term × Byte) × List Byte) :=
  match present, bytes with
  | false, bs => some (none, bs)
  | true, h :: l :: n :: bs => some (some (wordOf h l, n), bs)
  | true, _ => none

/-- One row record at the front of a list of bytes (R205). -/
def rowRecordOf : List Byte → Option (RowRecord × List Byte)
  | slot :: st :: pr :: rest =>
    if pr.getLsbD 6 || pr.getLsbD 7 then none else
    match rowCodeOf st with
    | none => none
    | some code =>
    match takeTermIf (pr.getLsbD 0) rest with
    | none => none
    | some (tr, rest) =>
    match takeIf (pr.getLsbD 1) rest with
    | none => none
    | some (ca, rest) =>
    match takeIf (pr.getLsbD 2) rest with
    | none => none
    | some (sb, rest) =>
    match takeIf (pr.getLsbD 3) rest with
    | none => none
    | some (lc, rest) =>
    match takeIf (pr.getLsbD 4) rest with
    | none => none
    | some (ph, rest) =>
    match takeIf (pr.getLsbD 5) rest with
    | none => none
    | some (dc, rest) =>
      let r : RowRecord :=
        { slot := slot, state := code, termReclaims := tr, carrier := ca, standby := sb, lastCarrier := lc,
          phaseHold := ph, drainCount := dc }
      if r.wf then some (r, rest) else none
  | _ => none

/-- The given number of row records, with nothing after them. -/
def rowRecordsOf : Nat → List Byte → Option (List RowRecord)
  | 0, [] => some []
  | 0, _ :: _ => none
  | n + 1, bytes =>
    match rowRecordOf bytes with
    | none => none
    | some (r, rest) => (rowRecordsOf n rest).map (r :: ·)

/-- A ROLL body (R205). -/
def rollOf : List Byte → Option RollBody
  | n :: m :: d1 :: d0 :: a0 :: a1 :: a2 :: a3 :: b0 :: b1 :: b2 :: b3 :: c0 :: c1 :: c2 :: c3 :: e0 :: e1 :: e2 :: e3
      :: count :: rest =>
    match rollModeOf m with
    | none => none
    | some mode =>
    match rowRecordsOf count.toNat rest with
    | none => none
    | some echoes =>
      let b : RollBody :=
        { number := n, mode := mode, digest := wordOf d1 d0,
          lanes := #v[⟨a0, a1, a2, a3⟩, ⟨b0, b1, b2, b3⟩, ⟨c0, c1, c2, c3⟩, ⟨e0, e1, e2, e3⟩], echoes := echoes }
      if b.countWf then some b else none
  | _ => none

/-- The four lane summaries of a PEER body, with nothing after them. -/
def summariesIf (present : Bool) (bytes : List Byte) : Option (Option (Vector LaneSummary 4)) :=
  match present, bytes with
  | false, [] => some none
  | true, [a0, a1, a2, a3, b0, b1, b2, b3, c0, c1, c2, c3, e0, e1, e2, e3] =>
    some (some #v[⟨a0, a1, a2, a3⟩, ⟨b0, b1, b2, b3⟩, ⟨c0, c1, c2, c3⟩, ⟨e0, e1, e2, e3⟩])
  | _, _ => none

/-- The digest of a PEER body. -/
def takeWordIf (present : Bool) (bytes : List Byte) : Option (Option Word16 × List Byte) :=
  match present, bytes with
  | false, bs => some (none, bs)
  | true, h :: l :: bs => some (some (wordOf h l), bs)
  | true, _ => none

/-- The record body of a PEER selection (R206). -/
def peerBodyOf : List Byte → Option RecordBody
  | st :: pr :: stale :: rest =>
    if pr.getLsbD 4 || pr.getLsbD 5 || pr.getLsbD 6 || pr.getLsbD 7 then none else
    match takeIf (pr.getLsbD 0) rest with
    | none => none
    | some (mode, rest) =>
    match takeIf (pr.getLsbD 1) rest with
    | none => none
    | some (roll, rest) =>
    match takeWordIf (pr.getLsbD 2) rest with
    | none => none
    | some (dg, rest) =>
      (summariesIf (pr.getLsbD 3) rest).map fun lanes => .peer st stale mode roll dg lanes
  | _ => none

/-- The record body that a record kind declares (R206). -/
def recordOf (kind : Byte) (bytes : List Byte) : Option RecordBody :=
  if kind = 0#8 then
    match bytes with
    | [m, b, r, n, sp, un, bad, al, p1, p0, d1, d0] => some (.station m b r n sp un bad al (wordOf p1 p0) (wordOf d1 d0))
    | _ => none
  else if kind = 1#8 then
    match bytes with
    | [st, ro, sl, inp, se, ma, r1, r0, re, sy, ga, oc, al] =>
      some (.lane st ro sl inp se ma (wordOf r1 r0) re sy ga oc al)
    | _ => none
  else if kind = 2#8 then
    match rowRecordOf bytes with
    | some (r, []) => some (.row r)
    | _ => none
  else if kind = 3#8 then peerBodyOf bytes
  else if kind = 4#8 then
    match bytes with
    | [f2, f1, f0, fl, rk, ou, ho, ma] => some (.plan f2 f1 f0 fl rk ou ho ma)
    | _ => none
  else none

/-- A REPORT body (R206). Bits 1 to 7 of the flags byte are not acted on. -/
def reportOf : List Byte → Option ReportBody
  | kind :: index :: flags :: outcome :: rest =>
    (recordOf kind rest).map fun r => { index := index, refused := flags.getLsbD 0, outcome := outcome, record := r }
  | _ => none

/-- The frame that a kind code and a body spell, where the body has a length its kind permits (R204 to R206). -/
def frameOf : Nat → List Byte → Option Frame
  | 0, [a, b] => some (.quiet a b)
  | 1, slot :: role :: t1 :: t0 :: lane :: rest => (reasonOf rest).map fun r => .cede slot role (wordOf t1 t0) lane r
  | 2, [slot, t1, t0, x] => some (.swapDrop slot (wordOf t1 t0) x)
  | 3, [slot, t1, t0, x] => some (.swapDone slot (wordOf t1 t0) x)
  | 4, [slot, t1, t0, x] => some (.swapGo slot (wordOf t1 t0) x)
  | 5, [slot, t1, t0, x] => some (.swapHold slot (wordOf t1 t0) x)
  | 6, [slot, t1, t0] => some (.swapReady slot (wordOf t1 t0))
  | 7, [slot, t1, t0] => some (.swapOffer slot (wordOf t1 t0))
  | 8, [slot, role, t1, t0, lane, margin] => some (.bid slot role (wordOf t1 t0) lane margin)
  | 9, [a, b, c] => some (.directive a b c)
  | 10, [a, b, c] => some (.query a b c)
  | 11, body => (reportOf body).map .report
  | 12, body => (rollOf body).map .roll
  | _, _ => none

/-- The receive check (R144): the sender and the frame where every test passes. -/
def receiveCheck (raw : RawFrame) : Option (BitVec 4 × Frame) :=
  if raw.badStop || raw.endless then none else
  match raw.bytes with
  | header :: len :: rest =>
    if rest.length = len.toNat + 2
        ∧ wordBytes (checkSequence (header :: len :: rest.take len.toNat)) = rest.drop len.toNat then
      (frameOf (header.toNat / 16) (rest.take len.toNat)).map fun f => (header.extractLsb' 0 4, f)
    else none
  | _ => none

end Sys2Proof.Machine
end

