-- ==== Sys2Proof/Machine/Operands.lean ====
section
/-! DEFINITION. Operands.lean: what the byte operands of a frame name: slots, stations, lanes, roles, pairs and codes (R203 to
R206). A byte that is no defined code names nothing. -/

namespace Sys2Proof.Machine

/-- The lane a lane byte names (R204): above 3, none. -/
def laneOf (b : Byte) : Option LaneId := if h : b.toNat < 4 then some ⟨b.toNat, h⟩ else none

/-- The station a byte names: above 7, none. -/
def stationOf (b : Byte) : Option Station := if h : b.toNat < 8 then some ⟨b.toNat, h⟩ else none

/-- The station that sent a frame: senders 8 to 15 are attendants (R141). -/
def senderStation (b : BitVec 4) : Option Station := if h : b.toNat < 8 then some ⟨b.toNat, h⟩ else none

/-- The role code of a BID or CEDE (R203). -/
def carriageRoleOf (b : Byte) : Option CarriageRole :=
  if b = 0#8 then some .carrier else if b = 1#8 then some .standby else none

def CarriageRole.byte : CarriageRole → Byte
  | .carrier => 0#8
  | .standby => 1#8

/-- The reason code of a SWAP-DROP (R203). -/
def dropReasonOf (b : Byte) : Option DropReason :=
  if b = 0#8 then some .alignTimeout else if b = 1#8 then some .takerLost else if b = 2#8 then some .overrun
  else if b = 3#8 then some .directed else none

def DropReason.byte : DropReason → Byte
  | .alignTimeout => 0#8
  | .takerLost => 1#8
  | .overrun => 2#8
  | .directed => 3#8

/-- The hold code of a SWAP-HOLD (R203): SET or RELEASE. -/
def holdOf (b : Byte) : Option Bool := if b = 1#8 then some true else if b = 0#8 then some false else none

def holdByte (hold : Bool) : Byte := if hold then 1#8 else 0#8

/-- The record kind code of a QUERY (R203). -/
def recordKindOf (b : Byte) : Option RecordKind :=
  if b = 0#8 then some .station else if b = 1#8 then some .lane else if b = 2#8 then some .row
  else if b = 3#8 then some .peer else if b = 4#8 then some .plan else none

/-- A pair byte: bits 6 to 4 the station, bits 1 and 0 the lane (R203). -/
def pairByte (p : Pair) : Byte := BitVec.ofNat 8 (16 * p.station.val + p.lane.val)

/-- The pair a pair byte names; with bits 7, 3 or 2 set, none (R205). -/
def pairOf (b : Byte) : Option Pair :=
  if b.getLsbD 7 || b.getLsbD 3 || b.getLsbD 2 then none
  else some { station := Fin.ofNat 8 (b.toNat / 16), lane := Fin.ofNat 4 (b.toNat % 16) }

def byteOf (n : Nat) : Byte := BitVec.ofNat 8 n

def LaneState.byte : LaneState → Byte
  | .idle => 0#8
  | .tune => 1#8
  | .acq1 => 2#8
  | .acq2 => 3#8
  | .acq3 => 4#8
  | .locked => 5#8
  | .holdover => 6#8
  | .retryWait => 7#8
  | .spent => 8#8

def LaneRole.byte : LaneRole → Byte
  | .free => 0#8
  | .trial => 1#8
  | .carrier => 2#8
  | .standby => 3#8
  | .taker => 4#8
  | .giver => 5#8
  | .home => 6#8

def Mode.byte : Mode → Byte
  | .joining => 0#8
  | .joined => 1#8
  | .resting => 2#8
  | .isolated => 3#8
  | .loading => 4#8
  | .barred => 5#8
  | .mute => 6#8

def DirState.byte : DirState → Byte
  | .self => 0#8
  | .absent => 1#8
  | .present => 2#8
  | .silent => 3#8
  | .alien => 4#8

def BarredCause.byte : BarredCause → Byte
  | .none => 0#8
  | .planBad => 1#8
  | .duplicate => 2#8

def ResetCause.byte : ResetCause → Byte
  | .power => 0#8
  | .pin => 1#8
  | .quieted => 2#8
  | .isolationEnd => 3#8
  | .muteEnd => 4#8

def DirOutcome.byte : DirOutcome → Byte
  | .none => 0#8
  | .done => 1#8
  | .refusedBusy => 2#8
  | .refusedState => 3#8
  | .unknownSlot => 4#8
  | .unknownAction => 5#8

def slotByte : Option Nat → Byte
  | none => 0xFF#8
  | some k => byteOf k

def boolByte (b : Bool) : Byte := if b then 1#8 else 0#8

end Sys2Proof.Machine
end

