-- ==== Sys2Proof/Machine/Profile.lean ====
section
/-! DEFINITION. Profile.lean: the timings and thresholds of the two profiles and of the two settings (R86), and the retry
periods (R98). Times are in milliseconds. -/

namespace Sys2Proof.Machine

/-- The window of an acquisition stage (R86). -/
def stageWindow (p : Profile) (st : AcqStage) : Nat :=
  match p, st with
  | .fixed, .acq1 => 100
  | .fixed, .acq2 => 200
  | .fixed, .acq3 => 300
  | .sfn, .acq1 => 200
  | .sfn, .acq2 => 400
  | .sfn, .acq3 => 400

/-- The margin at which ACQ2 passes (R86, R90). -/
def acq2Threshold : Profile → Nat
  | .fixed => 10
  | .sfn => 8

/-- The sync hits K (R86). -/
def syncHitsK : Profile → Nat
  | .fixed => 5
  | .sfn => 8

/-- The lock floor of a profile under given settings (R86). -/
def lockFloor (p : Profile) (st : Settings) : Nat :=
  match p, st with
  | .fixed, .steady => 6
  | .fixed, .recovery => 4
  | .sfn, .steady => 4
  | .sfn, .recovery => 2

/-- The sync miss limit M (R86). -/
def syncMissM : Settings → Nat
  | .steady => 3
  | .recovery => 6

/-- The holdover window (R86). -/
def holdoverWindow : Profile → Nat
  | .fixed => 400
  | .sfn => 800

/-- The swap floor (R86, R56). -/
def swapFloor : Profile → Nat
  | .fixed => 12
  | .sfn => 10

/-- The retry period for the count just reached (R98). -/
def retryPeriod (count : Nat) : Nat :=
  if count ≤ 3 then 500 else if count ≤ 7 then 1000 else if count ≤ 11 then 2000 else 4000

/-- A count that stays at its largest value (Conventions). -/
def satInc (limit n : Nat) : Nat := if n < limit then n + 1 else limit

end Sys2Proof.Machine
end

