-- ==== Sys2Proof/Machine/Ops.lean ====
section
/-! DEFINITION. Ops.lean: reading and writing the parts of a station: plan, rows, lanes, directory. -/

namespace Sys2Proof.Machine

/-! ### Plan -/

/-- The slot records; none while the store is EMPTY (R181). -/
def State.slots (s : State) : List SlotRec :=
  match s.plan with
  | none => []
  | some p => p.slots

/-- The slot count N (R181). -/
def State.slotCount (s : State) : Nat := s.slots.length

def State.slotRec (s : State) (k : Nat) : Option SlotRec := s.slots[k]?

def State.standbyWanted (s : State) (k : Nat) : Bool :=
  match s.slotRec k with
  | none => false
  | some r => r.standbyWanted

def State.profile (s : State) (k : Option Nat) : Profile :=
  match k.bind s.slotRec with
  | none => .fixed
  | some r => r.profile

/-- The input that a slot record gives, A where the plan has no record. -/
def recInput (r : Option SlotRec) : SlotInput :=
  match r with
  | none => .a
  | some r => r.input

def State.slotInput (s : State) (k : Option Nat) : SlotInput := recInput (k.bind s.slotRec)

/-- Station `x` is in the slot's candidate mask (R187). -/
def State.inMask (s : State) (k : Nat) (x : Station) : Bool :=
  match s.slotRec k with
  | none => false
  | some r => r.mask.getLsbD x.val

def State.rank (s : State) (k : Nat) : Nat :=
  match s.slotRec k with
  | none => 0
  | some r => r.rank

def State.outlet (s : State) (k : Nat) : Option Nat := (s.slotRec k).map (·.outlet)

def State.digest (s : State) : Word16 :=
  match s.plan with
  | none => 0#16
  | some p => p.digest

def State.drainCount (s : State) : Nat :=
  match s.plan with
  | none => 0
  | some p => p.drainCount

def State.retryMode (s : State) : RetryMode :=
  match s.plan with
  | none => .limited
  | some p => p.retry

/-! ### Rows -/

/-- The row of a slot; a slot the table has no row for reads UNKNOWN, which no rule acts on (R1, R6, R191). -/
def State.row (s : State) (k : Nat) : Row :=
  match s.table[k]? with
  | none => .unknown
  | some e => e.row

def State.loc (s : State) (k : Nat) : RowLocal :=
  match s.table[k]? with
  | none => .reset
  | some e => e.loc

def Row.isUnknown : Row → Bool
  | .unknown => true
  | _ => false

def Row.isOpen : Row → Bool
  | .opened .. => true
  | _ => false

def Row.isSwapping : Row → Bool
  | .swapping .. => true
  | _ => false

def Row.term : Row → Option Term
  | .unknown => none
  | .opened t _ _ => some t
  | .carried t _ _ _ => some t
  | .swapping t _ _ _ _ => some t

def Row.carrier : Row → Option Pair
  | .carried _ c _ _ => some c
  | .swapping _ c _ _ _ => some c
  | _ => none

def Row.standby : Row → Option Pair
  | .carried _ _ sb _ => sb
  | .swapping _ _ sb _ _ => some sb
  | _ => none

def Row.last : Row → Option Station
  | .unknown => none
  | .opened _ l _ => l
  | .carried _ _ _ l => l
  | .swapping _ _ _ l _ => l

/-- The pair a row names in a role. -/
def Row.named (r : Row) (role : CarriageRole) : Option Pair :=
  match role with
  | .carrier => r.carrier
  | .standby => r.standby

/-- The row names the pair (R2). -/
def Row.names (r : Row) (p : Pair) : Bool := r.carrier == some p || r.standby == some p

/-- The row names station `x`. -/
def Row.namesStation (r : Row) (x : Station) : Bool :=
  (r.carrier.any fun p => p.station == x) || (r.standby.any fun p => p.station == x)

/-- The present term of a slot's row, 0 where the row has none. -/
def State.termOf (s : State) (k : Nat) : Term := (s.row k).term.getD 0#16

/-- Some row names the pair (R9, R10). -/
def State.pairNamed (s : State) (p : Pair) : Bool := s.table.any fun e => e.row.names p

/-- Some row other than slot `k`'s names the pair (R24). -/
def State.pairNamedElsewhere (s : State) (k : Nat) (p : Pair) : Bool :=
  (List.range s.table.length).any fun j => j != k && (s.row j).names p

/-- The row is CARRIED, names no standby and its slot is standby-wanted: the condition of R45. -/
def Row.lacksStandby (r : Row) : Bool :=
  match r with
  | .carried _ _ none _ => true
  | _ => false

/-- The local data of a row after a frame has made it `new` (R3, R45). -/
def RowLocal.follow (loc : RowLocal) (wanted : Bool) (new : Row) : RowLocal :=
  if new.isOpen then
    { loc with bidClock := some 0, reclaimWait := some 3000, standbyClock := none, standbyPlace := none }
  else if new.lacksStandby && wanted then
    { RowLocal.reset with standbyClock := some 0, standbyPlace := loc.standbyPlace }
  else { RowLocal.reset with standbyTried := loc.standbyTried }

def State.setEntry (s : State) (k : Nat) (e : Entry) : State := { s with table := s.table.set k e }

def State.setLoc (s : State) (k : Nat) (loc : RowLocal) : State := s.setEntry k { row := s.row k, loc := loc }

/-- A change of a slot's row by a completed frame, its local data with it. -/
def State.putRow (s : State) (k : Nat) (r : Row) : State :=
  s.setEntry k { row := r, loc := (s.loc k).follow (s.standbyWanted k) r }

/-! ### Lanes -/

def State.lane (s : State) (l : LaneId) : Lane := s.lanes[l]

def State.setLane (s : State) (l : LaneId) (x : Lane) : State := { s with lanes := s.lanes.set l x }

def State.modLane (s : State) (l : LaneId) (f : Lane → Lane) : State := s.setLane l (f (s.lane l))

/-- Every lane changed by one function. -/
def State.mapLanes (s : State) (f : Lane → Lane) : State := { s with lanes := s.lanes.map f }

/-- One action for each lane in lane order. -/
def State.forLanes (s : State) (f : LaneId → State → State) : State := allLanes.foldl (fun s l => f l s) s

/-- A lane of this station is bound to the slot. -/
def State.slotBound (s : State) (k : Nat) : Bool := allLanes.any fun l => (s.lane l).slot == some k

/-! ### Directory -/

def State.peer (s : State) (x : Station) : PeerRec := s.dir[x]

def State.setPeer (s : State) (x : Station) (r : PeerRec) : State := { s with dir := s.dir.set x r }

/-- A PRESENT peer is in the directory (R8, R146). -/
def State.presentPeer (s : State) : Bool := allStations.any fun x => (s.peer x).state == .present

/-- The sender's record is PRESENT with mode JOINED; for the station itself the SELF record stands in (R8, R9). -/
def State.isJoinedStation (s : State) (x : Station) : Bool :=
  ((s.peer x).state == .present || x == s.number) && (s.peer x).mode == some .joined

/-- The claim unit is active (R31). -/
def State.claimActive (s : State) : Bool := s.mode == .joined && (s.peer s.number).mode == some .joined

/-- The modes in which carriage roles exist (R102). -/
def Mode.holdsRoles : Mode → Bool
  | .joined | .resting => true
  | _ => false

/-- The modes in which completed frames reach the table (R6). -/
def Mode.appliesFrames : Mode → Bool
  | .joining | .joined | .resting => true
  | _ => false

/-- The modes in which the link controller sends and checks frames (R140). -/
def Mode.onLink : Mode → Bool
  | .joining | .joined | .resting | .isolated => true
  | _ => false

end Sys2Proof.Machine
end

