-- ==== Sys2Proof/Machine/SendQueue.lean ====
section
/-! DEFINITION. SendQueue.lean: the send queue: joining, discarding, withdrawing, requests (R152 to R156). -/

namespace Sys2Proof.Machine

def QFrame.code : QFrame → Nat
  | .fixed f => Frame.code f
  | .report => 11
  | .roll => 12

/-- An entry joins behind the entries of its own code (R152). -/
def insertEntry (e : QEntry) : List QEntry → List QEntry
  | [] => [e]
  | x :: xs => if QFrame.code e.frame < QFrame.code x.frame then e :: x :: xs else x :: insertEntry e xs

/-- The queue without its last entry that is not on the line, and that entry: the newest frame of the highest code (R154). -/
def takeNewestIdle : List QEntry → Option (List QEntry × QEntry)
  | [] => none
  | x :: xs =>
    match takeNewestIdle xs with
    | some (ys, e) => some (x :: ys, e)
    | none => if x.onLine then none else some (xs, x)

/-- A frame arrives at the queue: the queue after it and the frame discarded, if one is (R154). -/
def arrive (q : QFrame) (queue : List QEntry) : List QEntry × Option QFrame :=
  let e : QEntry := { frame := q, onLine := false }
  if queue.length < 8 then (insertEntry e queue, none)
  else
    match takeNewestIdle queue with
    | none => (queue, some q)
    | some (rest, victim) =>
      if QFrame.code q < QFrame.code victim.frame then (insertEntry e rest, some victim.frame) else (queue, some q)

/-- A discarded frame that its owner queues again at the next completed frame (R147, R64, R175). A BID is renewed at a quality
period, a request is not made, and a CEDE with reason RECLAIMED is a withdrawal (R52). -/
def isOwed : QFrame → Bool
  | .fixed f =>
    match f with
    | .quiet .. => true
    | .cede _ _ _ _ (.reclaimed _) => false
    | .cede .. => true
    | .swapDrop .. => true
    | .swapDone .. => true
    | .swapGo .. => true
    | .swapHold .. => true
    | .swapReady .. => true
    | .swapOffer .. => true
    | _ => false
  | _ => false

/-- The owner's record of a discard. -/
def Link.discard (l : Link) (q : Option QFrame) : Link :=
  match q with
  | none => l
  | some f => if isOwed f then { l with owed := l.owed ++ [f] } else l

/-- A frame is handed to the queue. -/
def Link.join (l : Link) (q : QFrame) : Link :=
  let r := arrive q l.queue
  ({ l with queue := r.1 }).discard r.2

/-- A request of the given kind stands in the queue, on the line or not. -/
def Link.holds (l : Link) (q : QFrame) (onLine : Bool) : Bool :=
  l.queue.any fun e => e.frame == q && e.onLine == onLine

/-- A request for a ROLL (R155). -/
def Link.requestRoll (l : Link) : Link :=
  if l.holds .roll false then l else if l.holds .roll true then { l with notedRoll := true } else l.join .roll

/-- A request for a REPORT (R155). -/
def Link.requestReport (l : Link) : Link :=
  if l.holds .report false then l else if l.holds .report true then { l with notedReport := true } else l.join .report

/-- The frame on the line leaves the queue, and a request noted for it joins (R146, R155). -/
def Link.leaveLine (l : Link) : Link :=
  let wasRoll := l.holds .roll true
  let wasReport := l.holds .report true
  let l' := { l with queue := l.queue.filter (fun e => !e.onLine), onAir := none }
  if wasRoll && l.notedRoll then ({ l' with notedRoll := false }).join .roll
  else if wasReport && l.notedReport then ({ l' with notedReport := false }).join .report
  else l'

/-- The frame on the line stays queued for its retry and meets the request noted for it (R146, R155). -/
def Link.stayQueued (l : Link) : Link :=
  { l with
    queue := l.queue.map (fun e => { e with onLine := false }), onAir := none,
    notedRoll := l.notedRoll && !l.holds .roll true, notedReport := l.notedReport && !l.holds .report true }

/-- The entry is a frame that satisfies the test. -/
def QFrame.meets (p : Frame → Bool) : QFrame → Bool
  | .fixed f => p f
  | _ => false

/-- The frames an owner withdraws leave the queue, unless they are on the line, and are queued again no more (R156). -/
def Link.withdraw (l : Link) (p : Frame → Bool) : Link :=
  { l with
    queue := l.queue.filter (fun e => e.onLine || !e.frame.meets p),
    owed := l.owed.filter (fun q => !q.meets p), due := l.due.filter (fun q => !q.meets p) }

/-- The queue is emptied (R157). -/
def Link.clear (l : Link) : Link :=
  { l with queue := [], onAir := none, notedRoll := false, notedReport := false, owed := [], due := [] }

/-- The queue is emptied but for a ROLL request (R157, R170). -/
def Link.clearToRoll (l : Link) : Link :=
  { l with
    queue := l.queue.filter (fun e => e.frame == .roll), notedReport := false, owed := [], due := [],
    onAir := if l.holds .roll true then l.onAir else none }

/-- Some queued frame, on the line or not, satisfies the test. -/
def Link.queued (l : Link) (p : Frame → Bool) : Bool :=
  l.queue.any fun e => e.frame.meets p

/-- Some frame on the line satisfies the test. -/
def Link.onLineFrame (l : Link) (p : Frame → Bool) : Bool :=
  l.queue.any fun e => e.onLine && e.frame.meets p

/-- Some frame queued, owed or due satisfies the test. -/
def Link.heldFrame (l : Link) (p : Frame → Bool) : Bool :=
  l.queued p || l.owed.any (QFrame.meets p) || l.due.any (QFrame.meets p)

/-- Two CEDEs of one slot and lane. -/
def isSameCede (f g : Frame) : Bool :=
  match f, g with
  | .cede slot _ _ lane _, .cede slot' _ _ lane' _ => slot == slot' && lane == lane'
  | _, _ => false

/-- A CEDE behind an old one of its lane that is on the line still (R29). -/
def Link.blocked (l : Link) : QFrame → Bool
  | .fixed f => l.onLineFrame (isSameCede f)
  | _ => false

/-- A frame has completed: the frames owed until now are due; a CEDE waits on while an old one of its lane is on the line (R29, R64,
R147; log 46). -/
def Link.fallDue (l : Link) : Link := { l with owed := l.owed.filter l.blocked, due := l.owed.filter fun q => !l.blocked q }

/-! ### The same, at the station -/

def State.send (s : State) (f : Frame) : State := { s with link := s.link.join (.fixed f) }

def State.withdraw (s : State) (p : Frame → Bool) : State := { s with link := s.link.withdraw p }

/-- A frame that its owner keeps back until the next completed frame (R29). -/
def State.owe (s : State) (f : Frame) : State :=
  { s with link := { s.link with owed := s.link.owed ++ [.fixed f] } }

/-- A request for a ROLL; the roll timer restarts from 250 ms (R161). -/
def State.requestRoll (s : State) : State := { s with link := s.link.requestRoll, rollTimer := some 250 }

def State.framesFallDue (s : State) : State := { s with link := s.link.fallDue }

def State.requestReport (s : State) : State := { s with link := s.link.requestReport }

/-! ### Which frames of this station a test means -/

/-- A BID of the lane (every BID names its lane). -/
def isBidOf (l : LaneId) : Frame → Bool
  | .bid _ _ _ lane _ => lane == byteOf l.val
  | _ => false

/-- A CEDE with reason RECLAIMED of the lane. -/
def isReclaimCedeOf (l : LaneId) : Frame → Bool
  | .cede _ _ _ lane (.reclaimed _) => lane == byteOf l.val
  | _ => false

/-- A CEDE of the lane for the slot. -/
def isCedeOf (k : Nat) (l : LaneId) : Frame → Bool
  | .cede slot _ _ lane _ => slot == byteOf k && lane == byteOf l.val
  | _ => false

/-- A CEDE of the lane for the slot is queued or on the line (R199, R200). -/
def State.cedePends (s : State) (k : Nat) (l : LaneId) : Bool := s.link.queued (isCedeOf k l)

/-- A swap frame of the giver's side for the slot: SWAP-OFFER, SWAP-GO, SWAP-DROP. -/
def isGiverFrame (k : Nat) : Frame → Bool
  | .swapOffer slot _ => slot == byteOf k
  | .swapGo slot _ _ => slot == byteOf k
  | .swapDrop slot _ _ => slot == byteOf k
  | _ => false

/-- A swap frame of the taker's side for the slot: SWAP-READY, SWAP-HOLD, SWAP-DONE, SWAP-DROP. -/
def isTakerFrame (k : Nat) : Frame → Bool
  | .swapReady slot _ => slot == byteOf k
  | .swapHold slot _ _ => slot == byteOf k
  | .swapDone slot _ _ => slot == byteOf k
  | .swapDrop slot _ _ => slot == byteOf k
  | _ => false

def isHoldFrame (k : Nat) : Frame → Bool
  | .swapHold slot _ _ => slot == byteOf k
  | _ => false

def isReadyFrame (k : Nat) : Frame → Bool
  | .swapReady slot _ => slot == byteOf k
  | _ => false

def isOfferFrame (k : Nat) : Frame → Bool
  | .swapOffer slot _ => slot == byteOf k
  | _ => false

def isDropFrame (k : Nat) : Frame → Bool
  | .swapDrop slot _ _ => slot == byteOf k
  | _ => false

def isQuiet : Frame → Bool
  | .quiet .. => true
  | _ => false

/-- A BID or a swap frame: what the claim and the swap unit withdraw once it is moot (R156). -/
def isClaimOrSwap : Frame → Bool
  | .swapOffer .. | .swapReady .. | .swapGo .. | .swapHold .. | .swapDone .. | .swapDrop .. | .bid .. => true
  | _ => false

end Sys2Proof.Machine
end

