-- ==== Sys2Proof/Machine/LaneOps.lean ====
section
/-! DEFINITION. LaneOps.lean: the changes of one lane that several rules share: release, role, gate, tuning, loss, the frames
by which a lane gives up a role. -/

namespace Sys2Proof.Machine

/-- Release (R100, R85, R128). -/
def Lane.release (x : Lane) : Lane :=
  { x with
    state := .idle, role := .free, slot := none, nextInput := .a, margin := 0, residual := 0, periodErrors := 0,
    steadyRun := 0, lockClock := none, retryCount := 0, stateTimer := none, periodClock := none, sync := .reset,
    buffer := [], gate := false, taker := none, mark := .none, bidTerm := none, clashSeen := false, clashStreak := 0,
    qualityStreak := 0 }

/-- The roles whose gate may be open (R102). -/
def LaneRole.mayOpen : LaneRole → Bool
  | .carrier | .giver | .taker | .home => true
  | _ => false

/-- A change of role: the gate closes outside the roles of R102, the trace goes with the role TAKER (R118), the quality streak
returns to 0 when the lane takes or leaves CARRIER (R56). -/
def Lane.setRole (x : Lane) (r : LaneRole) : Lane :=
  { x with
    role := r, gate := x.gate && r.mayOpen, taker := if r = .taker then x.taker else none,
    qualityStreak := if (r == .carrier) == (x.role == .carrier) then x.qualityStreak else 0 }

/-- The gate opens; a gate that was closed starts with a clear clash record (R128). -/
def Lane.openGate (x : Lane) : Lane :=
  if x.gate then x else { x with gate := true, clashSeen := false, clashStreak := 0 }

/-- The tuner is set to the slot's centre frequency and bandwidth (R87); without a slot record it stays. -/
def Tuner.set (r : Option SlotRec) (t : Tuner) : Tuner :=
  match r with
  | none => t
  | some r => { freq := r.freq, bandwidth := r.bandwidth }

/-- Entry into TUNE on a slot, its record given (R87, R88). -/
def Lane.enterTune (r : Option SlotRec) (x : Lane) : Lane :=
  { x with
    state := .tune, buffer := [], sync := .reset, margin := 0, residual := 0, periodErrors := 0, lowPeriods := 0,
    steadyRun := 0, settings := .steady, stateTimer := some 20, periodClock := none, lockClock := none,
    input := match recInput r with | .a => .a | .b => .b | .either => x.nextInput, tuner := x.tuner.set r }

/-- A lane bound to a slot for a trial or for home carriage (R37, R85, R132). -/
def Lane.bind (k : Nat) (r : Option SlotRec) (role : LaneRole) (mark : ClaimMark) (x : Lane) : Lane :=
  Lane.enterTune r { x.setRole role with slot := some k, mark := mark, bidTerm := none }

/-- The lane has failed or lost its multiplex: the sampler stops, packet sync becomes NONE, an EITHER slot changes its next
input (R88, R91, R95). -/
def Lane.stopReceiving (inp : SlotInput) (x : Lane) : Lane :=
  { x with
    periodClock := none, periodErrors := 0, sync := .reset, lockClock := none, steadyRun := 0,
    nextInput := match inp with | .either => (match x.input with | .a => .b | .b => .a) | _ => x.nextInput }

/-- Entry into RETRY-WAIT, or into SPENT at a count of 15 in LIMITED mode (R97 to R99). -/
def Lane.enterRetry (rm : RetryMode) (x : Lane) : Lane :=
  let n := satInc 15 x.retryCount
  let y : Lane := { x with retryCount := n, margin := 0, residual := 0, buffer := [], gate := false, mark := .none, bidTerm := none }
  if n = 15 ∧ rm = .limited then
    { y.setRole .free with state := .spent, slot := none, nextInput := .a, stateTimer := none }
  else { y with state := .retryWait, stateTimer := some (retryPeriod n) }

/-- A HELD lane that loses its multiplex (R52). -/
def Lane.loseHeld (x : Lane) : Lane :=
  { x with state := .idle, stateTimer := none, margin := 0, residual := 0, buffer := [] }

/-- The lane holds a role of the carrier's side for the slot. -/
def Lane.carries (x : Lane) (k : Nat) : Bool := (x.role == .carrier || x.role == .giver) && x.slot == some k

/-- The lane holds a role of the standby's side for the slot. -/
def Lane.standsBy (x : Lane) (k : Nat) : Bool := (x.role == .standby || x.role == .taker) && x.slot == some k

/-- The lane holds the carriage role for the slot, its swap role counted with it. -/
def Lane.plays (x : Lane) (k : Nat) : CarriageRole → Bool
  | .carrier => x.carries k
  | .standby => x.standsBy k

def ClaimMark.isHeld : ClaimMark → Bool
  | .held .. => true
  | _ => false

/-- The lane's swap context is a GIVER context for the slot. -/
def SwapCtx.isGiver (c : SwapCtx) (k : Nat) : Bool :=
  match c with
  | .giver slot .. => slot == k
  | _ => false

def SwapCtx.isTaker (c : SwapCtx) (k : Nat) : Bool :=
  match c with
  | .taker slot .. => slot == k
  | _ => false

def SwapCtx.slot : SwapCtx → Option Nat
  | .none => Option.none
  | .giver k .. => Option.some k
  | .taker k .. => Option.some k

/-! ### At the station -/

def State.ownPair (s : State) (l : LaneId) : Pair := { station := s.number, lane := l }

def State.releaseLane (s : State) (l : LaneId) : State := s.modLane l Lane.release

def State.endCtx (s : State) (l : LaneId) : State := s.modLane l fun x => { x with ctx := .none }

/-- A CEDE at the row's present term (R12). -/
def State.cedeFrame (s : State) (k : Nat) (role : CarriageRole) (l : LaneId) (reason : CedeReason) : Frame :=
  .cede (byteOf k) (CarriageRole.byte role) (s.termOf k) (byteOf l.val) reason

/-- The station queues a CEDE at the row's present term (R12). -/
def State.sendCede (s : State) (k : Nat) (role : CarriageRole) (l : LaneId) (reason : CedeReason) : State :=
  s.send (s.cedeFrame k role l reason)

/-- A lane is released from a role it gives up, its swap context ends and its swap frames are withdrawn; the CEDE follows (R81,
R129, R167, R199). -/
def State.giveUp (s : State) (k : Nat) (role : CarriageRole) (l : LaneId) (reason : CedeReason) : State :=
  (((s.releaseLane l).endCtx l).withdraw (fun f => isGiverFrame k f || isTakerFrame k f)).sendCede k role l reason

/-- A SWAP-OFFER is queued and the GIVER context opens (R57). -/
def State.offerSwap (s : State) (k : Nat) (l : LaneId) : State :=
  (s.modLane l fun x => { x with ctx := .giver k (s.termOf k) .offering 0 0 }).send (.swapOffer (byteOf k) (s.termOf k))

/-- A lane bound to a slot for a trial or for home carriage. -/
def State.bindLane (s : State) (l : LaneId) (k : Nat) (role : LaneRole) (mark : ClaimMark) : State :=
  s.modLane l (Lane.bind k (s.slotRec k) role mark)

end Sys2Proof.Machine
end

