-- ==== Sys2Proof/Machine/Naming.lean ====
section
/-! DEFINITION. Naming.lean: what a change of the table does to this station's own lanes (R28, R29, R52, R62, R63, R75, R81,
R168). Nothing here acts outside JOINED and RESTING, where alone carriage roles exist (R102). -/

namespace Sys2Proof.Machine

/-- The reason of a CEDE that R75 queues. -/
def State.swapReason (s : State) : CedeReason := if s.mode = .resting then .resting else .lost

/-- The row names a lane in a role that it does not hold, or gave up (R29, R75, third case of R52). The lane keeps its state. A
HELD lane cedes the newly named role for its for-slot, unless its CEDE is on the line already, when R53 follows. Any other
lane's queued frames for the row give way to a CEDE for the role. `after` says that the new CEDE waits while an old one of the
lane is on the line (R29; log 46); in the cases of R75 it does not. A HELD lane that is named again in the role it gave up keeps its
CEDE and queues a second one beside it: the model's choice (log 17 for an echo, log 52 for a SWAP-DROP). -/
def State.namedInVain (s : State) (k : Nat) (l : LaneId) (role : CarriageRole) (reason : CedeReason) (after : Bool) :
    State :=
  match (s.lane l).mark with
  | .held forSlot gaveUp =>
    if gaveUp = role then s.sendCede k role l reason
    else if s.link.onLineFrame (isReclaimCedeOf l) then s
    else
      ((s.withdraw (isReclaimCedeOf l)).modLane l fun x => { x with mark := .held forSlot role }).sendCede k role l
        (.reclaimed (byteOf forSlot))
  | _ =>
    let s := s.withdraw fun f => isGiverFrame k f || isTakerFrame k f || isCedeOf k l f
    let s := if (s.lane l).ctx.slot = some k then s.endCtx l else s
    if after && s.link.onLineFrame (isCedeOf k l) then s.owe (s.cedeFrame k role l reason)
    else s.sendCede k role l reason

/-- A RESTING station's lane comes to hold CARRIER or STANDBY (R167, R168). -/
def State.drainLane (s : State) (k : Nat) (l : LaneId) : State :=
  match (s.lane l).role with
  | .carrier =>
    if (s.row k).standby.isSome ∧ s.termOf k ≠ 0xFFFF#16 then s.offerSwap k l else s.giveUp k .carrier l .resting
  | .standby => s.giveUp k .standby l .resting
  | _ => s

/-- A lane that has just come to hold CARRIER or STANDBY: drained when the station is RESTING (R168). -/
def State.drainIfResting (s : State) (k : Nat) (l : LaneId) : State := if s.mode = .resting then s.drainLane k l else s

/-- A cut names the lane as carrier (R28, R74, R76). `swap` says that the row was SWAPPING. -/
def State.namedByCut (s : State) (k : Nat) (l : LaneId) (swap : Bool) : State :=
  if !s.mode.holdsRoles then s
  else if (s.lane l).standsBy k then
    let s := s.withdraw (isTakerFrame k)
    let s := s.modLane l fun x => Lane.openGate { (x.setRole .carrier) with ctx := .none }
    s.drainIfResting k l
  else s.namedInVain k l .carrier (if swap then s.swapReason else .lost) (!swap)

/-- A removal, an adoption or the rule of R27 ceases to name the lane (R28). -/
def State.unnamed (s : State) (k : Nat) (l : LaneId) (role : CarriageRole) : State :=
  if s.mode.holdsRoles && (s.lane l).plays k role then
    ((s.releaseLane l).endCtx l).withdraw fun f => isGiverFrame k f || isTakerFrame k f
  else s

/-- A swap ends with the giver still carrier (R63, R76, R81). `dropped` says that a SWAP-DROP, or a CEDE that acts as one, ended
it; a SWAP-DROP then names a lane that gave up the role (R75). -/
def State.giverBack (s : State) (k : Nat) (l : LaneId) (dropped vain : Bool) : State :=
  if !s.mode.holdsRoles then s
  else if (s.lane l).carries k then
    if s.mode = .resting then s.giveUp k .carrier l .resting
    else
      (s.withdraw (isGiverFrame k)).modLane l fun x =>
        let y := (x.setRole .carrier).openGate
        { y with ctx := .none, qualityStreak := if dropped then 0 else y.qualityStreak }
  else if vain then s.namedInVain k l .carrier s.swapReason false
  else s

/-- The row has lost its standby under a swap: what the giver's station does (R17, R63, R76). -/
def State.giverKept (s : State) (k : Nat) (carrier : Pair) (dropped vain : Bool) : State :=
  if carrier.station = s.number then s.giverBack k carrier.lane dropped vain else s

/-! ### Changes of a row that several frames make -/

/-- The carrier leaves a row that names a standby: a cut, or at term 65535 an OPEN row (R13, R17, R18, R27). -/
def State.cutRow (s : State) (k : Nat) (t : Term) (leaving : Station) (sb : Pair) (swap : Bool) : State :=
  if t = 0xFFFF#16 then
    let s := s.putRow k (.opened t (some leaving) 0)
    if sb.station = s.number then s.unnamed k sb.lane .standby else s
  else
    let s := s.putRow k (.carried (t + 1#16) sb none (some leaving))
    if sb.station = s.number then s.namedByCut k sb.lane swap else s

/-- The carrier leaves the row (R13, R14, R17, R18). -/
def State.carrierLeaves (s : State) (k : Nat) : State :=
  match s.row k with
  | .carried t c none _ => s.putRow k (.opened t (some c.station) 0)
  | .carried t c (some sb) _ => s.cutRow k t c.station sb false
  | .swapping t c sb _ _ => s.cutRow k t c.station sb true
  | _ => s

/-- The standby leaves the row (R15, R17, R18). `dropped` as for `giverBack`. A giver lane that gave up its role already gets no new
CEDE here: the model's choice (R63, R75; log 41). -/
def State.standbyLeaves (s : State) (k : Nat) (dropped : Bool) : State :=
  match s.row k with
  | .carried t c (some _) lc => s.putRow k (.carried t c none lc)
  | .swapping t c _ lc _ => (s.putRow k (.carried t c none lc)).giverKept k c dropped false
  | _ => s

/-- Removal of a station from one row (R18). A station that removes itself holds no role (R105, R166). -/
def State.removeFromRow (x : Station) (k : Nat) (s : State) : State :=
  if (s.row k).carrier.any (fun p => p.station == x) then s.carrierLeaves k
  else if (s.row k).standby.any (fun p => p.station == x) then s.standbyLeaves k false
  else s

/-- Removal of a station from the table (R18). -/
def State.removeStation (s : State) (x : Station) : State :=
  (List.range s.table.length).foldl (fun s k => State.removeFromRow x k s) s

end Sys2Proof.Machine
end

