-- ==== Sys2Proof/Machine/Claim.lean ====
section
/-! DEFINITION. Claim.lean: the claim unit: bid orders and places, due rows and the assignment of lanes, trials and their
BIDs, reclaim (R31 to R53). -/

namespace Sys2Proof.Machine

/-! ### Bid order (R33, R45) -/

/-- Station `x` is in the candidate set of slot `k` (R33). -/
def State.candidate (s : State) (k : Nat) (x : Station) : Bool := s.inMask k x && s.isJoinedStation x

/-- The eight station numbers in ascending order from `first`, wrapping past 7 (R33). -/
def orderFrom (first : Nat) : List Station := (List.range 8).map fun i => Fin.ofNat 8 (first + i)

/-- The bid order of an OPEN row (R33). -/
def State.bidOrder (s : State) (k : Nat) : List Station :=
  match s.slotRec k with
  | none => []
  | some r =>
    let first :=
      match r.rotate, (s.row k).last with
      | true, some lc => lc.val + 1
      | _, _ => r.home.val
    (orderFrom first).filter (s.candidate k)

/-- The standby order of a CARRIED row (R45). -/
def State.standbyOrder (s : State) (k : Nat) : List Station :=
  match (s.row k).carrier with
  | none => []
  | some c => (orderFrom (c.station.val + 1)).filter fun x => s.candidate k x && x != c.station

/-- A station's position in an order, counted from 0. -/
def placeIn (x : Station) (order : List Station) : Option Nat := order.findIdx? (· == x)

/-- This station's place in the row's bid order as it stands (R33). -/
def State.placeNow (s : State) (k : Nat) : Option Nat :=
  if (s.row k).isOpen then placeIn s.number (s.bidOrder k) else none

/-- This station's standby place as it stands (R45). -/
def State.standbyPlaceNow (s : State) (k : Nat) : Option Nat :=
  if (s.row k).lacksStandby && s.standbyWanted k then placeIn s.number (s.standbyOrder k) else none

/-- A place has been raised, or lost (R34). -/
def raised (old new : Option Nat) : Bool :=
  match old, new with
  | none, _ => false
  | some _, none => true
  | some p, some q => p < q

/-! ### Trials -/

/-- The lane's trial asks for the carrier role. -/
def ClaimMark.bidsCarrier : ClaimMark → Bool
  | .ordinary | .reclaim | .late false => true
  | _ => false

def ClaimMark.bidsStandby : ClaimMark → Bool
  | .standby _ | .late true => true
  | _ => false

/-- A trial has locked once it is LOCKED or holds over (R34, R46). -/
def Lane.hasLocked (x : Lane) : Bool := x.state == .locked || x.state == .holdover

/-- A trial is released, its BID withdrawn if it is not on the line (R38, R40, R44, R46, R47). -/
def State.dropTrial (s : State) (l : LaneId) : State := (s.withdraw (isBidOf l)).releaseLane l

/-- The slot joins the tried set (R37). -/
def State.markTried (s : State) (k : Nat) : State :=
  if (s.row k).isOpen then s.setLoc k { s.loc k with tried := true } else s

/-- The row's standby-tried mark is set (R46). -/
def State.markStandbyTried (s : State) (k : Nat) : State := s.setLoc k { s.loc k with standbyTried := true }

/-- An ORDINARY, STANDBY or RECLAIM trial fails (R37, R46, R53). -/
def State.failTrial (s : State) (l : LaneId) : State :=
  let x := s.lane l
  let s := s.dropTrial l
  match x.slot, x.mark with
  | some k, .standby _ => s.markStandbyTried k
  | some k, _ => s.markTried k
  | none, _ => s

/-- The BID of a locked trial, where its row still allows it (R39, R44, R47). -/
def State.sendBid (s : State) (l : LaneId) : State :=
  let x := s.lane l
  match x.slot with
  | none => s
  | some k =>
    let t := s.termOf k
    if x.mark.bidsCarrier && (s.row k).isOpen then
      (s.modLane l fun x => { x with bidTerm := some (t + 1#16) }).send
        (.bid (byteOf k) 0#8 (t + 1#16) (byteOf l.val) (byteOf x.margin))
    else if x.mark.bidsStandby && (s.row k).lacksStandby then
      (s.modLane l fun x => { x with bidTerm := some t }).send
        (.bid (byteOf k) 1#8 t (byteOf l.val) (byteOf x.margin))
    else s

/-- The row still allows the trial: for a queued BID, at the term the BID carries (R38, R40, R44, R46, R47). That a LATE trial for
standby ends unlocked when its row gains a standby, leaves CARRIED or is SWAPPING, and goes on at another term, is the model's
choice (log 40). -/
def State.trialStands (s : State) (x : Lane) : Bool :=
  match x.slot with
  | none => false
  | some k =>
    let r := s.row k
    if x.mark.bidsCarrier then r.isOpen && (x.bidTerm.all fun b => b == s.termOf k + 1#16)
    else
      r.lacksStandby && s.standbyWanted k && (r.carrier.all fun c => c.station != s.number)
        && (x.bidTerm.all fun b => b == s.termOf k)
        && (match x.mark with | .standby t => t == s.termOf k | _ => true)

/-- A trial that its row no longer allows is released; one whose BID is on the line waits for the BID's outcome (R40). -/
def State.settleTrial (l : LaneId) (s : State) : State :=
  let x := s.lane l
  if x.role = .trial ∧ s.trialStands x = false ∧ s.link.onLineFrame (isBidOf l) = false then s.dropTrial l else s

/-- The places of one row are computed again; a raised place releases the trials R34 and R45 name. -/
def State.replaceRow (k : Nat) (s : State) : State :=
  let loc := s.loc k
  let p := s.placeNow k
  let q := s.standbyPlaceNow k
  let due := match p, loc.bidClock with | some n, some c => n * 100 ≤ c | _, _ => false
  let s := s.setLoc k { loc with place := p, standbyPlace := q }
  s.forLanes fun l s =>
    let x := s.lane l
    if x.slot = some k ∧ x.role = .trial ∧ x.hasLocked = false then
      match x.mark with
      | .ordinary => if raised loc.place p && !due then s.dropTrial l else s
      | .standby _ => if raised loc.standbyPlace q then s.dropTrial l else s
      | _ => s
    else s

/-- This station's places are computed again (R34, R45). -/
def State.replace (s : State) : State := (List.range s.table.length).foldl (fun s k => State.replaceRow k s) s

/-! ### Due rows and lanes (R35, R36, R46) -/

/-- The row is due for an ordinary trial (R35). -/
def State.due (s : State) (k : Nat) : Bool :=
  let loc := s.loc k
  s.claimActive && (s.row k).isOpen
    && (match loc.place, loc.bidClock with | some p, some c => p * 100 ≤ c | _, _ => false)
    && !loc.tried && (s.termOf k).toNat < 65535 && !s.slotBound k
    && allLanes.all fun l => match (s.lane l).mark with | .held fs _ => fs != k | _ => true

/-- The row is due for a standby trial (R46). -/
def State.standbyDue (s : State) (k : Nat) : Bool :=
  let loc := s.loc k
  s.claimActive && (s.row k).lacksStandby && s.standbyWanted k
    && (match loc.standbyPlace, loc.standbyClock with | some p, some c => 1000 + p * 100 ≤ c | _, _ => false)
    && !loc.standbyTried && !s.slotBound k

/-- A lane is available (R36). -/
def Lane.available (x : Lane) : Bool :=
  x.role == .free && x.state == .idle && x.slot == none && x.mark == .none

def State.availableLane (s : State) : Option LaneId := allLanes.find? fun l => (s.lane l).available

/-- The least element of a list of (key, slot) pairs. -/
def leastKey : List (Nat × Nat) → Option (Nat × Nat)
  | [] => none
  | a :: rest =>
    match leastKey rest with
    | none => some a
    | some b => if a.1 ≤ b.1 then some a else some b

/-- The due row that is served first: lowest rank, lowest place, lowest slot (R36). -/
def State.firstDue (s : State) (isDue : Nat → Bool) (place : RowLocal → Option Nat) : Option Nat :=
  (leastKey (((List.range s.table.length).filter isDue).map fun k =>
    (s.rank k * 1000 + ((place (s.loc k)).getD 0) * 100 + k, k))).map (·.2)

/-- A STANDBY trial that has not locked gives way: the lowest-numbered (R36; log 12). -/
def State.yieldingTrial (s : State) : Option LaneId :=
  allLanes.find? fun l =>
    let x := s.lane l
    x.role == .trial && !x.hasLocked && (match x.mark with | .standby _ => true | _ => false)

/-- One ordinary due row is given a lane, if there is one (R36). -/
def State.assignOne (s : State) : State :=
  match s.firstDue s.due RowLocal.place with
  | none => s
  | some k =>
    match s.availableLane with
    | some l => s.bindLane l k .trial .ordinary
    | none =>
      match s.yieldingTrial with
      | some l => (s.dropTrial l).bindLane l k .trial .ordinary
      | none => s

/-- One due standby row is given a lane, if no ordinary row waits (R46). -/
def State.assignStandbyOne (s : State) : State :=
  match s.firstDue s.due RowLocal.place, s.firstDue s.standbyDue RowLocal.standbyPlace, s.availableLane with
  | none, some k, some l => s.bindLane l k .trial (.standby (s.termOf k))
  | _, _, _ => s

/-- Lanes are assigned to due rows until the rows or the four lanes run out (R36, R46). -/
def State.assignLanes (s : State) : State :=
  if s.claimActive then
    s.assignOne.assignOne.assignOne.assignOne.assignStandbyOne.assignStandbyOne.assignStandbyOne.assignStandbyOne
  else s

/-! ### Activation (R32) -/

/-- One row's clocks at the activation of the claim unit (R32). -/
def RowLocal.activate (wanted : Bool) (r : Row) (loc : RowLocal) : RowLocal :=
  let loc := { loc with standbyTried := false }
  if r.isOpen then { loc with bidClock := some 0, reclaimWait := some 3000 }
  else if r.lacksStandby && wanted then { loc with standbyClock := some 0 }
  else loc

/-- The claim unit becomes active (R32). -/
def State.activateClaim (s : State) : State :=
  (List.range s.table.length).foldl
    (fun s k => s.setLoc k ((s.loc k).activate (s.standbyWanted k) (s.row k))) s

/-! ### Reclaim (R48 to R53) -/

/-- The windows of a station pin a slot (R50, R188). -/
def State.pinned (s : State) (x : Station) (k : Nat) : Bool :=
  match s.plan with
  | none => false
  | some p =>
    let hit := fun w : PinWindow => w.valid && (BitVec.ofNat 5 k &&& w.mask) == (w.value &&& w.mask)
    let ws := p.windows[x]
    hit ws.1 || hit ws.2

/-- Every lane of the station that the table names, as carrier or standby, is pinned: the exemption is void there (R50). A
standby lane is never pinned. -/
def State.exemptionVoid (s : State) (x : Station) : Bool :=
  (List.range s.table.length).all fun j =>
    let r := s.row j
    (r.standby.all fun p => p.station != x) && (r.carrier.all fun p => p.station != x || s.pinned x j)

/-- A victim: its row, its pair and the role it would give up. -/
abbrev Victim := Nat × Pair × CarriageRole

/-- The standby lane of slot `j` is eligible as a victim for the open row (R49). -/
def State.standbyVictim (s : State) (k j : Nat) : Option Victim :=
  match s.row j with
  | .carried _ _ (some sb) _ => if s.candidate k sb.station then some (j, sb, .standby) else none
  | _ => none

/-- The carrier lane of slot `j` is eligible as a victim for the open row (R50). -/
def State.carrierVictim (s : State) (k j : Nat) : Option Victim :=
  match s.row j with
  | .carried _ c _ _ =>
    if s.candidate k c.station && s.rank k < s.rank j && (!s.pinned c.station j || s.exemptionVoid c.station) then
      some (j, c, .carrier)
    else none
  | _ => none

/-- The victim of the highest rank number, then the highest slot (R49). -/
def State.lastVictim (s : State) (vs : List Victim) : Option Victim :=
  vs.foldl
    (fun best v =>
      match best with
      | none => some v
      | some b => if s.rank b.1 ≤ s.rank v.1 then some v else some b) none

/-- The victim for an open row (R49, R50). -/
def State.victim (s : State) (k : Nat) : Option Victim :=
  let slots := List.range s.table.length
  match s.lastVictim (slots.filterMap (s.standbyVictim k)) with
  | some v => some v
  | none => s.lastVictim (slots.filterMap (s.carrierVictim k))

/-- A station that finds its own lane as the victim gives it up, unless the lane has given the role up already (R51; log 18). The
GIVER context of a carrier lane ends at once, also while its SWAP-OFFER is on the line: the model's choice (log 56). -/
def State.reclaim (s : State) (k : Nat) : State :=
  match s.victim k with
  | none => s
  | some (j, p, role) =>
    if p.station = s.number ∧ (s.lane p.lane).plays j role = true then
      let s := s.withdraw fun f => isGiverFrame j f || isTakerFrame j f
      let s := s.modLane p.lane fun x => { x.setRole .free with mark := .held k role, ctx := .none }
      s.sendCede j role p.lane (.reclaimed (byteOf k))
    else s

/-- The CEDE of a HELD lane has been withdrawn or discarded (R52). A second CEDE of the lane for the slot (logs 17, 52) is withdrawn
with it; where that one is on the line the lane does not take its role back: the model's choice (log 57). -/
def State.unheld (s : State) (l : LaneId) (k : Nat) : State :=
  let s := s.withdraw (isCedeOf k l)
  let x := s.lane l
  let r := s.row k
  let role : Option CarriageRole :=
    if r.carrier = some (s.ownPair l) then some .carrier else if r.standby = some (s.ownPair l) then some .standby else none
  match role with
  | none => s.releaseLane l
  | some ρ =>
    if r.isSwapping = false ∧ x.state = .locked ∧ s.cedePends k l = false then
      let s := s.modLane l fun x =>
        match ρ with
        | .carrier => Lane.openGate { x.setRole .carrier with mark := .none }
        | .standby => { x.setRole .standby with mark := .none }
      s.drainIfResting k l
    else (s.releaseLane l).sendCede k ρ l .lost

/-- A HELD lane whose for-slot row has left OPEN, or whose CEDE the queue has discarded (R52). -/
def State.settleHeldLane (l : LaneId) (s : State) : State :=
  let x := s.lane l
  match x.mark, x.slot with
  | .held fs _, some k =>
    if s.link.onLineFrame (isReclaimCedeOf l) then s
    else if (s.row fs).isOpen && s.link.queued (isReclaimCedeOf l) then s
    else (s.withdraw (isReclaimCedeOf l)).unheld l k
  | _, _ => s

/-- The CEDE with reason RECLAIMED of a HELD lane has completed (R53, R52). -/
def State.reclaimDone (s : State) (l : LaneId) (k : Nat) (role : CarriageRole) : State :=
  match (s.lane l).mark with
  | .held fs _ =>
    let s := s.releaseLane l
    let s := if s.claimActive ∧ (s.row fs).isOpen = true then s.bindLane l fs .trial .reclaim else s
    match role with
    | .standby => if (s.row k).carrier = some (s.ownPair l) then s.sendCede k .carrier l .lost else s
    | .carrier => if (s.row k).standby = some (s.ownPair l) then s.sendCede k .standby l .lost else s
  | _ => s

end Sys2Proof.Machine
end

