-- ==== Sys2Proof/Machine/Swap.lean ====
section
/-! DEFINITION. Swap.lean: the swap unit: the taker's and the giver's side of a swap, the frames it withdraws and queues again
(R55 to R82). -/

namespace Sys2Proof.Machine

/-! ### Frames that are still wanted (R8, R40, R47, R64, R147, R175) -/

/-- The row is SWAPPING at the term, in a phase the test accepts. -/
def State.swappingAt (s : State) (k : Nat) (t : Term) (phase : SwapPhase → Bool) : Bool :=
  match s.row k with
  | .swapping rt _ _ _ p => rt == t && phase p
  | _ => false

def SwapPhase.isOffered : SwapPhase → Bool
  | .offered => true
  | _ => false

def SwapPhase.isReady : SwapPhase → Bool
  | .ready => true
  | _ => false

def SwapPhase.isDraining : SwapPhase → Bool
  | .draining .. => true
  | _ => false

def TakerStage.isDropping : TakerStage → Bool
  | .dropping _ => true
  | _ => false

/-- A lane of this station has a context of the test's kind. -/
def State.someCtx (s : State) (p : SwapCtx → Bool) : Bool := allLanes.any fun l => p (s.lane l).ctx

/-- The lane that carries the slot as CARRIER, with a GIVER context for it. -/
def State.givingCarrier (s : State) (k : Nat) : Bool :=
  allLanes.any fun l => (s.lane l).role == .carrier && (s.lane l).slot == some k && (s.lane l).ctx.isGiver k

/-- The lane that is TAKER for the slot and ALIGNED or not as the row's SWAP-READY needs. -/
def State.alignedTaker (s : State) (k : Nat) : Bool :=
  allLanes.any fun l =>
    (s.lane l).role == .taker && (s.lane l).ctx.isTaker k && ((s.lane l).taker.any fun t => t.aligned)

/-- The frame is not moot: its owner queues it again after a void outcome or a discard, and does not withdraw it. -/
def State.wants (s : State) : Frame → Bool
  | .quiet subject _ =>
    s.mode == .joined && (stationOf subject).any fun x => (s.peer x).state == .present && (s.peer x).staleMark
  | .cede slot role term lane reason =>
    match reason, carriageRoleOf role, laneOf lane with
    | .reclaimed fs, _, _ => (s.row fs.toNat).isOpen
    | _, some ρ, some l =>
      (s.row slot.toNat).term == some term && (s.row slot.toNat).named ρ == some (s.ownPair l)
    | _, _, _ => false
  | .bid slot _ term lane _ =>
    match laneOf lane with
    | some l =>
      (s.lane l).role == .trial && (s.lane l).slot == some slot.toNat && (s.lane l).bidTerm == some term
        && s.trialStands (s.lane l)
    | none => false
  | .swapOffer slot term =>
    s.givingCarrier slot.toNat &&
      match s.row slot.toNat with
      | .carried t _ (some _) _ => t == term
      | _ => false
  | .swapReady slot term => s.swappingAt slot.toNat term SwapPhase.isOffered && s.alignedTaker slot.toNat
  | .swapGo slot term _ => s.swappingAt slot.toNat term SwapPhase.isReady && s.givingCarrier slot.toNat
  | .swapHold slot term _ =>
    s.swappingAt slot.toNat term SwapPhase.isDraining &&
      s.someCtx fun c => match c with | .taker k _ .draining _ => k == slot.toNat | _ => false
  | .swapDone slot newTerm _ => s.swappingAt slot.toNat (newTerm - 1#16) SwapPhase.isDraining
  | .swapDrop slot term _ => s.swappingAt slot.toNat term fun _ => true
  | _ => false

/-! ### The taker's side (R65 to R70) -/

def State.setCtx (s : State) (l : LaneId) (c : SwapCtx) : State := s.modLane l fun x => { x with ctx := c }

/-- The value of the latest SWAP-HOLD of the slot in the queue, and whether it is on the line (R67). -/
def Link.latestHold (l : Link) (k : Nat) : Option (Bool × Bool) :=
  l.queue.foldl
    (fun acc e =>
      match e.frame with
      | .fixed (.swapHold slot _ hold) => if slot == byteOf k then some (hold == 1#8, e.onLine) else acc
      | _ => acc) none

/-- The queue without its last entry that satisfies the test. -/
def dropLastWhere (p : QEntry → Bool) (queue : List QEntry) : List QEntry :=
  match queue with
  | [] => []
  | e :: rest => if p e && !rest.any p then rest else e :: dropLastWhere p rest

/-- The row's hold, CLEAR outside the phase DRAINING. -/
def Row.hold : Row → Bool
  | .swapping _ _ _ _ (.draining h _) => h
  | _ => false

/-- The taker's comparison of its wanted hold with its pending hold; `fuel` bounds the withdrawals by the queue's length (R67). -/
def State.compareHold (s : State) (k : Nat) (t : Term) (wanted : Bool) : Nat → State
  | 0 => s
  | fuel + 1 =>
    match s.link.latestHold k with
    | some (v, onLine) =>
      if v = wanted then s
      else if onLine then s.send (.swapHold (byteOf k) t (holdByte wanted))
      else
        let isIt := fun e : QEntry => !e.onLine && match e.frame with | .fixed f => isHoldFrame k f | _ => false
        compareHold { s with link := { s.link with queue := dropLastWhere isIt s.link.queue } } k t wanted fuel
    | none => if (s.row k).hold = wanted then s else s.send (.swapHold (byteOf k) t (holdByte wanted))

/-- The comparison for one lane, where it is a taker in DRAINING; it takes the place of a discarded SWAP-HOLD (R67; log 15). -/
def State.holdCheck (s : State) (l : LaneId) : State :=
  match (s.lane l).ctx, (s.lane l).taker with
  | .taker k t .draining _, some tk =>
    let link := { s.link with
      owed := s.link.owed.filter (fun q => !q.meets (isHoldFrame k)), due := s.link.due.filter (fun q => !q.meets (isHoldFrame k)) }
    State.compareHold { s with link := link } k t (!tk.aligned) 9
  | _, _ => s

/-- The taker's comparison at the discard of a SWAP-HOLD: at the end of the event that brought it, and again while the queue has
no room for the frame that the comparison asks for (R67; log 15). -/
def State.holdAgain (l : LaneId) (s : State) : State :=
  match (s.lane l).ctx with
  | .taker k _ _ _ =>
    if s.link.owed.any (QFrame.meets (isHoldFrame k)) then s.holdCheck l else s
  | _ => s

/-- Every lane's comparison at the discard of a SWAP-HOLD. -/
def State.holdsAgain (s : State) : State := s.forLanes State.holdAgain

/-- A frame is handed to the queue outside a settling event; it can put a SWAP-HOLD out (R154, R67). -/
def State.sendOver (s : State) (f : Frame) : State := (s.send f).holdsAgain

/-- The taker opens its gate and queues SWAP-DONE (R68, R69). -/
def State.openTaker (s : State) (l : LaneId) (k : Nat) (t : Term) : State :=
  let s := s.modLane l fun x =>
    { x.openGate with
      taker := x.taker.map fun tk => { tk with trace := [], feeding := false }, ctx := .taker k t .opened none }
  (s.withdraw (isHoldFrame k)).sendOver (.swapDone (byteOf k) (t + 1#16) (byteOf l.val))

/-- The swap unit judges a taker after an arrival (R65, R67 to R69, R121). `was` is the alignment before it, `consumed` says
that the entry marked LAST was consumed, `lost` that it arrived UNALIGNED and was not. -/
def State.judgeTaker (s : State) (l : LaneId) (was consumed lost : Bool) : State :=
  match (s.lane l).ctx, (s.lane l).taker with
  | .taker k t .seeking al, some tk =>
    if !was && tk.aligned then (s.setCtx l (.taker k t .readied al)).send (.swapReady (byteOf k) t) else s
  | .taker k t .readied al, some tk =>
    if was && !tk.aligned && s.link.heldFrame (isReadyFrame k) && !s.link.onLineFrame (isReadyFrame k) then
      (s.withdraw (isReadyFrame k)).setCtx l (.taker k t .seeking al)
    else s
  | .taker k t .draining _, some tk =>
    if consumed || lost || (!tk.aligned && tk.trace.any (·.last)) then s.openTaker l k t
    else if was != tk.aligned then s.holdCheck l
    else s
  | _, _ => s

/-- An entry arrives at a taker's trace (R118 to R121). An entry marked LAST that an UNALIGNED lane's test does not consume makes the
rough cut of R69, also where the test made the lane ALIGNED on older entries: the model's choice (log 53). -/
def State.traceArrival (s : State) (l : LaneId) (e : TraceEntry) : State :=
  match (s.lane l).taker with
  | none => s
  | some tk =>
    if !tk.feeding then s
    else
      match traceStep tk.aligned tk.trace (s.lane l).buffer e with
      | (tr, buf, al, last) =>
        let s := s.modLane l fun x => { x with buffer := buf, taker := some { tk with trace := tr, aligned := al } }
        s.judgeTaker l tk.aligned last (e.last && !tk.aligned && !last)

/-- A record has arrived at an ALIGNED taker's buffer (R120, R121). -/
def State.pairArrival (s : State) (l : LaneId) : State :=
  match (s.lane l).taker with
  | none => s
  | some tk =>
    if !tk.aligned || (s.lane l).gate then s
    else
      match pairUp tk.trace (s.lane l).buffer with
      | (tr, buf, al, last) =>
        let s := s.modLane l fun x => { x with buffer := buf, taker := some { tk with trace := tr, aligned := al } }
        s.judgeTaker l true last false

/-- The align timer expires in SEEKING or READIED (R66). -/
def State.alignExpired (s : State) (l : LaneId) : State :=
  match (s.lane l).ctx with
  | .taker k t .seeking (some _) | .taker k t .readied (some _) =>
    ((s.withdraw (isReadyFrame k)).setCtx l (.taker k t (.dropping .alignTimeout) none)).sendOver
      (.swapDrop (byteOf k) t (DropReason.byte .alignTimeout))
  | _ => s

/-- The stage becomes DRAINING at the completion of SWAP-GO (R66, R67, R69). -/
def State.takerDrains (s : State) (l : LaneId) (k : Nat) (t : Term) : State :=
  let s := s.setCtx l (.taker k t .draining none)
  match (s.lane l).taker with
  | none => s
  | some tk => if !tk.aligned && tk.trace.any (·.last) then s.openTaker l k t else s.holdCheck l

/-- SWAP-GO has been accepted: the taker's side (R66, R67). -/
def State.takerGo (s : State) (l : LaneId) : State :=
  match (s.lane l).ctx with
  | .taker k t .readied _ => s.takerDrains l k t
  | .taker k t (.dropping .alignTimeout) _ =>
    if s.link.onLineFrame (isDropFrame k) then s else (s.withdraw (isDropFrame k)).takerDrains l k t
  | _ => s

/-! ### Contexts that end, frames that are moot (R57, R64, R65, R81) -/

/-- The giver's context of one lane. -/
def State.settleGiver (s : State) (l : LaneId) (k : Nat) (t : Term) (stage : GiverStage) : State :=
  let x := s.lane l
  let offered := stage = .offering ∧ s.link.heldFrame (isOfferFrame k) = true
    ∧ s.wants (.swapOffer (byteOf k) t) = true
  if s.swappingAt k t (fun _ => true) = true ∨ offered then s
  else if s.link.onLineFrame (isOfferFrame k) then s
  else
    let s := (s.withdraw (isGiverFrame k)).endCtx l
    if s.mode = .resting ∧ x.carries k = true ∧ (s.row k).carrier = some (s.ownPair l) then s.giveUp k .carrier l .resting
    else s

/-- The taker's context of one lane. -/
def State.settleTaker (s : State) (l : LaneId) (k : Nat) (t : Term) (stage : TakerStage) (al : Option Nat) : State :=
  if s.swappingAt k t (fun _ => true) then
    let s := s.withdraw fun f => isTakerFrame k f && !s.wants f
    if stage = .readied ∧ s.swappingAt k t SwapPhase.isOffered = true ∧ s.link.heldFrame (isReadyFrame k) = false then
      s.setCtx l (.taker k t .seeking al)
    else s
  else (s.withdraw (isTakerFrame k)).endCtx l

def State.settleSwap (l : LaneId) (s : State) : State :=
  match (s.lane l).ctx with
  | .none => s
  | .giver k t stage _ _ => s.settleGiver l k t stage
  | .taker k t stage al => s.settleTaker l k t stage al

/-! ### Frames that their owners queue again (R8, R64, R147, R175) -/

/-- The frames of the claim and the swap unit that are moot leave the queue, whatever became of the lane that sent them (R64,
R156). A frame that is spoiled on the line is withdrawn here at the next event (log 35). -/
def State.withdrawMoot (s : State) : State := s.withdraw fun f => isClaimOrSwap f && !s.wants f

/-- A frame that its owner queues again, where it is not moot; a SWAP-HOLD is left to the comparison of R67, and a CEDE takes the
place of an old one of its lane that has become moot (R29). -/
def State.sendAgain (s : State) (q : QFrame) : State :=
  match q with
  | .fixed (.swapHold slot _ _) =>
    s.forLanes fun l s => if (s.lane l).ctx.isTaker slot.toNat then s.holdCheck l else s
  | .fixed f => if s.wants f then (s.withdraw fun g => isSameCede f g && !s.wants g).send f else s
  | _ => s

/-- The frames that fell due at a completed frame are queued again; what the queue discards meanwhile waits for the next one (R64,
R147, R175). -/
def State.sendDue (s : State) : State :=
  s.link.due.foldl State.sendAgain { s with link := { s.link with due := [] } }

end Sys2Proof.Machine
end

