-- ==== Sys2Proof/Machine/Modes.lean ====
section
/-! DEFINITION. Modes.lean: entries into the station modes, the settling of the blocks after an event, home carriage (R132,
R159 to R171). -/

namespace Sys2Proof.Machine

/-- A lane that is not SPENT is released, its swap context ends (R55, R106, R160). -/
def Lane.clearUnspent (x : Lane) : Lane :=
  if x.state = .spent then { x with ctx := .none, qualityStreak := 0, mark := .none } else { x.release with ctx := .none }

/-- Every lane is released, SPENT lanes too (R105). -/
def Lane.clearAll (x : Lane) : Lane := { x.release with ctx := .none }

/-- The claim unit's clocks stop and its marks clear; the rows stay (R31). -/
def Entry.stopClaims (e : Entry) : Entry := { e with loc := .reset }

def PeerRec.stopTimer (r : PeerRec) : PeerRec := { r with staleTimer := none }

/-- A PRESENT record's stale timer restarts; every stale mark clears (R163). -/
def PeerRec.restart (r : PeerRec) : PeerRec :=
  { r with staleTimer := if r.state = .present then some 750 else r.staleTimer, staleMark := false }

/-- Entry into JOINING (R163). `cause` is absent when the entry comes from LOADING. -/
def State.enterJoining (s : State) (cause : Option ResetCause) : State :=
  let s := { s with
    mode := .joining, resetCause := cause.getD s.resetCause, table := s.table.map fun _ => Entry.unknown,
    lanes := s.lanes.map Lane.clearAll, clashBarred := [],
    link := { s.link.clear with spoil := 0, unseen := 0, badRx := 0 },
    dir := s.dir.map PeerRec.restart, joinMark := false, joinQuiet := some 1000, muteRest := none }
  s.requestRoll

/-- The station queues a QUIET about each stale PRESENT peer (R166, R175). -/
def State.quietStale (s : State) : State :=
  allStations.foldl
    (fun s x =>
      match (s.peer x).state, (s.peer x).staleMark, (s.peer x).lastRoll with
      | .present, true, some n => s.send (.quiet (byteOf x.val) n)
      | _, _, _ => s) s

/-- Entry into JOINED (R166). -/
def State.enterJoined (s : State) : State :=
  (State.requestRoll { s with mode := .joined, joinQuiet := none }).quietStale

/-- Entry into BARRED (R160). -/
def State.enterBarred (s : State) (cause : BarredCause) : State :=
  { s with
    mode := .barred, barredCause := cause, lanes := s.lanes.map Lane.clearUnspent, clashBarred := [],
    table := s.table.map fun _ => Entry.unknown, link := s.link.clear, dir := s.dir.map PeerRec.stopTimer,
    rollTimer := none, joinQuiet := none, muteRest := none, loader := { s.loader with phase := .off, wait := none } }

/-- Entry into MUTE (R171). -/
def State.enterMute (s : State) : State :=
  { s with
    mode := .mute, lanes := s.lanes.map Lane.clearUnspent, clashBarred := [], table := s.table.map Entry.stopClaims,
    link := { s.link.clear with spoil := 0, unseen := 0, badRx := 0 }, dir := s.dir.map PeerRec.stopTimer,
    rollTimer := none, joinQuiet := none, muteRest := some 4000 }

/-! ### Home carriage (R132) -/

/-- One home slot is given a lane, if it is unbound and not clash-barred and a lane is left (R132). -/
def State.assignHome (k : Nat) (s : State) : State :=
  match s.slotRec k, s.availableLane with
  | some r, some l =>
    if r.home = s.number ∧ s.slotBound k = false ∧ k ∉ s.clashBarred then s.bindLane l k .home .none else s
  | _, _ => s

/-- The home assignment (R132). -/
def State.homeAssignment (s : State) : State :=
  if s.mode = .isolated then (List.range s.slotCount).foldl (fun s k => State.assignHome k s) s else s

/-- Entry into ISOLATED (R170). -/
def State.enterIsolated (s : State) : State :=
  let s := { s with
    mode := .isolated, lanes := s.lanes.map Lane.clearUnspent, table := s.table.map Entry.stopClaims,
    link := { s.link.clearToRoll with spoil := 0, unseen := 0 }, joinQuiet := none }
  s.requestRoll.homeAssignment

/-! ### Settling after an event -/

/-- A JOINING station whose table is complete and whose join mark is set becomes JOINED (R165). -/
def State.joinIfComplete (s : State) : State :=
  if s.mode = .joining ∧ s.joinMark = true ∧ s.table.all (fun e => !e.row.isUnknown) = true then s.enterJoined else s

/-- The blocks act on the table and the directory as an event has left them: the join, moot QUIETs, places, trials, HELD lanes,
swap contexts, moot frames, discarded SWAP-HOLDs; then, at a completed frame, the frames that fell due at it; then lanes are
assigned (log 11). -/
def State.settle (s : State) (completed : Bool) : State :=
  if s.mode = .isolated then s.homeAssignment
  else if !s.mode.appliesFrames then s
  else
    let s := s.joinIfComplete
    let s := s.withdraw fun f => isQuiet f && !s.wants f
    let s := s.replace
    let s := s.forLanes State.settleTrial
    let s := s.forLanes State.settleHeldLane
    let s := s.forLanes State.settleSwap
    let s := s.withdrawMoot.holdsAgain
    let s := if completed then s.sendDue.holdsAgain.forLanes State.settleHeldLane else s
    s.assignLanes

/-! ### REST (R167, R32, R80) -/

/-- What REST does to one lane (R167, R80). -/
def State.restLane (l : LaneId) (s : State) : State :=
  let x := s.lane l
  match x.role, x.slot, x.ctx with
  | .trial, _, _ => s.dropTrial l
  | .carrier, some k, .none => s.drainLane k l
  | .standby, some k, _ => s.drainLane k l
  | .taker, some k, .taker _ t stage _ =>
    match stage with
    | .opened => s
    | .dropping .takerLost => s
    | _ =>
      let s := ((s.withdraw (isTakerFrame k)).releaseLane l).setCtx l (.taker k t (.dropping .directed) none)
      s.send (.swapDrop (byteOf k) t (DropReason.byte .directed))
  | _, _, _ => s

/-- Entry into RESTING (R167). -/
def State.enterResting (s : State) : State :=
  let s := State.requestRoll { s with mode := .resting }
  (s.withdraw isQuiet).forLanes State.restLane

end Sys2Proof.Machine
end

