-- ==== Sys2Proof/Machine/LaneEvents.lean ====
section
/-! DEFINITION. LaneEvents.lean: the acquisition ladder, quality periods, lock, holdover, loss and retry of a lane (R87 to R103,
R109 to R111, R128, R129). -/

namespace Sys2Proof.Machine

/-! ### Lane states -/

def Lane.toAcq (x : Lane) (p : Profile) (st : AcqStage) : Lane :=
  { x with
    state := match st with | .acq1 => .acq1 | .acq2 => .acq2 | .acq3 => .acq3, stateTimer := some (stageWindow p st) }

/-- Entry into LOCKED (R90, R94, R110). -/
def Lane.lock (x : Lane) (pos k : Nat) : Lane :=
  { x with
    state := .locked, stateTimer := none, lowPeriods := 0, steadyRun := 0, lockClock := some 0,
    sync :=
      { synced := true, boundary := some (pos + 188), lockHit := some pos, hits := k, misses := 0, qualified := false } }

/-- Entry into HOLDOVER (R93, R111). -/
def Lane.holdOver (x : Lane) (p : Profile) : Lane :=
  { x with
    state := .holdover, settings := .recovery, lockClock := none, lowPeriods := 0, steadyRun := 0, sync := .reset,
    stateTimer := some (holdoverWindow p) }

/-- The quality sampler runs (R92). -/
def LaneState.sampled : LaneState → Bool
  | .acq1 | .acq2 | .acq3 | .locked | .holdover => true
  | _ => false

/-! ### Tuning and the ladder (R87 to R91) -/

/-- The tuning time ends (R87, R89). -/
def State.tuneEnd (s : State) (l : LaneId) : State :=
  let x := s.lane l
  if x.state = .tune then
    s.setLane l { x.toAcq (s.profile x.slot) .acq1 with periodClock := some 100, periodErrors := 0 }
  else s

/-- The guard structure is detected (R89). -/
def State.guard (s : State) (l : LaneId) : State :=
  let x := s.lane l
  if x.state = .acq1 then s.setLane l (x.toAcq (s.profile x.slot) .acq2) else s

/-- The frames a bound lane's loss makes its owner queue, its role and gate given up (R70, R74, R97). -/
def State.lossFrames (s : State) (l : LaneId) : State :=
  let x := s.lane l
  match x.role, x.slot with
  | .carrier, some k | .giver, some k =>
    ((s.modLane l fun x => { x.setRole .free with ctx := .none }).withdraw (isGiverFrame k)).sendCede k .carrier l .lost
  | .standby, some k => (s.modLane l fun x => x.setRole .free).sendCede k .standby l .lost
  | .taker, some k =>
    let t := match x.ctx with | .taker _ t _ _ => t | _ => s.termOf k
    ((s.modLane l fun x => { x.setRole .free with ctx := .taker k t (.dropping .takerLost) none }).withdraw
      (isTakerFrame k)).send (.swapDrop (byteOf k) t (DropReason.byte .takerLost))
  | .trial, _ => (s.withdraw (isBidOf l)).modLane l fun x => x.setRole .free
  | _, _ => s

/-- A lost event of a bound lane (R97 to R99). -/
def State.boundLoss (s : State) (l : LaneId) : State := (s.lossFrames l).modLane l (Lane.enterRetry s.retryMode)

/-- A lost event (R91, R95, R97). -/
def State.lost (s : State) (l : LaneId) : State :=
  let x := s.lane l
  match x.role, x.mark with
  | .free, .held _ _ => s.modLane l Lane.loseHeld
  | .free, _ => s
  | .trial, .late _ => s.boundLoss l
  | .trial, _ => s.failTrial l
  | _, _ => s.boundLoss l

/-- Acquisition fails (R88, R91). -/
def State.acquisitionFails (s : State) (l : LaneId) : State :=
  let x := s.lane l
  let r := x.slot.bind s.slotRec
  let inp := recInput r
  let s := s.modLane l (Lane.stopReceiving inp)
  match x.role, x.mark, inp, x.input with
  | .trial, .late _, _, _ => s.lost l
  | .trial, _, .either, .a => s.modLane l (Lane.enterTune r)
  | _, _, _, _ => s.lost l

/-- The lane is in the stage. -/
def Lane.inStage (x : Lane) : AcqStage → Bool
  | .acq1 => x.state == .acq1
  | .acq2 => x.state == .acq2
  | .acq3 => x.state == .acq3

/-- A stage window expires (R91). -/
def State.stageExpired (s : State) (l : LaneId) (st : AcqStage) : State :=
  if (s.lane l).inStage st then (s.acquisitionFails l).settle false else s

/-- A holdover window expires (R95). -/
def State.holdoverExpired (s : State) (l : LaneId) : State :=
  let x := s.lane l
  if x.state = .holdover then ((s.modLane l (Lane.stopReceiving (s.slotInput x.slot))).lost l).settle false else s

/-- The loss that the lane's present timer would bring takes its retry count to 15 in LIMITED mode (R99). -/
def State.lossSpends (s : State) (l : LaneId) : Bool :=
  let x := s.lane l
  let bound :=
    match x.role, x.mark with
    | .free, _ => false
    | .trial, .late _ => true
    | .trial, _ => false
    | _, _ => true
  bound && s.retryMode == .limited && 14 ≤ x.retryCount

/-- A loss that spends the lane: of the stage the lane is in, or of its holdover (R97, R99). -/
def State.spendLoss (s : State) (l : LaneId) : State :=
  if s.lossSpends l then
    match (s.lane l).state with
    | .acq1 => s.stageExpired l .acq1
    | .acq2 => s.stageExpired l .acq2
    | .acq3 => s.stageExpired l .acq3
    | .holdover => s.holdoverExpired l
    | _ => s
  else s

/-- The decision at the end of a retry period (R43, R99). -/
def State.retryEnd (s : State) (l : LaneId) : State :=
  let x := s.lane l
  match x.state, x.slot with
  | .retryWait, some k =>
    let r := s.row k
    let s :=
      if x.role = .home then s.modLane l (Lane.enterTune (s.slotRec k))
      else if !s.claimActive then s.releaseLane l
      else if r.isOpen && s.termOf k != 0xFFFF#16 then s.bindLane l k .trial (.late false)
      else if r.lacksStandby && s.standbyWanted k && (r.carrier.all fun c => c.station != s.number) then
        s.bindLane l k .trial (.late true)
      else s.releaseLane l
    s.settle false
  | _, _ => s

/-- 60 s of continuous lock (R101). -/
def State.lockMinute (s : State) (l : LaneId) : State :=
  let x := s.lane l
  if x.state = .locked ∧ x.lockClock.isSome = true then s.setLane l { x with retryCount := 0, lockClock := none } else s

/-! ### Locked events (R39, R47, R103, R133) -/

/-- A locked event; `again` marks a return from HOLDOVER (R103). -/
def State.lockedEvent (s : State) (l : LaneId) (again : Bool) : State :=
  let x := s.lane l
  match x.role with
  | .trial => if again && s.link.queued (isBidOf l) then s else s.sendBid l
  | .home => if again then s else s.modLane l Lane.openGate
  | _ => s

/-- A 47h byte at `pos` is a hit: at the expected boundary, or the first one where there is none (R109, R110). -/
def Sync.isHit (y : Sync) (pos : Nat) : Bool := y.boundary.all fun b => b == pos

/-- The hit raises the hit counter (R110). -/
def Sync.hit (y : Sync) (pos k : Nat) : Sync := { y with boundary := some (pos + 188), hits := satInc k y.hits }

/-- The hit brings the counter to K in ACQ3 (R90). -/
def State.locksAt (s : State) (l : LaneId) (pos : Nat) : Bool :=
  let x := s.lane l
  x.state == .acq3 && x.sync.isHit pos && syncHitsK (s.profile x.slot) ≤ x.sync.hits + 1

/-- The hit brings the counter of a qualified lane to K in HOLDOVER (R94). -/
def State.returnsAt (s : State) (l : LaneId) (pos : Nat) : Bool :=
  let x := s.lane l
  x.state == .holdover && x.sync.qualified && x.sync.isHit pos && syncHitsK (s.profile x.slot) ≤ x.sync.hits + 1

/-- A lane locks out of ACQ3 (R90). -/
def State.acq3Lock (s : State) (l : LaneId) (pos : Nat) : State :=
  (s.modLane l fun x => x.lock pos (syncHitsK (s.profile x.slot))).lockedEvent l false

/-- A lane returns from HOLDOVER (R94). -/
def State.holdoverBack (s : State) (l : LaneId) (pos : Nat) : State :=
  (s.modLane l fun x => x.lock pos (syncHitsK (s.profile x.slot))).lockedEvent l true

/-- A sync hit while packet sync hunts (R110). -/
def State.hit (s : State) (l : LaneId) (pos : Nat) : State :=
  if s.locksAt l pos then s.acq3Lock l pos
  else if s.returnsAt l pos then s.holdoverBack l pos
  else
    let x := s.lane l
    if (x.state = .acq3 ∨ x.state = .holdover) ∧ x.sync.isHit pos = true then
      s.setLane l { x with sync := x.sync.hit pos (syncHitsK (s.profile x.slot)) }
    else s

/-- A miss at the expected boundary brings the miss counter to M (R111). -/
def State.missEnds (s : State) (l : LaneId) (pos : Nat) : Bool :=
  let x := s.lane l
  x.state == .locked && x.sync.boundary == some pos && syncMissM x.settings ≤ x.sync.misses + 1

/-- A sync miss (R110, R111). -/
def State.miss (s : State) (l : LaneId) (pos : Nat) : State :=
  let x := s.lane l
  if s.missEnds l pos then s.setLane l (x.holdOver (s.profile x.slot))
  else if x.sync.boundary = some pos then
    match x.state with
    | .acq3 | .holdover => s.setLane l { x with sync := { x.sync with boundary := none, hits := 0 } }
    | .locked => s.setLane l { x with sync := { x.sync with boundary := some (pos + 188), misses := x.sync.misses + 1 } }
    | _ => s
  else s

/-! ### Quality periods (R92) -/

/-- The lane's ladder and lock rules take a period with margin `m` (R90, R93, R94, R96). -/
def Lane.takePeriod (x : Lane) (p : Profile) (m : Nat) : Lane :=
  match x.state with
  | .acq2 => if acq2Threshold p ≤ m then x.toAcq p .acq3 else x
  | .locked =>
    if m < lockFloor p x.settings then
      if x.lowPeriods = 0 then { x with lowPeriods := 1, steadyRun := 0 } else x.holdOver p
    else
      match x.settings with
      | .steady => { x with lowPeriods := 0 }
      | .recovery =>
        if lockFloor p .steady + 2 ≤ m then
          if x.steadyRun + 1 = 30 then { x with lowPeriods := 0, settings := .steady, steadyRun := 0 }
          else { x with lowPeriods := 0, steadyRun := x.steadyRun + 1 }
        else { x with lowPeriods := 0, steadyRun := 0 }
  | .holdover =>
    if lockFloor p .recovery ≤ m then
      if x.sync.qualified then x else { x with sync := { x.sync with qualified := true, hits := 0 } }
    else { x with sync := { x.sync with qualified := false } }
  | _ => x

/-- The values of a period replace the lane's; a period in ACQ1 has margin 0 (R89, R92). -/
def Lane.closePeriod (x : Lane) (margin : Nat) : Lane :=
  { x with
    margin := if x.state = .acq1 then 0 else min margin 63, residual := x.periodErrors, periodErrors := 0,
    periodClock := some 100 }

/-- The swap unit's quality streak takes a period (R56). -/
def Lane.takeQuality (x : Lane) (p : Profile) : Lane :=
  if x.role = .carrier then
    { x with qualityStreak := if x.margin < swapFloor p ∨ x.residual ≠ 0 then satInc 5 x.qualityStreak else 0 }
  else x

/-- The ladder, the lock rules and the quality streak take a period close (R92). -/
def State.periodTaken (s : State) (l : LaneId) (margin : Nat) : State :=
  s.modLane l fun x =>
    let p := s.profile x.slot
    let y := x.closePeriod margin
    (y.takePeriod p y.margin).takeQuality p

/-- The standby's last ROLL shows its lane LOCKED, STANDBY, on the slot, at least 6 better (R56). -/
def State.standbyBetter (s : State) (k margin : Nat) (sb : Pair) : Bool :=
  let r := s.peer sb.station
  r.state == .present && r.lanes.any fun v =>
    let u := v[sb.lane]
    u.state == LaneState.byte .locked && u.role == LaneRole.byte .standby && u.slot == byteOf k
      && margin + 6 ≤ u.margin.toNat

/-- The quality trigger fires for the lane as a period close has left it (R56). -/
def State.triggerFires (s : State) (l : LaneId) : Bool :=
  let x := s.lane l
  match x.slot with
  | none => false
  | some k =>
    s.mode == .joined && x.role == .carrier && x.qualityStreak == 5 && x.ctx == .none &&
      match s.row k with
      | .carried t _ (some sb) _ => t.toNat < 65535 && s.standbyBetter k x.margin sb
      | _ => false

/-- The swap begins where the trigger fires (R56, R57). -/
def State.trigger (s : State) (l : LaneId) : State :=
  match (s.lane l).slot with
  | some k => if s.triggerFires l then s.offerSwap k l else s
  | none => s

/-- A discarded BID is renewed with the new margin (R40, R47). -/
def State.renewBid (s : State) (l : LaneId) : State :=
  let x := s.lane l
  if x.role = .trial ∧ x.state = .locked ∧ x.bidTerm.isSome = true ∧ s.link.queued (isBidOf l) = false
      ∧ s.trialStands x = true then s.sendBid l
  else s

/-- The outlet port's clash record takes a period (R128). A giver that closed in the period counts a clash seen in it as any lane does:
the model's choice (log 55). -/
def Lane.takeClash (x : Lane) : Lane :=
  { x with clashStreak := if x.clashSeen then satInc 5 x.clashStreak else 0, clashSeen := false }

/-- The period close brings the clash streak of a CARRIER or GIVER to 5 (R129, R130), of a giver in stage CLOSED too (log 55). -/
def Lane.clashLimit (x : Lane) : Bool :=
  (x.role == .carrier || x.role == .giver) && x.clashSeen && 4 ≤ x.clashStreak

/-- The clash record takes a period; at the limit the lane gives up its role with reason CLASH (R128, R129). -/
def State.clashTaken (s : State) (l : LaneId) : State :=
  let x := s.lane l
  match x.clashLimit, x.slot with
  | true, some k => s.giveUp k .carrier l .clash
  | _, _ => s.modLane l Lane.takeClash

/-- A quality period closes (R92). -/
def State.periodClose (s : State) (l : LaneId) (margin : Nat) : State :=
  if (s.lane l).state.sampled then
    ((((s.periodTaken l margin).trigger l).renewBid l).clashTaken l).settle false
  else s

/-- The period close completes the steady run (R96). -/
def State.steadyCompletes (s : State) (l : LaneId) (margin : Nat) : Bool :=
  let x := s.lane l
  x.state == .locked && x.settings == .recovery && x.steadyRun == 29
    && lockFloor (s.profile x.slot) .steady + 2 ≤ min margin 63

/-- The period close makes the quality trigger fire (R56). -/
def State.triggersAt (s : State) (l : LaneId) (margin : Nat) : Bool :=
  (s.lane l).state.sampled && (s.periodTaken l margin).triggerFires l

/-- The period close brings the clash streak to its limit (R129). -/
def State.clashLimitAt (s : State) (l : LaneId) : Bool := (s.lane l).state.sampled && (s.lane l).clashLimit

end Sys2Proof.Machine
end

