-- ==== Sys2Proof/Machine/Packets.lean ====
section
/-! DEFINITION. Packets.lean: what a delivered packet yields and the lane buffer (R111 to R117). -/

namespace Sys2Proof.Machine

/-- The packet's own error flag is set in its bytes (R112, R208). -/
def setErrorFlag (bytes : List Byte) : List Byte := bytes.modify 1 (· ||| 0x80#8)

/-- The 13-bit stream identifier (R208). -/
def streamIdOf (bytes : List Byte) : BitVec 13 := (bytes.getD 1 0#8).extractLsb' 0 5 ++ bytes.getD 2 0#8

/-- The continuity count (R208). -/
def continuityOf (bytes : List Byte) : BitVec 4 := (bytes.getD 3 0#8).extractLsb' 0 4

/-- The packet record of a delivered packet (R112). -/
def packetRecOf (bytes : List Byte) (unrepaired : Bool) : PacketRec :=
  let b := if unrepaired then setErrorFlag bytes else bytes
  { bytes := b, streamId := streamIdOf b, continuity := continuityOf b, errorIndicator := unrepaired,
    signature := checkSequence b }

/-- The role fills the buffer (R113, R114). -/
def Lane.fills (x : Lane) : Bool :=
  match x.role with
  | .carrier | .giver | .standby | .taker | .home => true
  | .free => x.mark.isHeld
  | .trial => false

/-- Packet sync delivers the packet that begins at `pos`: its expected boundary, or the hit that synced it, where no later packet
position has been taken and that packet not been delivered (R110, R111; log 22). -/
def Lane.delivers (x : Lane) (pos : Nat) : Bool :=
  x.state == .locked && x.sync.synced
    && (x.sync.boundary == some pos || (x.sync.lockHit == some pos && x.sync.boundary == some (pos + 188)))

/-- The hit and the count of the period at a delivery (R92, R111, R112). -/
def Lane.countDelivery (x : Lane) (pos : Nat) (unrepaired : Bool) : Lane :=
  { x with
    sync := { x.sync with boundary := some (pos + 188), lockHit := none, misses := 0 },
    periodErrors := if unrepaired then satInc 65535 x.periodErrors else x.periodErrors }

/-- A null packet (R113). -/
def PacketRec.isNull (r : PacketRec) : Bool := r.streamId == 0x1FFF#13

/-- A packet is delivered (R111 to R115, R120). -/
def State.packetArrives (s : State) (l : LaneId) (pos : Nat) (bytes : List Byte) (unrepaired : Bool) : State :=
  if (s.lane l).delivers pos then
    let r := packetRecOf bytes unrepaired
    let s := s.modLane l fun x => x.countDelivery pos unrepaired
    if r.isNull || !(s.lane l).fills then s
    else (s.modLane l fun x => { x with buffer := joinBuffer x.buffer r }).pairArrival l
  else s

end Sys2Proof.Machine
end

