-- ==== Sys2Proof/Machine/Windows.lean ====
section
/-! DEFINITION. Windows.lean: the outlet port: windows, driving, read-back, clashes, the countdown of a giver, feeding a taker
(R72, R73, R123 to R134, R208). -/

namespace Sys2Proof.Machine

/-- The lane belongs to the outlet (R125). -/
def State.onOutlet (s : State) (x : Lane) (n : Nat) : Bool := x.slot.any fun k => s.outlet k == some n

/-- The lane that drives a window of the outlet that starts now (R125). -/
def State.drivingLane (s : State) (n : Nat) : Option LaneId :=
  allLanes.find? fun l => (s.lane l).gate && s.onOutlet (s.lane l) n && !(s.lane l).buffer.isEmpty

/-- The taking lane for which a window of the outlet that starts now is read, with the number of the trace it holds (R131). -/
def State.readingLane (s : State) (n : Nat) : Option (LaneId × Nat) :=
  (allLanes.find? fun l => ((s.lane l).taker.any fun t => t.feeding) && s.onOutlet (s.lane l) n).map fun l =>
    (l, (s.lane l).traceNo)

/-- The swap unit asks for LAST: the countdown has ended and the row's hold is CLEAR (R72, R73, R126). -/
def State.asksLast (s : State) (x : Lane) : Bool :=
  match x.ctx with
  | .giver k _ .draining 0 _ => !(s.row k).hold
  | .giver k _ .overrun _ _ => !(s.row k).hold
  | _ => false

/-- A window of outlet `n` starts (R125, R126, R131). -/
def State.startWindow (s : State) (n : Nat) : State :=
  let reader := s.readingLane n
  match s.drivingLane n with
  | none => { s with bp := { pos := .inside n, driven := none, reader := reader } }
  | some l =>
    let x := s.lane l
    match x.buffer, x.slot with
    | r :: rest, some k =>
      let d : Driven := { lane := l, slot := k, packet := r, last := s.asksLast x }
      { s.setLane l { x with buffer := rest } with bp := { pos := .inside n, driven := some d, reader := reader } }
    | _, _ => { s with bp := { pos := .inside n, driven := none, reader := reader } }

/-- The first clock of a window: a frame mark starts outlet 0, and without one the next outlet of the cycle starts (R123). A
frame mark inside a window cuts that window short. A stop of the clock leaves no mark, and the windows go on after it: the model's
choice (log 54). -/
def State.windowStarts (s : State) (frameMark : Bool) : State :=
  if frameMark then s.startWindow 0
  else
    match s.bp.pos with
    | .between n => s.startWindow n
    | _ => s

/-- A frame mark before the window in progress has ended (R123). -/
def State.cutShort (s : State) : State :=
  match s.bp.pos with
  | .inside _ => s.startWindow 0
  | _ => s

/-- The lines carry the dominant level where either side drives it (R124, R208). -/
def combine : List Byte → List Byte → List Byte
  | a :: as, b :: bs => (a ||| b) :: combine as bs
  | as, [] => as
  | [], bs => bs

/-- The read-back differs from what the station drove, on a data line or a mark (R127, R208). -/
def readBackDiffers (d : Driven) (w : WindowLines) : Bool :=
  combine d.packet.bytes w.bytes != d.packet.bytes || (w.lastAny && !d.last)

/-- The overrun limit of a row (R73). -/
def Row.overrunLimit : Row → Nat
  | .swapping _ _ _ _ (.draining _ dc) => 4 * dc
  | _ => 0

/-- A giver has placed a packet: the swap unit's counts (R72, R73). -/
def State.countPlaced (s : State) (d : Driven) : State :=
  match (s.lane d.lane).ctx with
  | .giver k t stage rem ov =>
    if k ≠ d.slot then s
    else if d.last then
      match stage with
      | .draining | .overrun => s.modLane d.lane fun x => { x with gate := false, ctx := .giver k t .closed rem ov }
      | _ => s
    else
      match stage, rem with
      | .draining, n + 1 => s.setCtx d.lane (.giver k t .draining n ov)
      | .draining, 0 => s.setCtx d.lane (.giver k t .overrun 0 1)
      | .overrun, _ =>
        if (s.row k).overrunLimit ≤ ov + 1 then
          (s.setCtx d.lane (.giver k t .dropping rem (ov + 1))).sendOver
            (.swapDrop (byteOf k) t (DropReason.byte .overrun))
        else s.setCtx d.lane (.giver k t .overrun rem (ov + 1))
      | _, _ => s
  | _ => s

/-- A slot joins a set kept in slot order (R134). -/
def insertSlot (k : Nat) : List Nat → List Nat
  | [] => [k]
  | j :: js => if k < j then k :: j :: js else if k = j then j :: js else j :: insertSlot k js

/-- A clash is marked on the lane that drove the window, whatever has become of it since; a lane that is HOME for the window's slot
yields at once (R127, R128, R134; log 24). -/
def State.markClash (s : State) (d : Driven) : State :=
  let x := s.lane d.lane
  if x.role = .home ∧ x.slot = some d.slot then
    ({ s.releaseLane d.lane with clashBarred := insertSlot d.slot s.clashBarred }).homeAssignment
  else s.setLane d.lane { x with clashSeen := true }

/-- The window the station drove has ended (R126, R127). -/
def State.placed (s : State) (d : Driven) (w : WindowLines) : State :=
  let s := s.countPlaced d
  if readBackDiffers d w then s.markClash d else s

/-- The window is read for a taking lane, unless its trace is a later one than the window started under (R131). -/
def State.readWindow (s : State) (n : Nat) (r : LaneId × Nat) (bytes : List Byte) (valid last : Bool) : State :=
  let l := r.1
  if valid && (s.lane l).traceNo == r.2 && s.onOutlet (s.lane l) n then
    s.traceArrival l { signature := checkSequence bytes, last := last }
  else s

/-- The event that ends the window in progress; `w` is what all other drivers placed (R123, R124, R126, R127, R131). -/
def State.windowEnds (s : State) (w : WindowLines) : State :=
  match s.bp.pos with
  | .inside n =>
    let driven := s.bp.driven
    let reader := s.bp.reader
    let pos := if n < 19 then CyclePos.between (n + 1) else CyclePos.awaiting
    let s : State := { s with bp := { pos := pos, driven := none, reader := none } }
    let s := match driven with | some d => s.placed d w | none => s
    match reader with
    | none => s
    | some r =>
      match driven with
      | some d => s.readWindow n r (combine d.packet.bytes w.bytes) true (w.last || d.last)
      | none => s.readWindow n r w.bytes w.valid w.last
  | _ => s

/-- The window in progress is one whose end takes a giver to its overrun limit (R73). -/
def State.overrunAtLimit (s : State) : Bool :=
  match s.bp.pos, s.bp.driven with
  | .inside _, some d =>
    match (s.lane d.lane).ctx with
    | .giver k _ .overrun _ ov => k == d.slot && !d.last && (s.row k).overrunLimit ≤ ov + 1
    | _ => false
  | _, _ => false

/-- The outlet of the window that starts now. -/
def Backplane.nextOutlet (b : Backplane) (frameMark : Bool) : Option Nat :=
  if frameMark then some 0
  else
    match b.pos with
    | .between n => some n
    | _ => none

/-- The window that starts now is driven by a giver whose countdown has ended (R72). -/
def State.countdownOver (s : State) (frameMark : Bool) : Bool :=
  match (s.bp.nextOutlet frameMark).bind s.drivingLane with
  | none => false
  | some l =>
    match (s.lane l).ctx with
    | .giver _ _ .draining 0 _ => true
    | _ => false

end Sys2Proof.Machine
end

