-- ==== Sys2Proof/Machine/BackplaneCommands.lean ====
section
/-! DEFINITION. BackplaneCommands.lean: the meanings of packet delivery and of the backplane's windows (R72, R73, R111 to R115, R123 to R134). -/

namespace Sys2Proof.Machine

/-- OVERRUN_LIMIT: the end of the window that takes the overrun to its limit (R73; log 28). -/
def execOverrunLimit (others : WindowLines) (s : State) : Host.Outcome State Fault Refusal :=
  .next (if s.overrunAtLimit then s.windowEnds others else s)

/-- DRAIN_COUNTDOWN_END: the whole window of the giver's next packet after the countdown (R72; log 28). -/
def execDrainCountdownEnd (frameMark : Bool) (others : WindowLines) (s : State) : Host.Outcome State Fault Refusal :=
  .next (if s.countdownOver frameMark then (s.windowStarts frameMark).windowEnds others else s)

/-- PACKET_ARRIVAL (R111 to R115). -/
def execPacketArrival (lane : LaneId) (pos : Nat) (bytes : List Byte) (unrepaired : Bool)
    (s : State) : Host.Outcome State Fault Refusal :=
  .next (s.packetArrives lane pos bytes unrepaired)

/-- WINDOW_START (R123, R125, R126). -/
def execWindowStart (frameMark : Bool) (s : State) : Host.Outcome State Fault Refusal :=
  .next (s.windowStarts frameMark)

/-- WINDOW_END (R126, R127, R131, R134). -/
def execWindowEnd (others : WindowLines) (s : State) : Host.Outcome State Fault Refusal :=
  .next (s.windowEnds others)

/-- CYCLE_CUT_SHORT (R123). -/
def execCycleCutShort (s : State) : Host.Outcome State Fault Refusal :=
  .next s.cutShort

end Sys2Proof.Machine
end

