-- ==== Sys2Proof/Machine/Echo.lean ====
section
/-! DEFINITION. Echo.lean: rows as row records and back, and the adoption of echoes (R21 to R24, R28, R82, R205). -/

namespace Sys2Proof.Machine

def Row.code : Row → RowCode
  | .unknown => .unknown
  | .opened .. => .opened
  | .carried .. => .carried
  | .swapping .. => .swapping

/-- The phase byte of a swap phase (R205). -/
def SwapPhase.byte : SwapPhase → Byte
  | .offered => 0#8
  | .ready => 1#8
  | .draining hold _ => if hold then 0x82#8 else 2#8

/-- The record of a row as an echo, which carries no drain count (R21), or as a REPORT shows it (R30, R206). -/
def Row.record (r : Row) (k : Nat) (withDrainCount : Bool) : RowRecord :=
  { slot := byteOf k, state := r.code,
    termReclaims := match r with | .opened t _ n => some (t, byteOf n) | _ => r.term.map fun t => (t, 0#8),
    carrier := r.carrier.map pairByte, standby := r.standby.map pairByte,
    lastCarrier := r.last.map fun x => byteOf x.val,
    phaseHold := match r with | .swapping _ _ _ _ p => some (SwapPhase.byte p) | _ => none,
    drainCount := match r with
      | .swapping _ _ _ _ (.draining _ dc) => if withDrainCount then some (byteOf dc) else none
      | _ => none }

/-- An optional pair byte as a field: `none` where it names no pair (R205). -/
def pairField : Option Byte → Option (Option Pair)
  | none => some none
  | some b => (pairOf b).map some

/-- An optional station byte as a field (log 20). -/
def stationField : Option Byte → Option (Option Station)
  | none => some none
  | some b => (stationOf b).map some

/-- The swap phase that an echo's phase byte carries; the drain count is the station's own plan's (R22, R205). -/
def phaseOf (b : Byte) (drainCount : Nat) : Option SwapPhase :=
  if b = 0#8 then some .offered else if b = 1#8 then some .ready else if b = 2#8 then some (.draining false drainCount)
  else if b = 0x82#8 then some (.draining true drainCount) else none

/-- The row an echo carries, where it passes the tests of R205. -/
def echoRow (drainCount : Nat) (e : RowRecord) : Option Row :=
  match e.state, e.termReclaims, pairField e.carrier, pairField e.standby, stationField e.lastCarrier, e.phaseHold,
      e.drainCount with
  | .opened, some (t, n), some none, some none, some lc, none, none =>
    if n.toNat ≤ 3 then some (.opened t lc n.toNat) else none
  | .carried, some (t, n), some (some c), some sb, some lc, none, none =>
    if n = 0#8 then some (.carried t c sb lc) else none
  | .swapping, some (t, n), some (some c), some (some sb), some lc, some p, none =>
    if n = 0#8 then (phaseOf p drainCount).map fun ph => .swapping t c sb lc ph else none
  | _, _, _, _, _, _, _ => none

/-- A station named by the row is a peer whose record is not PRESENT, and the echo does not name it (R23). -/
def State.namesLostPeer (s : State) (old new : Row) : Bool :=
  allStations.any fun x =>
    x != s.number && (s.peer x).state != .present && old.namesStation x && !new.namesStation x

/-- The echo is adopted (R22 to R24). -/
def State.adopts (s : State) (k : Nat) (new : Row) : Bool :=
  let old := s.row k
  let higher :=
    match old.term, new.term with
    | none, _ => true
    | some t, some t' => t.toNat < t'.toNat || (t == t' && s.namesLostPeer old new)
    | some _, none => false
  let clashes := fun p : Option Pair => p.any fun q => s.pairNamedElsewhere k q
  let both := new.carrier.any fun c => new.standby.any fun sb => sb.station == c.station
  higher && !clashes new.carrier && !clashes new.standby && !both

/-- An own lane that the old row names and the adopted row does not name in that role (R28). -/
def State.adoptUnnames (s : State) (k : Nat) (old new : Row) (role : CarriageRole) : State :=
  match old.named role with
  | some p =>
    if p.station = s.number ∧ new.named role ≠ some p then s.unnamed k p.lane role else s
  | none => s

/-- An own lane that the adopted row names in a role (R28, R82). A lane of a swap counts as holding the role it has in the row
(log 19). An echo adopted at an equal term (R23) ends contexts and withdraws frames as one of higher term does, and at a RESTING
station the lane gives up its role: the model's choice (log 50). -/
def State.adoptNames (s : State) (k : Nat) (new : Row) (role : CarriageRole) : State :=
  match new.named role with
  | none => s
  | some p =>
    if p.station ≠ s.number ∨ s.mode.holdsRoles = false then s
    else if new.isSwapping then ((s.unnamed k p.lane role).namedInVain k p.lane role .lost true)
    else if (s.lane p.lane).plays k role then
      match role with
      | .carrier => s.giverBack k p.lane false false
      | .standby =>
        ((s.withdraw (isTakerFrame k)).modLane p.lane fun x => { (x.setRole .standby) with ctx := .none }).drainIfResting k
          p.lane
    else s.namedInVain k p.lane role .lost true

/-- The adoption of an echo: the row, its local data, this station's lanes (R22, R28, R82). -/
def State.adoptRow (s : State) (k : Nat) (new : Row) : State :=
  let old := s.row k
  let s := s.putRow k new
  let s := s.adoptUnnames k old new .carrier
  let s := s.adoptUnnames k old new .standby
  let s := s.adoptNames k new .carrier
  s.adoptNames k new .standby

/-- One echo of a ROLL is judged and adopted or ignored (R22 to R24, R205). -/
def State.takeEcho (s : State) (e : RowRecord) : State :=
  let k := e.slot.toNat
  match echoRow s.drainCount e with
  | none => s
  | some new => if k < s.slotCount ∧ s.adopts k new then s.adoptRow k new else s

/-- The echoes of a ROLL; two echoes of one slot are neither adopted (R205). They are judged in the frame's order, the second against
the table as the first has left it: the model's choice (log 38). -/
def State.takeEchoes (s : State) (echoes : List RowRecord) : State :=
  match echoes with
  | [a, b] => if a.slot = b.slot then s else (s.takeEcho a).takeEcho b
  | _ => echoes.foldl State.takeEcho s

end Sys2Proof.Machine
end

