-- ==== Sys2Proof/Machine/Directory.lean ====
section
/-! DEFINITION. Directory.lean: what a completed frame changes in the peer directory (R172 to R178). -/

namespace Sys2Proof.Machine

/-- The record of a frame's sender after the frame (R173). -/
def PeerRec.take (r : PeerRec) (digest : Word16) (f : Frame) : PeerRec :=
  match f with
  | .roll b =>
    let r := { r with
      mode := some b.mode, lastRoll := some b.number, digest := some b.digest, lanes := some b.lanes }
    if b.digest = digest then { r with state := .present, staleTimer := some 750, staleMark := false }
    else { r with state := .alien, staleTimer := none, staleMark := false }
  | _ =>
    match r.state with
    | .alien => r
    | _ => { r with state := .present, staleTimer := some 750, staleMark := false }

/-- The directory takes a completed foreign frame; the join quiet timer reads the record after it (R164, R173). -/
def State.directoryTake (s : State) (sender : BitVec 4) (f : Frame) : State :=
  match senderStation sender with
  | none => s
  | some x =>
    if x = s.number then s
    else
      let r := (s.peer x).take s.digest f
      let s := s.setPeer x r
      if s.mode = .joining ∧ s.joinQuiet.isSome = true ∧ r.state = .present
          ∧ (r.mode = some .joined ∨ r.mode = some .resting) then
        { s with joinQuiet := some 1000 }
      else s

/-- The sender's record lets its frame act on the table (R7): a station whose record is not ALIEN. -/
def State.mayAct (s : State) (sender : BitVec 4) : Option Station :=
  match senderStation sender with
  | none => none
  | some x => if (s.peer x).state = .alien then none else some x

/-- The subject of an accepted QUIET becomes SILENT (R176). -/
def PeerRec.silence (r : PeerRec) : PeerRec := { r with state := .silent, staleTimer := none, staleMark := false }

/-- A completed QUIET (R19, R176, R177). -/
def State.takeQuiet (s : State) (sender : BitVec 4) (subject roll : Byte) : State :=
  match s.mayAct sender, stationOf subject with
  | some _, some x =>
    if x = s.number then
      if roll = s.link.lastRoll then s.enterJoining (some .quieted) else s
    else if (s.peer x).state = .present ∧ (s.peer x).lastRoll = some roll then
      (s.setPeer x (s.peer x).silence).removeStation x
    else s
  | _, _ => s

/-- A completed foreign ROLL: removal, then the echoes (R20, R21, R178). -/
def State.takeRoll (s : State) (sender : BitVec 4) (b : RollBody) : State :=
  match senderStation sender with
  | none => s
  | some x =>
    match b.mode with
    | .joining | .isolated => s.removeStation x
    | .joined | .resting => if b.digest = s.digest then s.takeEchoes b.echoes else s

/-- An own ROLL is applied (R8, R20, R32, R158, R162, R164, R172). -/
def State.applyOwnRoll (s : State) (b : RollBody) : State :=
  let before := (s.peer s.number).mode
  let s := s.setPeer s.number
    { s.peer s.number with mode := some b.mode, lastRoll := some b.number, lanes := some b.lanes }
  let s : State := { s with
    link := { s.link with lastRoll := b.number },
    echoPointer := if s.slotCount = 0 then s.echoPointer else (s.echoPointer + b.echoes.length) % s.slotCount,
    joinMark := s.joinMark || (b.mode == .joining && s.mode == .joining) }
  let s := if b.mode = .joining ∧ s.mode.appliesFrames = true then s.removeStation s.number else s
  if b.mode = .joined ∧ before ≠ some .joined then s.activateClaim else s

end Sys2Proof.Machine
end

