-- ==== Sys2Proof/Machine/Attendant.lean ====
section
/-! DEFINITION. Attendant.lean: QUERY and DIRECTIVE at the report selector (R193 to R201). -/

namespace Sys2Proof.Machine

/-- An index is valid for a record kind (R194). -/
def State.indexValid (s : State) (kind : RecordKind) (index : Nat) : Bool :=
  match kind with
  | .station => index == 0
  | .lane => index < 4
  | .row => index < s.slotCount
  | .peer => index < 8
  | .plan => index < s.slotCount

/-- A QUERY addressed to this station (R194). -/
def State.takeQuery (s : State) (target kind index : Byte) : State :=
  if target.toNat = s.number.val then
    let sel :=
      match recordKindOf kind with
      | some rk =>
        if s.indexValid rk index.toNat then { s.sel with kind := rk, index := index.toNat, refused := false }
        else { s.sel with refused := true }
      | none => { s.sel with refused := true }
    State.requestReport { s with sel := sel }
  else s

/-- A lane of this station that the row names in a role (R199, R200). -/
def State.ownNamed (s : State) (k : Nat) (role : CarriageRole) : Option LaneId :=
  match (s.row k).named role with
  | none => none
  | some p => if p.station = s.number then some p.lane else none

/-- CLEAR (R198). -/
def State.directClear (s : State) (argument : Byte) : State × DirOutcome :=
  match laneOf argument with
  | none => (s, .unknownAction)
  | some l =>
    (s.modLane l fun x =>
      if x.state = .spent then { x.setRole .free with state := .idle, retryCount := 0 } else { x with retryCount := 0 },
     .done)

/-- YIELD for a lane that the row names in a role: DONE where it holds the role, REFUSED-BUSY where it gave it up and its CEDE
is queued or on the line, REFUSED-STATE in any other case (R199). A CEDE that the queue discarded before, and that joins again at
the completion of the DIRECTIVE itself, joins when it has been judged: the model's choice (log 45). -/
def State.yieldRole (s : State) (k : Nat) (role : CarriageRole) (l : LaneId) : State × DirOutcome :=
  if (s.lane l).plays k role then (s.giveUp k role l .yielded, .done)
  else if s.cedePends k l then (s, .refusedBusy)
  else (s, .refusedState)

/-- YIELD (R199). -/
def State.directYield (s : State) (argument : Byte) : State × DirOutcome :=
  let k := argument.toNat
  if s.slotCount ≤ k then (s, .unknownSlot)
  else if (s.row k).isSwapping then (s, .refusedBusy)
  else
    match s.ownNamed k .carrier, s.ownNamed k .standby with
    | some l, _ => s.yieldRole k .carrier l
    | none, some l => s.yieldRole k .standby l
    | none, none => (s, .refusedState)

/-- SWAP (R200, R79). For a named lane that does not hold CARRIER, its CEDE not queued, the SWAP-OFFER of the last case is moot at
once and its context ends with it (R64, R57), so that DONE changes nothing: the model's choice (log 45). -/
def State.directSwap (s : State) (argument : Byte) : State × DirOutcome :=
  let k := argument.toNat
  if s.slotCount ≤ k then (s, .unknownSlot)
  else if (s.row k).isSwapping then (s, .refusedBusy)
  else
    match s.ownNamed k .carrier with
    | none => (s, .refusedState)
    | some l =>
      if !(s.lane l).carries k && s.cedePends k l then (s, .refusedBusy)
      else if (s.row k).standby = none ∨ s.termOf k = 0xFFFF#16 then (s, .refusedState)
      else if !(s.lane l).carries k || (s.lane l).ctx.isGiver k then (s, .done)
      else (s.offerSwap k l, .done)

/-- REST in JOINED (R167, R201). -/
def State.directRest (s : State) : State × DirOutcome := (s.enterResting, .done)

/-- RESUME in RESTING (R169, R201). A SELF record that still shows JOINING is answered as one that shows JOINED: the model's choice
(log 43). -/
def State.directResume (s : State) : State × DirOutcome :=
  if (s.peer s.number).mode = some .resting then (s.enterJoined, .done) else (s, .refusedBusy)

/-- The judging of a directive (R197). -/
def State.judge (s : State) (action argument : Byte) : State × DirOutcome :=
  if action = 0#8 then (if s.mode = .joined ∨ s.mode = .resting then s.directClear argument else (s, .refusedState))
  else if action = 1#8 then (if s.mode = .joined then s.directYield argument else (s, .refusedState))
  else if action = 2#8 then (if s.mode = .joined then s.directSwap argument else (s, .refusedState))
  else if action = 3#8 then (if s.mode = .joined then s.directRest else (s, .refusedState))
  else if action = 4#8 then (if s.mode = .resting then s.directResume else (s, .refusedState))
  else (s, .unknownAction)

/-- A DIRECTIVE addressed to this station: its outcome is stored, its effect begins, a REPORT is requested (R197). -/
def State.takeDirective (s : State) (target action argument : Byte) : State :=
  if target.toNat = s.number.val then
    match s.judge action argument with
    | (s', outcome) => State.requestReport { s' with sel := { s'.sel with outcome := outcome } }
  else s

end Sys2Proof.Machine
end

