-- ==== Sys2Proof/Machine/CarriageFrames.lean ====
section
/-! DEFINITION. CarriageFrames.lean: what a completed BID, CEDE or swap frame does to the table and to the lanes it names (R9 to
R17, R41, R42, R47, R58 to R63, R71). -/

namespace Sys2Proof.Machine

/-! ### BID -/

/-- A carrier BID is accepted (R9). -/
def State.bidAccepted (s : State) (x : Station) (l : LaneId) (k : Nat) (term : Term) : Bool :=
  match s.row k with
  | .opened t _ _ =>
    term.toNat == t.toNat + 1 && s.isJoinedStation x && s.inMask k x && !s.pairNamed { station := x, lane := l }
  | _ => false

/-- A standby BID is accepted (R10). -/
def State.standbyBidAccepted (s : State) (x : Station) (l : LaneId) (k : Nat) (term : Term) : Bool :=
  match s.row k with
  | .carried t c none _ =>
    s.standbyWanted k && term == t && x != c.station && s.inMask k x && s.isJoinedStation x
      && !s.pairNamed { station := x, lane := l }
  | _ => false

/-- The lane holds a trial on the slot for the role. -/
def Lane.tries (x : Lane) (k : Nat) (role : CarriageRole) : Bool :=
  x.role == .trial && x.slot == some k &&
    match role with | .carrier => x.mark.bidsCarrier | .standby => x.mark.bidsStandby

/-- An accepted BID of this station: its lane takes the role, or the station cedes it again (R28, R41, R42, R47). -/
def State.ownBidAccepted (s : State) (l : LaneId) (k : Nat) (role : CarriageRole) : State :=
  if (s.lane l).tries k role then
    s.modLane l fun x =>
      match role with
      | .carrier => Lane.openGate { x.setRole .carrier with mark := .none, bidTerm := none }
      | .standby => { x.setRole .standby with mark := .none, bidTerm := none }
  else s.sendCede k role l s.swapReason

/-- An ignored BID of this station releases its trial lane, and marks the slot: tried where the row is still OPEN, standby-tried where
it is still CARRIED at the BID's term with no standby (R11, R41, R47). A lane that has stopped the trial stays as it is (DEDUCED:
R11, R42, R97; log 39); the marks do not depend on it. -/
def State.ownBidIgnored (s : State) (l : LaneId) (k : Nat) (role : CarriageRole) (term : Term) : State :=
  let s := if (s.lane l).tries k role then s.dropTrial l else s
  match role with
  | .carrier => s.markTried k
  | .standby => if (s.row k).lacksStandby ∧ s.termOf k = term then s.markStandbyTried k else s

/-- The table changes by an accepted BID (R9, R10). -/
def State.applyBid (s : State) (x : Station) (l : LaneId) (k : Nat) (role : CarriageRole) (term : Term) : State :=
  match role, s.row k with
  | .carrier, .opened _ lc _ => s.putRow k (.carried term { station := x, lane := l } none lc)
  | .standby, .carried t c _ lc => s.putRow k (.carried t c (some { station := x, lane := l }) lc)
  | _, _ => s

/-- A completed BID (R9 to R11, R41, R42). -/
def State.takeBid (s : State) (sender : BitVec 4) (slot role : Byte) (term : Term) (lane : Byte) : State :=
  match s.mayAct sender, carriageRoleOf role, laneOf lane with
  | some x, some ρ, some l =>
    let k := slot.toNat
    if s.mode = .joining ∧ s.table.any (fun e => e.row.isUnknown) = true then s.putRow k .unknown
    else
      let ok := match ρ with
        | .carrier => s.bidAccepted x l k term
        | .standby => s.standbyBidAccepted x l k term
      let s := if ok then s.applyBid x l k ρ term else s
      if x = s.number then (if ok then s.ownBidAccepted l k ρ else s.ownBidIgnored l k ρ term) else s
  | _, _, _ => s

/-! ### CEDE -/

/-- A CEDE is accepted (R12). -/
def State.cedeAccepted (s : State) (x : Station) (l : LaneId) (k : Nat) (role : CarriageRole) (term : Term) : Bool :=
  (s.row k).term == some term && (s.row k).named role == some { station := x, lane := l }

/-- The for-slot row of an accepted CEDE with reason RECLAIMED (R16). -/
def State.countReclaim (s : State) (k : Nat) : State :=
  match s.row k with
  | .opened t lc n =>
    if n < 3 then s.setEntry k { row := .opened t lc (n + 1), loc := { s.loc k with reclaimWait := some 3000 } } else s
  | _ => s

/-- A completed CEDE (R12 to R17, R53). The for-slot row is read after the CEDE's own change, also where the two are one row: the
model's choice (log 37). -/
def State.takeCede (s : State) (sender : BitVec 4) (slot role : Byte) (term : Term) (lane : Byte)
    (reason : CedeReason) : State :=
  match s.mayAct sender, carriageRoleOf role, laneOf lane with
  | some x, some ρ, some l =>
    let k := slot.toNat
    let forSlot := match reason with | .reclaimed fs => some fs.toNat | _ => none
    let known := forSlot.all fun fs => fs < s.slotCount
    let ok := known && s.cedeAccepted x l k ρ term
    let s :=
      if ok then
        match ρ with
        | .carrier => s.carrierLeaves k
        | .standby => s.standbyLeaves k true
      else s
    let s := match forSlot with | some fs => if ok then s.countReclaim fs else s | none => s
    if x = s.number ∧ forSlot.isSome = true then s.reclaimDone l k ρ else s
  | _, _, _ => s

/-! ### Swap frames -/

/-- A completed SWAP-OFFER (R58). -/
def State.takeOffer (s : State) (sender : BitVec 4) (slot : Byte) (term : Term) : State :=
  let k := slot.toNat
  match s.mayAct sender, s.row k with
  | some x, .carried t c (some sb) lc =>
    if c.station = x ∧ t = term then
      let s := s.putRow k (.swapping t c sb lc .offered)
      let y := s.lane sb.lane
      if sb.station = s.number ∧ s.mode.holdsRoles = true ∧ y.role = .standby ∧ y.slot = some k then
        s.modLane sb.lane fun y =>
          { y.setRole .taker with
            traceNo := y.traceNo + 1, taker := some { trace := [], aligned := false, feeding := true },
            ctx := .taker k t .seeking (some 2000) }
      else s
    else s
  | _, _ => s

/-- A completed SWAP-READY (R59, R71). -/
def State.takeReady (s : State) (sender : BitVec 4) (slot : Byte) (term : Term) : State :=
  let k := slot.toNat
  match s.mayAct sender, s.row k with
  | some x, .swapping t c sb lc .offered =>
    if sb.station = x ∧ t = term then
      let s := s.putRow k (.swapping t c sb lc .ready)
      match (s.lane c.lane).ctx with
      | .giver k' t' .offering _ _ =>
        if c.station = s.number ∧ k' = k ∧ t' = t then
          (s.setCtx c.lane (.giver k t .going 0 0)).send (.swapGo slot t (byteOf s.drainCount))
        else s
      | _ => s
    else s
  | _, _ => s

/-- A completed SWAP-GO (R60, R66, R67, R71). -/
def State.takeGo (s : State) (sender : BitVec 4) (slot : Byte) (term : Term) (drainCount : Byte) : State :=
  let k := slot.toNat
  match s.mayAct sender, s.row k with
  | some x, .swapping t c sb lc .ready =>
    if c.station = x ∧ t = term ∧ 16 ≤ drainCount.toNat then
      let s := s.putRow k (.swapping t c sb lc (.draining false drainCount.toNat))
      let y := s.lane c.lane
      let s :=
        if c.station = s.number ∧ y.role = .carrier ∧ y.slot = some k ∧ y.ctx.isGiver k = true then
          s.modLane c.lane fun y => { y.setRole .giver with ctx := .giver k t .draining drainCount.toNat 0 }
        else s
      if sb.station = s.number ∧ (s.lane sb.lane).ctx.isTaker k = true then s.takerGo sb.lane else s
    else s
  | _, _ => s

/-- A completed SWAP-HOLD: the row's hold, then, at its sender, the comparison of R67 (R61). -/
def State.takeHold (s : State) (sender : BitVec 4) (slot : Byte) (term : Term) (hold : Byte) : State :=
  let k := slot.toNat
  let s' :=
    match s.mayAct sender, s.row k, holdOf hold with
    | some x, .swapping t c sb lc (.draining _ dc), some h =>
      if sb.station = x ∧ t = term then s.putRow k (.swapping t c sb lc (.draining h dc)) else s
    | _, _, _ => s
  if s.mayAct sender = some s.number then
    s'.forLanes fun l s => if (s.lane l).ctx.isTaker k then s.holdCheck l else s
  else s'

/-- The new carrier's lane at an accepted SWAP-DONE (R62, R75, R168). -/
def State.doneCarrier (s : State) (k : Nat) (l : LaneId) : State :=
  if s.mode.holdsRoles = false then s
  else if (s.lane l).role = .taker ∧ (s.lane l).slot = some k then
    ((s.withdraw (isTakerFrame k)).modLane l fun x => { x.setRole .carrier with ctx := .none }).drainIfResting k l
  else s.namedInVain k l .carrier s.swapReason false

/-- The new standby's lane at an accepted SWAP-DONE (R62, R75, R81). -/
def State.doneStandby (s : State) (k : Nat) (l : LaneId) : State :=
  if s.mode.holdsRoles = false then s
  else if (s.lane l).role = .giver ∧ (s.lane l).slot = some k then
    if s.mode = .resting then s.giveUp k .standby l .resting
    else (s.withdraw (isGiverFrame k)).modLane l fun x => { x.setRole .standby with ctx := .none }
  else s.namedInVain k l .standby s.swapReason false

/-- A completed SWAP-DONE (R27, R62). -/
def State.takeDone (s : State) (sender : BitVec 4) (slot : Byte) (newTerm : Term) (lane : Byte) : State :=
  let k := slot.toNat
  match s.mayAct sender, s.row k with
  | some x, .swapping t c sb _ (.draining _ _) =>
    if sb.station = x ∧ newTerm.toNat = t.toNat + 1 ∧ laneOf lane = some sb.lane then
      let s := s.putRow k (.carried newTerm sb (some c) (some c.station))
      let s := if sb.station = s.number then s.doneCarrier k sb.lane else s
      if c.station = s.number then s.doneStandby k c.lane else s
    else s
  | _, _ => s

/-- The standby's lane at an accepted SWAP-DROP that keeps it (R63, R75, R168). -/
def State.dropStandby (s : State) (k : Nat) (l : LaneId) : State :=
  if s.mode.holdsRoles = false then s
  else if (s.lane l).role = .taker ∧ (s.lane l).slot = some k then
    ((s.withdraw (isTakerFrame k)).modLane l fun x => { x.setRole .standby with ctx := .none }).drainIfResting k l
  else s.namedInVain k l .standby s.swapReason false

/-- The reason removes the standby (R63). -/
def DropReason.removes : DropReason → Bool
  | .takerLost | .directed => true
  | _ => false

/-- A completed SWAP-DROP (R63). A reason that removes the standby releases a lane of this station that holds TAKER still: the
model's choice (log 58). -/
def State.takeDrop (s : State) (sender : BitVec 4) (slot : Byte) (term : Term) (reason : Byte) : State :=
  let k := slot.toNat
  match s.mayAct sender, s.row k, dropReasonOf reason with
  | some x, .swapping t c sb lc _, some r =>
    if (c.station = x ∨ sb.station = x) ∧ t = term then
      let s := s.putRow k (.carried t c (if r.removes then none else some sb) lc)
      let s := s.giverKept k c true true
      if sb.station = s.number then
        if r.removes then ((s.unnamed k sb.lane .standby).withdraw (isTakerFrame k)) else s.dropStandby k sb.lane
      else s
    else s
  | _, _, _ => s

end Sys2Proof.Machine
end

