-- ==== Sys2Proof/Machine/Flags.lean ====
section
/-! DEFINITION. Flags.lean: the ALERT causes and the ALERT pin, which follow the state (R202). -/

namespace Sys2Proof.Machine

/-- ALERT cause MODE (R202). -/
def State.alertMode (s : State) : Bool := s.mode == .barred || s.mode == .isolated || s.mode == .mute

/-- ALERT cause LANE-SPENT (R202). -/
def State.alertSpent (s : State) : Bool := allLanes.any fun l => (s.lane l).state == .spent

/-- ALERT cause TERM-EXHAUSTED (R27, R202). -/
def State.alertTerm (s : State) : Bool := s.table.any fun e => e.row.term == some 0xFFFF#16

/-- The ALERT pin is pulled low: outside a reset, while some cause holds (R202). -/
def State.alert (s : State) : Bool := !s.inReset && (s.alertMode || s.alertSpent || s.alertTerm)

/-- The ALERT causes of a STATION report (R206). -/
def State.alertByte (s : State) : Byte :=
  BitVec.ofNat 8 (s.alertMode.toNat + 2 * s.alertSpent.toNat + 4 * s.alertTerm.toNat)

end Sys2Proof.Machine
end

