-- ==== Sys2Proof/Machine/Line.lean ====
section
/-! DEFINITION. Line.lean: the bits of a frame on the station link, arbitration over them, and how a link controller reads
frames out of the levels of the line (R137, R138, R142, R144). A set bit is a 1 bit, the recessive level. -/

namespace Sys2Proof.Machine

/-- The eight bits of a byte, least significant first: every byte of a frame but the header (R138). -/
def bitsLsbFirst (b : Byte) : List Bool := [0, 1, 2, 3, 4, 5, 6, 7].map b.getLsbD

/-- The eight bits of a byte, most significant first: the header byte (R138). -/
def bitsMsbFirst (b : Byte) : List Bool := [7, 6, 5, 4, 3, 2, 1, 0].map b.getLsbD

/-- A byte slot: a dominant start bit, eight data bits, a recessive stop bit (R138). -/
def byteSlot (bits : List Bool) : List Bool := false :: bits ++ [true]

/-- The bit times of a frame as its sender drives them: its byte slots and, recessive, its acknowledgement window (R138,
R146). -/
def frameBits : List Byte → List Bool
  | [] => []
  | header :: rest =>
    byteSlot (bitsMsbFirst header) ++ (rest.map fun b => byteSlot (bitsLsbFirst b)).flatten ++ [true, true, true]

/-- The first bit in which two headers differ is dominant in `a` (R142). -/
def winsOver : List Bool → List Bool → Bool
  | a :: as, b :: bs => if a == b then winsOver as bs else !a
  | _, _ => false

/-- A sender loses arbitration when some node that started with it wins over it in the header (R142). -/
def arbitrationLost (own : Byte) (rivals : List Byte) : Bool :=
  rivals.any fun r => winsOver (bitsMsbFirst r) (bitsMsbFirst own)

/-! ### Reading the line -/

/-- The level of the line in one bit time: dominant where any node drives it (R137). -/
def lineLevel (driven : List Bool) : Bool := driven.all id

/-- A byte from its eight bits, the most significant first. -/
def byteOfMsbFirst (bits : List Bool) : Byte := BitVec.ofNat 8 (bits.foldl (fun n b => 2 * n + b.toNat) 0)

/-- The byte of a frame's slot: the header's bits come most significant first, every other byte's least (R138). -/
def slotByteOf (isHeader : Bool) (data : List Bool) : Byte := byteOfMsbFirst (if isHeader then data else data.reverse)

/-- Where a link controller stands on the line. `waiting` counts recessive bit times towards an idle line; `slot` holds the bytes
of the frame so far, whether a stop bit read dominant, and the bits of the present byte slot; the last two are the bits of the
acknowledgement window after the gap bit. -/
inductive LinePos where
  | waiting (recessive : Nat)
  | idle
  | slot (bytes : List Byte) (badStop : Bool) (bits : List Bool)
  | spoilBit
  | seenBit (spoiled : Bool)
deriving DecidableEq, Repr

/-- What a link controller tells of the line: a frame has ended, its bytes as received; its acknowledgement window has. -/
inductive LineEvent where
  | frameEnd (bytes : List Byte) (badStop endless : Bool)
  | windowEnd (spoiled seen : Bool)
deriving DecidableEq, Repr

/-- At the start or the end of a reset the line is not idle and no bit time has been counted (R137). -/
def LinePos.reset : LinePos := .waiting 0

/-- One bit time of a byte slot. A dominant first bit starts the slot and a recessive one is the gap bit that ends the frame; at
the position after the 259th slot a start bit is taken for the end (R138, R144; log 47). -/
def readSlotBit (bytes : List Byte) (badStop : Bool) (bits : List Bool) (level : Bool) : LinePos × Option LineEvent :=
  match bits with
  | [] =>
    if level then (.spoilBit, some (.frameEnd bytes badStop false))
    else if 259 ≤ bytes.length then (.waiting 0, some (.frameEnd bytes badStop true))
    else (.slot bytes badStop [level], none)
  | _ :: data =>
    if data.length < 8 then (.slot bytes badStop (bits ++ [level]), none)
    else (.slot (bytes ++ [slotByteOf bytes.isEmpty data]) (badStop || !level) [], none)

/-- One bit time of the line (R137, R138, R145). -/
def readLineBit (pos : LinePos) (level : Bool) : LinePos × Option LineEvent :=
  match pos with
  | .waiting n => if !level then (.waiting 0, none) else if n < 10 then (.waiting (n + 1), none) else (.idle, none)
  | .idle => if level then (.idle, none) else (.slot [] false [level], none)
  | .slot bytes badStop bits => readSlotBit bytes badStop bits level
  | .spoilBit => (.seenBit (!level), none)
  | .seenBit spoiled => (.waiting 0, some (.windowEnd spoiled (!level)))

/-- The bit times of a stretch of the line: where the link controller stands after it, and what it has told. -/
def readLine (pos : LinePos) : List Bool → LinePos × List LineEvent
  | [] => (pos, [])
  | level :: levels =>
    let r := readLineBit pos level
    let q := readLine r.1 levels
    (q.1, r.2.toList ++ q.2)

/-- What a receiver has of a frame that ended (R144); `fresh` as for every received frame (R140, log 7). -/
def LineEvent.raw (fresh : Bool) : LineEvent → Option RawFrame
  | .frameEnd bytes badStop endless => some { bytes := bytes, badStop := badStop, endless := endless, fresh := fresh }
  | .windowEnd .. => none

end Sys2Proof.Machine
end

