-- ==== Sys2Proof/Machine/Report.lean ====
section
/-! DEFINITION. Report.lean: the contents of a ROLL and of a REPORT as they go onto the line (R108, R161, R195, R196, R205,
R206), and what the station drives on its pins. -/

namespace Sys2Proof.Machine

/-- A lane's summary (R108, R205). -/
def Lane.summary (x : Lane) : LaneSummary :=
  { state := LaneState.byte x.state, role := LaneRole.byte x.role, slot := slotByte x.slot, margin := byteOf x.margin }

def State.summaries (s : State) : Vector LaneSummary 4 := s.lanes.map Lane.summary

/-- The mode a ROLL carries; a station sends in four modes only (R140). -/
def Mode.rollMode : Mode → RollMode
  | .joined => .joined
  | .resting => .resting
  | .isolated => .isolated
  | _ => .joining

/-- The echoes: two rows from the echo pointer on, one where N is 1 (R161, R162). -/
def State.echoes (s : State) : List RowRecord :=
  if !s.mode.holdsRoles then []
  else
    (List.range (min 2 s.slotCount)).map fun i =>
      let k := (s.echoPointer + i) % s.slotCount
      (s.row k).record k false

/-- The ROLL's contents (R158, R161). -/
def State.rollBody (s : State) : RollBody :=
  { number := s.link.lastRoll + 1#8, mode := s.mode.rollMode, digest := s.digest, lanes := s.summaries,
    echoes := s.echoes }

/-- The STATION record (R196, R206). -/
def State.stationRecord (s : State) : RecordBody :=
  .station (Mode.byte s.mode) (BarredCause.byte s.barredCause) (ResetCause.byte s.resetCause) s.link.lastRoll
    (byteOf s.link.spoil) (byteOf s.link.unseen) (byteOf s.link.badRx) s.alertByte
    (match s.plan with | none => 0#16 | some p => p.number) s.digest

/-- The LANE record (R108, R206). -/
def Lane.record (x : Lane) : RecordBody :=
  .lane (LaneState.byte x.state) (LaneRole.byte x.role) (slotByte x.slot)
    (match x.input with | .a => 0#8 | .b => 1#8) (match x.settings with | .steady => 0#8 | .recovery => 1#8)
    (byteOf x.margin) (BitVec.ofNat 16 x.residual) (byteOf x.retryCount) (boolByte x.sync.synced) (boolByte x.gate)
    (byteOf x.buffer.length) (match x.taker with | none => 0xFF#8 | some t => boolByte t.aligned)

/-- The PEER record (R179, R206). -/
def PeerRec.record (r : PeerRec) : RecordBody :=
  .peer (DirState.byte r.state) (boolByte r.staleMark) (r.mode.map RollMode.byte) r.lastRoll r.digest r.lanes

def SlotRec.flags (r : SlotRec) : Byte :=
  BitVec.ofNat 8
    ((match r.bandwidth with | .mhz6 => 0 | .mhz7 => 1 | .mhz8 => 2) + 4 * (match r.input with | .a => 0 | .b => 1 | .either => 2)
      + 16 * (match r.profile with | .fixed => 0 | .sfn => 1) + 32 * r.rotate.toNat + 64 * r.standbyWanted.toNat)

/-- The PLAN record (R192, R206, R207). -/
def SlotRec.record (r : SlotRec) : RecordBody :=
  .plan (byteOf (r.freq / 65536)) (byteOf (r.freq / 256)) (byteOf r.freq) r.flags (byteOf r.rank) (byteOf r.outlet)
    (byteOf r.home.val) r.mask

/-- The record body of the selection (R196). -/
def State.selectedRecord (s : State) : RecordBody :=
  match s.sel.kind with
  | .station => s.stationRecord
  | .lane => (s.lane (Fin.ofNat 4 s.sel.index)).record
  | .row => .row ((s.row s.sel.index).record s.sel.index true)
  | .peer => (s.peer (Fin.ofNat 8 s.sel.index)).record
  | .plan => match s.slotRec s.sel.index with | some r => r.record | none => s.stationRecord

/-- The REPORT's contents (R195, R206). -/
def State.reportBody (s : State) : ReportBody :=
  { index := byteOf s.sel.index, refused := s.sel.refused, outcome := DirOutcome.byte s.sel.outcome,
    record := s.selectedRecord }

/-- A queued frame's contents as it goes onto the line (R152). -/
def State.contents (s : State) : QFrame → Frame
  | .fixed f => f
  | .report => .report s.reportBody
  | .roll => .roll s.rollBody

/-- The station's sender number (R180). -/
def State.sender (s : State) : BitVec 4 := BitVec.ofNat 4 s.number.val

/-- What the station drives on the link while a frame of it is on the line, bit time by bit time (R137, R138). -/
def State.lineBits (s : State) : List Bool :=
  match s.link.onAir with
  | none => []
  | some f => frameBits (encodeFrame s.sender f)

/-- What the station drives on the backplane in the window in progress: the bytes, VALID and LAST (R126, R208). -/
def State.windowDriven (s : State) : Option (List Byte × Bool × Bool) :=
  s.bp.driven.map fun d => (d.packet.bytes, true, d.last)

end Sys2Proof.Machine
end

