-- ==== Sys2Proof/Machine/FrameEvents.lean ====
section
/-! DEFINITION. FrameEvents.lean: the link controller's events: a frame that completes, foreign or own, a frame that fails the
check or is spoiled, the outcomes of an own frame, the start of sending (R140 to R158). -/

namespace Sys2Proof.Machine

/-! ### Completed frames -/

/-- What a completed foreign frame does before the directory takes it (R7, R145). -/
def State.actOn (s : State) (sender : BitVec 4) (f : Frame) : State :=
  match f with
  | .quiet subject roll => s.takeQuiet sender subject roll
  | .cede slot role term lane reason => s.takeCede sender slot role term lane reason
  | .swapDrop slot term reason => s.takeDrop sender slot term reason
  | .swapDone slot newTerm lane => s.takeDone sender slot newTerm lane
  | .swapGo slot term dc => s.takeGo sender slot term dc
  | .swapHold slot term hold => s.takeHold sender slot term hold
  | .swapReady slot term => s.takeReady sender slot term
  | .swapOffer slot term => s.takeOffer sender slot term
  | .bid slot role term lane _ => s.takeBid sender slot role term lane
  | .directive target action argument => s.takeDirective target action argument
  | .query target kind index => s.takeQuery target kind index
  | .report _ => s
  | .roll b => s.takeRoll sender b

/-- A foreign frame passed this station's check: seen is driven, the bad-receive streak returns to 0 (R145, R150). -/
def State.markSeen (s : State) : State := { s with link := { s.link with ack := .seen, badRx := 0 } }

/-- A completed foreign frame from another node's number (R145, R150, R170, R173). A QUIET about its own sender silences and removes
the sender first, and the directory then makes its record PRESENT: the model's choice (R173, R176; log 51). -/
def State.foreignCompleted (s : State) (sender : BitVec 4) (f : Frame) : State :=
  let s := s.markSeen
  if s.mode = .isolated then (s.directoryTake sender f).enterJoining (some .isolationEnd)
  else ((s.framesFallDue.actOn sender f).directoryTake sender f).settle true

/-- An own frame is applied (R8, R146). -/
def State.ownApplied (s : State) (seen : Bool) (f : Frame) : State :=
  let s : State := { s with link := { s.link.leaveLine with spoil := 0, unseen := if seen then 0 else s.link.unseen } }
  let s := s.framesFallDue
  let s :=
    match f with
    | .roll b => s.applyOwnRoll b
    | _ => if s.mode.appliesFrames then s.actOn s.sender f else s
  s.settle true

/-- The owner of a void frame queues it again, unless it is moot; a void ROLL is not made again (R8, R147, R195). -/
def State.resendVoid (s : State) (f : Frame) : State :=
  match f with
  | .roll _ => s
  | .report _ => s.requestReport
  | _ => s.sendAgain (.fixed f)

/-- An own frame completed unseen with a PRESENT peer (R146, R149). -/
def State.ownVoid (s : State) : State :=
  match s.link.onAir with
  | none => s
  | some f =>
    if !s.presentPeer then s
    else
      let n := satInc 8 s.link.unseen
      let s : State := { s with link := { s.link.leaveLine with spoil := 0, unseen := n } }
      if n = 8 ∧ s.mode.appliesFrames = true then s.enterIsolated else (s.framesFallDue.resendVoid f).settle true

/-- A completed own frame (R146). -/
def State.ownCompleted (s : State) (seen : Bool) (f : Frame) : State :=
  if seen || !s.presentPeer then s.ownApplied seen f else s.ownVoid

/-- A frame carries this station's own number and passes the check while the station is not sending it (R143). -/
def State.ownNumberHeard (s : State) (fresh : Bool) : State :=
  if s.mode.onLink && fresh && s.link.onAir.isNone then s.markSeen.enterBarred .duplicate else s

/-- A frame completes on the link (R145, R146). An own frame that was on the line at the entry into a mode is applied and counted,
unless that entry emptied the queue: the model's choice (R140; log 42). -/
def State.completeFrame (s : State) (rx : Rx) (f : Frame) : State :=
  if rx.sender = s.sender then
    if s.link.onAir = some f then s.ownCompleted rx.seen f else s.ownNumberHeard rx.fresh
  else if s.mode.onLink && rx.fresh then s.foreignCompleted rx.sender f
  else s

/-! ### Frames that do not complete -/

/-- A foreign frame failed the check (R144, R145, R150). -/
def State.checkFailed (s : State) (raw : RawFrame) : State :=
  let n := satInc 8 s.link.badRx
  let mark := if raw.endless || s.mode == .isolated then AckMark.none else AckMark.spoil
  let s : State := { s with link := { s.link with ack := mark, badRx := n } }
  if n = 8 ∧ s.mode.appliesFrames = true then s.enterIsolated else s

/-- A frame ends, its bytes as received: checked, and failed or handed on (R144, R145). -/
def State.rawFrame (s : State) (raw : RawFrame) : State :=
  if s.mode.onLink && raw.fresh then
    match receiveCheck raw with
    | none => s.checkFailed raw
    | some (sender, f) => s.completeFrame { sender := sender, seen := true, fresh := true } f
  else s

/-- A frame passed this station's check and another node spoiled it (R145, R150). -/
def State.spoiledFrame (s : State) (sender : BitVec 4) (fresh : Bool) : State :=
  if sender = s.sender then s.ownNumberHeard fresh
  else if s.mode.onLink && fresh then
    let s := s.markSeen
    if s.mode = .isolated then s.enterJoining (some .isolationEnd) else s
  else s

/-! ### Own frames -/

/-- An own frame is spoiled (R146, R148). One that has become moot on the line is withdrawn at the next settling event, not here:
the model's choice (R64, R156; log 35). -/
def State.ownSpoiled (s : State) : State :=
  match s.link.onAir with
  | none => s
  | some _ =>
    let n := satInc 8 s.link.spoil
    let s : State := { s with link := { s.link.stayQueued with spoil := n } }
    if n = 8 then s.enterMute else s

/-- The head of the queue goes onto the line. -/
def Link.start (l : Link) (contents : QFrame → Frame) : Link :=
  match l.queue with
  | [] => l
  | e :: rest => { l with queue := { e with onLine := true } :: rest, onAir := some (contents e.frame) }

/-- The line is idle for the link controller: it has found it idle since the reset, and no frame of its own is on it (R137;
log 9). -/
def State.lineIdle (s : State) : Bool := s.lineFound && s.link.onAir.isNone

/-- On an idle line the link controller starts sending the first frame in its queue, and goes on unless a rival wins in the
header (R142, R152, R153). -/
def State.startSending (s : State) (rivals : List Byte) : State :=
  match s.link.queue with
  | [] => s
  | e :: _ =>
    if s.mode.onLink && s.lineIdle
        && !arbitrationLost (headerByte s.sender (QFrame.code e.frame)) rivals then
      { s with link := s.link.start s.contents }
    else s

/-- A sender finds another node sending under its own number (R143). -/
def State.sendMismatch (s : State) : State :=
  if s.link.onAir.isSome then s.enterBarred .duplicate else s

end Sys2Proof.Machine
end

