-- ==== Sys2Proof/Machine/FrameCommands.lean ====
section
/-! DEFINITION. FrameCommands.lean: the meanings of the frames that complete on the link, one definition for each row (R9 to R82, R173 to R201). The frame is applied as a foreign frame, or as the station's own when it is the one on the line. -/

namespace Sys2Proof.Machine

/-- QUIET (R19, R176). -/
def execQuiet (rx : Rx) (subject roll : Byte) (s : State) : Host.Outcome State Fault Refusal :=
  .next (s.completeFrame rx (.quiet subject roll))

/-- QUIET_ABOUT_SELF: its subject is this station (R177). -/
def execQuietAboutSelf (rx : Rx) (roll : Byte) (s : State) : Host.Outcome State Fault Refusal :=
  .next (s.completeFrame rx (.quiet (byteOf s.number.val) roll))

/-- CEDE_CARRIER (R12 to R14, R16, R17). -/
def execCedeCarrier (rx : Rx) (slot : Byte) (term : Term) (lane : Byte) (reason : CedeReason)
    (s : State) : Host.Outcome State Fault Refusal :=
  .next (s.completeFrame rx (.cede slot 0#8 term lane reason))

/-- CEDE_STANDBY (R12, R15 to R17). -/
def execCedeStandby (rx : Rx) (slot : Byte) (term : Term) (lane : Byte) (reason : CedeReason)
    (s : State) : Host.Outcome State Fault Refusal :=
  .next (s.completeFrame rx (.cede slot 1#8 term lane reason))

/-- BID_CARRIER (R9, R11, R41, R42). -/
def execBidCarrier (rx : Rx) (slot : Byte) (term : Term) (lane margin : Byte)
    (s : State) : Host.Outcome State Fault Refusal :=
  .next (s.completeFrame rx (.bid slot 0#8 term lane margin))

/-- BID_STANDBY (R10, R11, R42, R47). -/
def execBidStandby (rx : Rx) (slot : Byte) (term : Term) (lane margin : Byte)
    (s : State) : Host.Outcome State Fault Refusal :=
  .next (s.completeFrame rx (.bid slot 1#8 term lane margin))

/-- SWAP_OFFER (R58). -/
def execSwapOffer (rx : Rx) (slot : Byte) (term : Term) (s : State) : Host.Outcome State Fault Refusal :=
  .next (s.completeFrame rx (.swapOffer slot term))

/-- SWAP_READY (R59, R71). -/
def execSwapReady (rx : Rx) (slot : Byte) (term : Term) (s : State) : Host.Outcome State Fault Refusal :=
  .next (s.completeFrame rx (.swapReady slot term))

/-- SWAP_GO (R60, R66, R67, R71). -/
def execSwapGo (rx : Rx) (slot : Byte) (term : Term) (drainCount : Byte)
    (s : State) : Host.Outcome State Fault Refusal :=
  .next (s.completeFrame rx (.swapGo slot term drainCount))

/-- SWAP_HOLD (R61, R67). -/
def execSwapHold (rx : Rx) (slot : Byte) (term : Term) (hold : Byte) (s : State) : Host.Outcome State Fault Refusal :=
  .next (s.completeFrame rx (.swapHold slot term hold))

/-- SWAP_DONE (R62, R75, R81). -/
def execSwapDone (rx : Rx) (slot : Byte) (newTerm : Term) (lane : Byte)
    (s : State) : Host.Outcome State Fault Refusal :=
  .next (s.completeFrame rx (.swapDone slot newTerm lane))

/-- SWAP_DROP (R63, R75, R81). -/
def execSwapDrop (rx : Rx) (slot : Byte) (term : Term) (reason : Byte)
    (s : State) : Host.Outcome State Fault Refusal :=
  .next (s.completeFrame rx (.swapDrop slot term reason))

/-- ROLL (R20 to R24, R173). -/
def execRoll (rx : Rx) (body : RollBody) (s : State) : Host.Outcome State Fault Refusal :=
  .next (s.completeFrame rx (.roll body))

/-- QUERY (R194, R195). -/
def execQuery (rx : Rx) (target kind index : Byte) (s : State) : Host.Outcome State Fault Refusal :=
  .next (s.completeFrame rx (.query target kind index))

/-- REPORT (R141, R195). -/
def execReport (rx : Rx) (body : ReportBody) (s : State) : Host.Outcome State Fault Refusal :=
  .next (s.completeFrame rx (.report body))

/-- DIRECTIVE_CLEAR (R197, R198). -/
def execDirectiveClear (rx : Rx) (target argument : Byte) (s : State) : Host.Outcome State Fault Refusal :=
  .next (s.completeFrame rx (.directive target 0#8 argument))

/-- DIRECTIVE_YIELD (R197, R199). -/
def execDirectiveYield (rx : Rx) (target argument : Byte) (s : State) : Host.Outcome State Fault Refusal :=
  .next (s.completeFrame rx (.directive target 1#8 argument))

/-- DIRECTIVE_SWAP (R197, R200). -/
def execDirectiveSwap (rx : Rx) (target argument : Byte) (s : State) : Host.Outcome State Fault Refusal :=
  .next (s.completeFrame rx (.directive target 2#8 argument))

/-- DIRECTIVE_REST (R167, R197, R201). -/
def execDirectiveRest (rx : Rx) (target argument : Byte) (s : State) : Host.Outcome State Fault Refusal :=
  .next (s.completeFrame rx (.directive target 3#8 argument))

/-- DIRECTIVE_RESUME (R169, R197, R201). -/
def execDirectiveResume (rx : Rx) (target argument : Byte) (s : State) : Host.Outcome State Fault Refusal :=
  .next (s.completeFrame rx (.directive target 4#8 argument))

/-- DIRECTIVE_UNKNOWN_ACTION (R197, R203). -/
def execDirectiveUnknownAction (rx : Rx) (target action argument : Byte)
    (s : State) : Host.Outcome State Fault Refusal :=
  .next (s.completeFrame rx (.directive target action argument))

end Sys2Proof.Machine
end

