-- ==== Sys2Proof/Machine/LaneCommands.lean ====
section
/-! DEFINITION. LaneCommands.lean: the meanings of the lane events (R87 to R101, R109 to R111, R129). A row that names a limit is the whole event that reaches the limit (log 5). -/

namespace Sys2Proof.Machine

/-- TUNE_TIME_END (R87, R89). -/
def execTuneTimeEnd (lane : LaneId) (s : State) : Host.Outcome State Fault Refusal :=
  .next (s.tuneEnd lane)

/-- GUARD_DETECTED (R89). -/
def execGuardDetected (lane : LaneId) (s : State) : Host.Outcome State Fault Refusal :=
  .next (s.guard lane)

/-- STAGE_WINDOW_EXPIRY (R91, R97). -/
def execStageWindowExpiry (lane : LaneId) (stage : AcqStage) (s : State) : Host.Outcome State Fault Refusal :=
  .next (s.stageExpired lane stage)

/-- QUALITY_PERIOD_CLOSE (R92). -/
def execQualityPeriodClose (lane : LaneId) (margin : Nat) (s : State) : Host.Outcome State Fault Refusal :=
  .next (s.periodClose lane margin)

/-- ACQ3_SYNC_LOCK (R90). -/
def execAcq3SyncLock (lane : LaneId) (pos : Nat) (s : State) : Host.Outcome State Fault Refusal :=
  .next (if s.locksAt lane pos then s.acq3Lock lane pos else s)

/-- HOLDOVER_RETURN (R94). -/
def execHoldoverReturn (lane : LaneId) (pos : Nat) (s : State) : Host.Outcome State Fault Refusal :=
  .next (if s.returnsAt lane pos then s.holdoverBack lane pos else s)

/-- SYNC_MISS_LIMIT (R93, R111). -/
def execSyncMissLimit (lane : LaneId) (pos : Nat) (s : State) : Host.Outcome State Fault Refusal :=
  .next (if s.missEnds lane pos then s.miss lane pos else s)

/-- HOLDOVER_WINDOW_EXPIRY (R95, R97). -/
def execHoldoverWindowExpiry (lane : LaneId) (s : State) : Host.Outcome State Fault Refusal :=
  .next (s.holdoverExpired lane)

/-- RETRY_LIMIT_SPENT (R99). -/
def execRetryLimitSpent (lane : LaneId) (s : State) : Host.Outcome State Fault Refusal :=
  .next (s.spendLoss lane)

/-- RETRY_PERIOD_END (R43, R99). -/
def execRetryPeriodEnd (lane : LaneId) (s : State) : Host.Outcome State Fault Refusal :=
  .next (s.retryEnd lane)

/-- LOCK_CLOCK_60S (R101). -/
def execLockClock60s (lane : LaneId) (s : State) : Host.Outcome State Fault Refusal :=
  .next (s.lockMinute lane)

/-- STEADY_RUN_COMPLETE (R96). -/
def execSteadyRunComplete (lane : LaneId) (margin : Nat) (s : State) : Host.Outcome State Fault Refusal :=
  .next (if s.steadyCompletes lane margin then s.periodClose lane margin else s)

/-- QUALITY_TRIGGER (R56, R57). -/
def execQualityTrigger (lane : LaneId) (margin : Nat) (s : State) : Host.Outcome State Fault Refusal :=
  .next (if s.triggersAt lane margin then s.periodClose lane margin else s)

/-- CLASH_STREAK_LIMIT (R129). -/
def execClashStreakLimit (lane : LaneId) (margin : Nat) (s : State) : Host.Outcome State Fault Refusal :=
  .next (if s.clashLimitAt lane then s.periodClose lane margin else s)

/-- SYNC_HIT (R110). -/
def execSyncHit (lane : LaneId) (pos : Nat) (s : State) : Host.Outcome State Fault Refusal :=
  .next (s.hit lane pos)

/-- SYNC_MISS (R110, R111). -/
def execSyncMiss (lane : LaneId) (pos : Nat) (s : State) : Host.Outcome State Fault Refusal :=
  .next (s.miss lane pos)

end Sys2Proof.Machine
end

