-- ==== Sys2Proof/Machine/LinkCommands.lean ====
section
/-! DEFINITION. LinkCommands.lean: the meanings of the link controller's events (R142 to R150). -/

namespace Sys2Proof.Machine

/-- FRAME_SEND_START (R142, R152, R153). -/
def execFrameSendStart (rivals : List Byte) (s : State) : Host.Outcome State Fault Refusal :=
  .next (s.startSending rivals)

/-- DUPLICATE_SEND_MISMATCH (R143). -/
def execDuplicateSendMismatch (s : State) : Host.Outcome State Fault Refusal :=
  .next s.sendMismatch

/-- FRAME_OWN_NUMBER_RECEIVED (R143). -/
def execFrameOwnNumberReceived (fresh : Bool) (s : State) : Host.Outcome State Fault Refusal :=
  .next (s.ownNumberHeard fresh)

/-- FRAME_CHECK_FAILED: the bytes are checked, and what fails is spoiled and counted (R144, R145, R150; log 8). -/
def execFrameCheckFailed (raw : RawFrame) (s : State) : Host.Outcome State Fault Refusal :=
  .next (s.rawFrame raw)

/-- FRAME_SPOILED (R145, R150). -/
def execFrameSpoiled (sender : BitVec 4) (fresh : Bool) (s : State) : Host.Outcome State Fault Refusal :=
  .next (s.spoiledFrame sender fresh)

/-- OWN_FRAME_SPOILED (R146, R148). -/
def execOwnFrameSpoiled (s : State) : Host.Outcome State Fault Refusal :=
  .next s.ownSpoiled

/-- OWN_FRAME_VOID (R146, R149). -/
def execOwnFrameVoid (s : State) : Host.Outcome State Fault Refusal :=
  .next s.ownVoid

/-- SPOIL_STREAK_LIMIT: the spoiled outcome that brings the streak to 8 (R148; log 5). -/
def execSpoilStreakLimit (s : State) : Host.Outcome State Fault Refusal :=
  .next (if 7 ≤ s.link.spoil then s.ownSpoiled else s)

/-- UNSEEN_STREAK_LIMIT: the void outcome that brings the streak to 8 (R149; log 5). -/
def execUnseenStreakLimit (s : State) : Host.Outcome State Fault Refusal :=
  .next (if 7 ≤ s.link.unseen ∧ s.mode.appliesFrames = true then s.ownVoid else s)

/-- BAD_RECEIVE_STREAK_LIMIT: the failed frame that brings the streak to 8 (R150; log 5). -/
def execBadReceiveStreakLimit (raw : RawFrame) (s : State) : Host.Outcome State Fault Refusal :=
  .next (if 7 ≤ s.link.badRx ∧ s.mode.appliesFrames = true ∧ receiveCheck raw = none then s.rawFrame raw else s)

end Sys2Proof.Machine
end

