-- ==== Sys2Proof/Machine/PlanImage.lean ====
section
/-! DEFINITION. PlanImage.lean: reading the plan image and the load checks (R183, R186 to R189, R207). -/

namespace Sys2Proof.Machine

/-- The byte the configuration memory gives at a location; where it gives none, CFGD rests high (log 10). -/
def memByte (memory : List Byte) (i : Nat) : Byte := memory.getD i Config.undrivenByte

/-- The bytes from one location on, in order. -/
def readBytes (memory : List Byte) : Nat → Nat → List Byte
  | _, 0 => []
  | i, n + 1 => memByte memory i :: readBytes memory (i + 1) n

/-- The image length in the header (R207). -/
def imageLength (memory : List Byte) : Nat := (wordOf (memByte memory 0) (memByte memory 1)).toNat

/-- The range tested at step 4 of R183 (R207). -/
def lengthPossible (n : Nat) : Bool := 49 ≤ n && n ≤ 201

/-- What the loader reads: the whole image, or the header alone where its length is impossible (R183). -/
def readImage (memory : List Byte) : List Byte :=
  let n := imageLength memory
  readBytes memory 0 (if lengthPossible n then n else 39)

def bandwidthOf : Nat → Option Bandwidth
  | 0 => some .mhz6
  | 1 => some .mhz7
  | 2 => some .mhz8
  | _ => none

def slotInputOf : Nat → Option SlotInput
  | 0 => some .a
  | 1 => some .b
  | 2 => some .either
  | _ => none

/-- A slot record, where every field is in its range and its home station is in its candidate mask (R187, R189, R207). -/
def slotRecOf : List Byte → Option SlotRec
  | [f2, f1, f0, fl, rank, outlet, home, mask] =>
    let freq := 65536 * f2.toNat + 256 * f1.toNat + f0.toNat
    match bandwidthOf (fl.toNat % 4), slotInputOf (fl.toNat / 4 % 4) with
    | some bw, some inp =>
      if h : home.toNat < 8 then
        if 47000 ≤ freq ∧ freq ≤ 862000 ∧ fl.getLsbD 7 = false ∧ 1 ≤ rank.toNat ∧ rank.toNat ≤ 4 ∧ outlet.toNat ≤ 19
            ∧ mask ≠ 0#8 ∧ mask.getLsbD home.toNat = true then
          some { freq := freq, bandwidth := bw, input := inp, profile := if fl.getLsbD 4 then .sfn else .fixed,
                 rank := rank.toNat, outlet := outlet.toNat, home := ⟨home.toNat, h⟩, mask := mask,
                 rotate := fl.getLsbD 5, standbyWanted := fl.getLsbD 6 }
        else none
      else none
    | _, _ => none
  | _ => none

/-- A pin window of two bytes (R207). -/
def pinWindowOf (v m : Byte) : Option PinWindow :=
  if v.toNat / 32 % 4 = 0 ∧ m.toNat / 32 = 0 then
    some { valid := v.getLsbD 7, value := v.extractLsb' 0 5, mask := m.extractLsb' 0 5 }
  else none

/-- A list of options, all present. -/
def allSome {α : Type} : List (Option α) → Option (List α)
  | [] => some []
  | none :: _ => none
  | some a :: rest => (allSome rest).map (a :: ·)

/-- The two windows of one station. -/
def stationWindowsOf (image : List Byte) (s : Nat) : Option (PinWindow × PinWindow) :=
  let at_ := fun k => memByte image (7 + 4 * s + k)
  match pinWindowOf (at_ 0) (at_ 1), pinWindowOf (at_ 2) (at_ 3) with
  | some a, some b => some (a, b)
  | _, _ => none

/-- All sixteen windows. -/
def windowsOf (image : List Byte) : Option (Vector (PinWindow × PinWindow) 8) :=
  match allSome ((List.range 8).map (stationWindowsOf image)) with
  | some [a, b, c, d, e, f, g, h] => some #v[a, b, c, d, e, f, g, h]
  | _ => none

/-- No two slot records name one outlet (R189). -/
def outletsUnique : List SlotRec → Bool
  | [] => true
  | r :: rest => rest.all (fun q => q.outlet != r.outlet) && outletsUnique rest

def retryModeOf : Nat → Option RetryMode
  | 0 => some .limited
  | 1 => some .unlimited
  | _ => none

/-- The plan of an image that passes every load check (R189). -/
def judgeImage (image : List Byte) : Option Plan :=
  let n := (memByte image 4).toNat
  let stored := wordOf (memByte image (39 + 8 * n)) (memByte image (40 + 8 * n))
  if 1 ≤ n ∧ n ≤ 20 ∧ image.length = 41 + 8 * n ∧ imageLength image = 41 + 8 * n
      ∧ checkSequence (image.take (39 + 8 * n)) = stored ∧ 16 ≤ (memByte image 5).toNat then
    match retryModeOf (memByte image 6).toNat, windowsOf image,
        allSome ((List.range n).map fun k => slotRecOf (readBytes image (39 + 8 * k) 8)) with
    | some rm, some ws, some slots =>
      if outletsUnique slots then
        some { number := wordOf (memByte image 2) (memByte image 3), drainCount := (memByte image 5).toNat, retry := rm,
               windows := ws, slots := slots, digest := stored }
      else none
    | _, _, _ => none
  else none

end Sys2Proof.Machine
end

