-- ==== Sys2Proof/Machine/Port.lean ====
section
/-! DEFINITION. Port.lean: what the station places on the configuration port, CFGC and CFGD, in a load attempt: conditions, bits,
bytes, the bus clear, the sequential read, and what an abandoned attempt leaves (R182 to R184; log 10). -/

namespace Sys2Proof.Machine

/-- Both lines undriven (R182). -/
def PortLines.undriven : PortLines := { clockLow := false, dataLow := false }

/-- What the loader does on the port, one condition, clock pulse or byte at a time. A byte sent ends with the target's acknowledge
bit, a byte read with the loader's: held low where `ack` is set. -/
inductive PortOp where
  | start
  | restart
  | stop
  | pulse
  | send (b : Byte)
  | read (ack : Bool)
deriving DecidableEq, Repr

/-- One bit: CFGD is set while CFGC is low and stays while CFGC is high, where it is read (R182). -/
def portBit (dataLow : Bool) : List PortLines :=
  [⟨true, dataLow⟩, ⟨false, dataLow⟩, ⟨true, dataLow⟩]

/-- A stop condition, with CFGD low or not before it: CFGC falls, CFGD is set low while CFGC is low, CFGC rises, and CFGD rises
while CFGC is high (R182). -/
def stopLines (dataLow : Bool) : List PortLines := [⟨true, dataLow⟩, ⟨true, true⟩, ⟨false, true⟩, PortLines.undriven]

/-- The lines through one operation. A start is CFGD falling while CFGC is high, a stop CFGD rising; a byte goes most significant
bit first, a 0 bit driven low; the loader leaves CFGD to the target in the bits that the target gives (R182). -/
def PortOp.lines : PortOp → List PortLines
  | .start => [⟨false, false⟩, ⟨false, true⟩, ⟨true, true⟩]
  | .restart => [⟨true, false⟩, ⟨false, false⟩, ⟨false, true⟩, ⟨true, true⟩]
  | .stop => stopLines false
  | .pulse => [⟨true, false⟩, ⟨false, false⟩]
  | .send b => ((bitsMsbFirst b).map fun one => portBit (!one)).flatten ++ portBit false
  | .read ack => (List.replicate 8 (portBit false)).flatten ++ portBit ack

/-- The address byte: the memory's device address 54h in bits 7 to 1, the direction in bit 0, 1 for read (R182, R183). -/
def addressByte (read : Bool) : Byte := 0x54#7 ++ BitVec.ofBool read

/-- The bus clear, where so many reads of CFGD in a row find it low, the first at the start and one after each pulse: the pulses,
and the stop condition once CFGD reads high (R182). -/
def busClear (lowReads : Nat) : List PortOp :=
  if lowReads ≤ 9 then List.replicate lowReads .pulse ++ [.stop] else List.replicate 9 .pulse

/-- The sequential read of R183: the starting location, the header, and the rest of the image, its last byte unacknowledged; an
impossible length ends it after the header. -/
def imageRead (memory : List Byte) : List PortOp :=
  let n := imageLength memory
  [.start, .send (addressByte false), .send 0#8, .send 0#8, .restart, .send (addressByte true)]
    ++ (if lengthPossible n then List.replicate (n - 1) (.read true) ++ [.read false] else List.replicate 39 (.read true))
    ++ [.stop]

/-- Bytes that the loader reads in a list of operations. -/
def bytesRead (ops : List PortOp) : Nat := ops.countP fun op => match op with | .read _ => true | _ => false

/-- The lines through a list of operations. -/
def portLines (ops : List PortOp) : List PortLines := (ops.map PortOp.lines).flatten

/-- What a whole attempt drives: the bus clear, then the read, the memory answering (R182, R183). -/
def attemptLines (pulses : Nat) (memory : List Byte) : List PortLines :=
  portLines (busClear pulses) ++ portLines (imageRead memory)

/-- What an attempt drives that is abandoned after so many moments: no more of the attempt, and a stop condition where the port allows
one (R184). -/
def abandonedLines (driven : List PortLines) (moments : Nat) (canStop : Bool) : List PortLines :=
  let done := driven.take moments
  done ++ if canStop then stopLines (done.getLastD PortLines.undriven).dataLow else []

/-- What the station drives on CFGC and CFGD through its latest attempt, then nothing, as at every time outside LOADING (R182). -/
def State.portDriven (s : State) : List PortLines := s.loader.port ++ [PortLines.undriven]

end Sys2Proof.Machine
end

