-- ==== Sys2Proof/Machine/PlanLoad.lean ====
section
/-! DEFINITION. PlanLoad.lean: resets, the end of a reset and the load attempts (R159, R160, R180 to R185, R189). -/

namespace Sys2Proof.Machine

/-- A power-on reset (R159 and the reset values of every block); the commands that wait stay. -/
def State.powerOn (s : State) : State := { State.reset with pending := s.pending }

/-- A pin reset keeps the BARRED cause (R159). -/
def State.pinReset (s : State) : State :=
  { State.reset with resetCause := .pin, barredCause := s.barredCause, pending := s.pending }

/-- An attempt ends without an answer: the next one starts 20 ms later, after the third the station is BARRED (R184). -/
def State.attemptFails (s : State) (pulses : Nat) (port : List PortLines) : State :=
  let n := s.loader.attempts + 1
  let loader : Loader := { s.loader with
    phase := .waiting, attempts := n, wait := some 20, pulses := pulses, working := [], port := port }
  if n < 3 then { s with loader := loader }
  else State.enterBarred { s with loader := { loader with phase := .off, wait := none } } .planBad

/-- An attempt starts with the bus clear, in which CFGD is read once and again after each of up to nine pulses (R182). -/
def State.startAttempt (s : State) (answer : PortAnswer) : State :=
  let port := portLines (busClear answer.lowReads)
  let s : State := { s with loader := { s.loader with answer := answer } }
  if answer.lowReads ≤ 9 then
    { s with loader := { s.loader with
        phase := .reading, wait := none, pulses := answer.lowReads, working := [], port := port } }
  else s.attemptFails 9 port

/-- The end of a reset: the station number is sampled and the loader starts (R172, R180, R182). -/
def State.endReset (s : State) (pins : BitVec 3) (answer : PortAnswer) : State :=
  if s.inReset then
    let n : Station := Fin.ofNat 8 pins.toNat
    let s : State := { s with inReset := false, number := n, dir := resetDir n, loader := .reset }
    s.startAttempt answer
  else s

/-- The attempt in progress gets no answer and is abandoned, with a stop condition or without (R184). -/
def State.noAnswer (s : State) (canStop : Bool) : State :=
  let x := s.loader
  if x.phase = .reading then
    s.attemptFails x.pulses (abandonedLines (attemptLines x.pulses x.answer.memory) x.answer.moments canStop)
  else s

/-- The wait between two attempts ends (R184). -/
def State.retryLoad (s : State) (answer : PortAnswer) : State :=
  if s.loader.phase = .waiting then s.startAttempt answer else s

/-- An accepted image moves into the store and the station enters JOINING (R160, R163, R172, R181, R189). A load outlasts every
frame, so the line has been idle since the reset (R137, R182; log 9). -/
def State.acceptPlan (s : State) (p : Plan) : State :=
  let self := { s.peer s.number with digest := some p.digest }
  let s : State := { s.setPeer s.number self with
    lineFound := true, plan := some p, loader := { s.loader with phase := .off, working := [] },
    table := List.replicate p.slots.length Entry.unknown }
  s.enterJoining none

/-- The loader holds what it has read and judges it (R183, R189). The working copy of an invalid image stays with the loader: the
model's choice (R181; log 44). -/
def State.judgeLoad (s : State) (memory : List Byte) : State :=
  if s.loader.phase = .reading then
    let image := readImage memory
    let s : State := { s with loader := { s.loader with port := attemptLines s.loader.pulses memory } }
    match judgeImage image with
    | some p => s.acceptPlan p
    | none => State.enterBarred { s with loader := { s.loader with phase := .off, working := image } } .planBad
  else s

end Sys2Proof.Machine
end

