-- ==== Sys2Proof/Machine/ResetCommands.lean ====
section
/-! DEFINITION. ResetCommands.lean: the meanings of the resets and of the plan loader's events (R159, R180 to R189). -/

namespace Sys2Proof.Machine

/-- POWER_ON_RESET (R159). -/
def execPowerOnReset (s : State) : Host.Outcome State Fault Refusal :=
  .next s.powerOn

/-- PIN_RESET (R159, R185). -/
def execPinReset (s : State) : Host.Outcome State Fault Refusal :=
  .next s.pinReset

/-- RESET_END (R180, R182). -/
def execResetEnd (pins : BitVec 3) (port : PortAnswer) (s : State) : Host.Outcome State Fault Refusal :=
  .next (s.endReset pins port)

/-- CLOCK_HOLD_TIMEOUT: the attempt is one in which the memory does not answer; with CFGC held low the port allows no stop
condition (R182, R184). -/
def execClockHoldTimeout (s : State) : Host.Outcome State Fault Refusal :=
  .next (s.noAnswer false)

/-- LOAD_NO_ANSWER (R184). -/
def execLoadNoAnswer (s : State) : Host.Outcome State Fault Refusal :=
  .next (s.noAnswer s.loader.answer.canStop)

/-- LOAD_RETRY_WAIT_EXPIRY (R184). -/
def execLoadRetryWaitExpiry (port : PortAnswer) (s : State) : Host.Outcome State Fault Refusal :=
  .next (s.retryLoad port)

/-- LOAD_ATTEMPT_COMPLETE (R183, R189). -/
def execLoadAttemptComplete (memory : List Byte) (s : State) : Host.Outcome State Fault Refusal :=
  .next (s.judgeLoad memory)

end Sys2Proof.Machine
end

