-- ==== Sys2Proof/Machine/Timers.lean ====
section
/-! DEFINITION. Timers.lean: the expiry of the station's timers and of the claim and swap units' (R46, R48, R66, R161, R164,
R171, R174). An expiry of a timer that does not run has no effect (logs 2 and 33). -/

namespace Sys2Proof.Machine

/-- The roll timer expires (R161). -/
def State.rollExpired (s : State) : State := if s.rollTimer.isSome then s.requestRoll else s

/-- A stale timer expires (R174, R175). -/
def State.staleExpired (s : State) (x : Station) : State :=
  let r := s.peer x
  if r.staleTimer.isNone then s
  else
    match r.lastRoll with
    | none =>
      (s.setPeer x { r with state := .absent, mode := none, digest := none, lanes := none, staleTimer := none }).settle false
    | some n =>
      let s := s.setPeer x { r with staleTimer := none, staleMark := true }
      if s.mode = .joined then (s.send (.quiet (byteOf x.val) n)).settle false else s

/-- A row still UNKNOWN becomes OPEN at term 0 (R5, R164). Its bid clock and its reclaim-wait timer start here as at a frame that
opens a row: the model's choice (log 36). -/
def State.openUnknown (k : Nat) (s : State) : State :=
  if (s.row k).isUnknown then s.putRow k (.opened 0#16 none 0) else s

/-- The join quiet timer expires (R164, R165). -/
def State.joinQuietExpired (s : State) : State :=
  if s.joinQuiet.isSome then
    let s : State := { s with joinQuiet := none }
    ((List.range s.table.length).foldl (fun s k => State.openUnknown k s) s).settle false
  else s

/-- The mute rest ends (R171). -/
def State.muteEnds (s : State) : State := if s.muteRest.isSome then s.enterJoining (some .muteEnd) else s

/-- A clock has reached at least the given time. -/
def reachTime (due : Nat) (clock : Option Nat) : Option Nat := clock.map fun c => max c due

/-- A bid clock reaches the station's place (R35, R36). -/
def State.bidDue (s : State) (k : Nat) : State :=
  let loc := s.loc k
  match loc.place with
  | none => s
  | some p => (s.setLoc k { loc with bidClock := reachTime (p * 100) loc.bidClock }).settle false

/-- A standby bid clock reaches the station's standby place (R46). -/
def State.standbyBidDue (s : State) (k : Nat) : State :=
  let loc := s.loc k
  match loc.standbyPlace with
  | none => s
  | some p => (s.setLoc k { loc with standbyClock := reachTime (1000 + p * 100) loc.standbyClock }).settle false

/-- A reclaim-wait timer expires and restarts; an active station computes the victim (R48, R51). -/
def State.reclaimExpired (s : State) (k : Nat) : State :=
  let loc := s.loc k
  if loc.reclaimWait.isNone then s
  else
    let s := s.setLoc k { loc with reclaimWait := some 3000 }
    match s.row k with
    | .opened _ _ n => if n < 3 ∧ s.claimActive = true then (s.reclaim k).settle false else s
    | _ => s

/-! ### The passing of a millisecond (log 1) -/

/-- A timer that runs has one millisecond less to run. -/
def countDown (t : Option Nat) : Option Nat := t.map (· - 1)

/-- A clock that runs has run one millisecond more. -/
def countUp (t : Option Nat) : Option Nat := t.map (· + 1)

def RowLocal.pass (loc : RowLocal) : RowLocal :=
  { loc with bidClock := countUp loc.bidClock, standbyClock := countUp loc.standbyClock,
             reclaimWait := countDown loc.reclaimWait }

def SwapCtx.pass : SwapCtx → SwapCtx
  | .taker k t st al => .taker k t st (countDown al)
  | c => c

def Lane.pass (x : Lane) : Lane :=
  { x with stateTimer := countDown x.stateTimer, periodClock := countDown x.periodClock, lockClock := countUp x.lockClock,
           ctx := x.ctx.pass }

def PeerRec.pass (r : PeerRec) : PeerRec := { r with staleTimer := countDown r.staleTimer }

/-- Every timer and clock passes one millisecond; out of a reset the link controller counts a millisecond without a frame as
idle line (R137; log 9). -/
def State.passTime (s : State) : State :=
  { s with
    lineFound := s.lineFound || !s.inReset,
    table := s.table.map fun e => { e with loc := e.loc.pass },
    lanes := s.lanes.map Lane.pass, dir := s.dir.map PeerRec.pass, rollTimer := countDown s.rollTimer,
    joinQuiet := countDown s.joinQuiet, muteRest := countDown s.muteRest,
    loader := { s.loader with wait := countDown s.loader.wait } }

/-- A timer has run out. -/
def ranOut (t : Option Nat) : Bool := t == some 0

def emitIf (b : Bool) (c : Instr) : List Instr := if b then [c] else []

/-- The expiries of one row's clocks and timer, at the millisecond they fall due. -/
def State.rowExpiries (s : State) (k : Nat) : List Instr :=
  let loc := s.loc k
  emitIf (match loc.place, loc.bidClock with | some p, some c => p * 100 == c | _, _ => false) (.bidClockDue k)
    ++ emitIf (match loc.standbyPlace, loc.standbyClock with | some p, some c => 1000 + p * 100 == c | _, _ => false)
        (.standbyBidClockDue k)
    ++ emitIf (ranOut loc.reclaimWait) (.reclaimWaitExpiry k)

/-- The expiries of one lane's timers. The close of a quality period brings a margin from outside and is left to its sender. -/
def State.laneExpiries (s : State) (l : LaneId) : List Instr :=
  let x := s.lane l
  (if ranOut x.stateTimer then
    match x.state with
    | .tune => [.tuneTimeEnd l]
    | .acq1 => [.stageWindowExpiry l .acq1]
    | .acq2 => [.stageWindowExpiry l .acq2]
    | .acq3 => [.stageWindowExpiry l .acq3]
    | .holdover => [.holdoverWindowExpiry l]
    | .retryWait => [.retryPeriodEnd l]
    | _ => []
  else [])
    ++ emitIf (x.lockClock == some 60000) (.lockClock60s l)
    ++ emitIf (match x.ctx with | .taker _ _ _ al => ranOut al | _ => false) (.alignTimerExpiry l)

/-- Every expiry that has fallen due, in a fixed order. -/
def State.expiries (s : State) : List Instr :=
  emitIf (ranOut s.rollTimer) .rollTimerExpiry
    ++ (allStations.map fun x => emitIf (ranOut (s.peer x).staleTimer) (.staleTimerExpiry x)).flatten
    ++ emitIf (ranOut s.joinQuiet) .joinQuietExpiry
    ++ emitIf (ranOut s.muteRest) .muteRestExpiry
    ++ ((List.range s.table.length).map s.rowExpiries).flatten
    ++ (allLanes.map s.laneExpiries).flatten

/-- One millisecond passes with no command waiting; the expiries that fall due wait next (log 1). -/
def State.tick (s : State) : State :=
  let s := s.passTime
  { s with pending := s.expiries }

end Sys2Proof.Machine
end

