-- ==== Sys2Proof/Machine/TimerCommands.lean ====
section
/-! DEFINITION. TimerCommands.lean: the meanings of the expiries of the station's, the claim unit's and the swap unit's timers. -/

namespace Sys2Proof.Machine

/-- ROLL_TIMER_EXPIRY (R161). -/
def execRollTimerExpiry (s : State) : Host.Outcome State Fault Refusal :=
  .next s.rollExpired

/-- STALE_TIMER_EXPIRY (R174, R175). -/
def execStaleTimerExpiry (peer : Station) (s : State) : Host.Outcome State Fault Refusal :=
  .next (s.staleExpired peer)

/-- JOIN_QUIET_EXPIRY (R164). -/
def execJoinQuietExpiry (s : State) : Host.Outcome State Fault Refusal :=
  .next s.joinQuietExpired

/-- MUTE_REST_EXPIRY (R171). -/
def execMuteRestExpiry (s : State) : Host.Outcome State Fault Refusal :=
  .next s.muteEnds

/-- BID_CLOCK_DUE (R35, R36). -/
def execBidClockDue (slot : Nat) (s : State) : Host.Outcome State Fault Refusal :=
  .next (s.bidDue slot)

/-- STANDBY_BID_CLOCK_DUE (R46). -/
def execStandbyBidClockDue (slot : Nat) (s : State) : Host.Outcome State Fault Refusal :=
  .next (s.standbyBidDue slot)

/-- RECLAIM_WAIT_EXPIRY (R48 to R51). -/
def execReclaimWaitExpiry (slot : Nat) (s : State) : Host.Outcome State Fault Refusal :=
  .next (s.reclaimExpired slot)

/-- ALIGN_TIMER_EXPIRY (R66). -/
def execAlignTimerExpiry (lane : LaneId) (s : State) : Host.Outcome State Fault Refusal :=
  .next (s.alignExpired lane)

end Sys2Proof.Machine
end

