-- ==== Sys2Proof/Machine/Dispatch.lean ====
section
/-! DEFINITION. Dispatch.lean: the meaning of each command. -/

namespace Sys2Proof.Machine

def exec (i : Instr) (s : State) : Host.Outcome State Fault Refusal :=
  match i with
  | .powerOnReset => Sys2Proof.Machine.execPowerOnReset s
  | .pinReset => Sys2Proof.Machine.execPinReset s
  | .resetEnd pins port => Sys2Proof.Machine.execResetEnd pins port s
  | .clockHoldTimeout => Sys2Proof.Machine.execClockHoldTimeout s
  | .loadNoAnswer => Sys2Proof.Machine.execLoadNoAnswer s
  | .loadRetryWaitExpiry port => Sys2Proof.Machine.execLoadRetryWaitExpiry port s
  | .loadAttemptComplete memory => Sys2Proof.Machine.execLoadAttemptComplete memory s
  | .frameSendStart rivals => Sys2Proof.Machine.execFrameSendStart rivals s
  | .duplicateSendMismatch => Sys2Proof.Machine.execDuplicateSendMismatch s
  | .frameOwnNumberReceived fresh => Sys2Proof.Machine.execFrameOwnNumberReceived fresh s
  | .frameCheckFailed raw => Sys2Proof.Machine.execFrameCheckFailed raw s
  | .frameSpoiled sender fresh => Sys2Proof.Machine.execFrameSpoiled sender fresh s
  | .ownFrameSpoiled => Sys2Proof.Machine.execOwnFrameSpoiled s
  | .ownFrameVoid => Sys2Proof.Machine.execOwnFrameVoid s
  | .spoilStreakLimit => Sys2Proof.Machine.execSpoilStreakLimit s
  | .unseenStreakLimit => Sys2Proof.Machine.execUnseenStreakLimit s
  | .badReceiveStreakLimit raw => Sys2Proof.Machine.execBadReceiveStreakLimit raw s
  | .quiet rx subject roll => Sys2Proof.Machine.execQuiet rx subject roll s
  | .quietAboutSelf rx roll => Sys2Proof.Machine.execQuietAboutSelf rx roll s
  | .cedeCarrier rx slot term lane reason => Sys2Proof.Machine.execCedeCarrier rx slot term lane reason s
  | .cedeStandby rx slot term lane reason => Sys2Proof.Machine.execCedeStandby rx slot term lane reason s
  | .bidCarrier rx slot term lane margin => Sys2Proof.Machine.execBidCarrier rx slot term lane margin s
  | .bidStandby rx slot term lane margin => Sys2Proof.Machine.execBidStandby rx slot term lane margin s
  | .swapOffer rx slot term => Sys2Proof.Machine.execSwapOffer rx slot term s
  | .swapReady rx slot term => Sys2Proof.Machine.execSwapReady rx slot term s
  | .swapGo rx slot term drainCount => Sys2Proof.Machine.execSwapGo rx slot term drainCount s
  | .swapHold rx slot term hold => Sys2Proof.Machine.execSwapHold rx slot term hold s
  | .swapDone rx slot newTerm lane => Sys2Proof.Machine.execSwapDone rx slot newTerm lane s
  | .swapDrop rx slot term reason => Sys2Proof.Machine.execSwapDrop rx slot term reason s
  | .roll rx body => Sys2Proof.Machine.execRoll rx body s
  | .query rx target kind index => Sys2Proof.Machine.execQuery rx target kind index s
  | .report rx body => Sys2Proof.Machine.execReport rx body s
  | .directiveClear rx target argument => Sys2Proof.Machine.execDirectiveClear rx target argument s
  | .directiveYield rx target argument => Sys2Proof.Machine.execDirectiveYield rx target argument s
  | .directiveSwap rx target argument => Sys2Proof.Machine.execDirectiveSwap rx target argument s
  | .directiveRest rx target argument => Sys2Proof.Machine.execDirectiveRest rx target argument s
  | .directiveResume rx target argument => Sys2Proof.Machine.execDirectiveResume rx target argument s
  | .directiveUnknownAction rx target action argument => Sys2Proof.Machine.execDirectiveUnknownAction rx target action argument s
  | .rollTimerExpiry => Sys2Proof.Machine.execRollTimerExpiry s
  | .staleTimerExpiry peer => Sys2Proof.Machine.execStaleTimerExpiry peer s
  | .joinQuietExpiry => Sys2Proof.Machine.execJoinQuietExpiry s
  | .muteRestExpiry => Sys2Proof.Machine.execMuteRestExpiry s
  | .bidClockDue slot => Sys2Proof.Machine.execBidClockDue slot s
  | .standbyBidClockDue slot => Sys2Proof.Machine.execStandbyBidClockDue slot s
  | .reclaimWaitExpiry slot => Sys2Proof.Machine.execReclaimWaitExpiry slot s
  | .alignTimerExpiry lane => Sys2Proof.Machine.execAlignTimerExpiry lane s
  | .tuneTimeEnd lane => Sys2Proof.Machine.execTuneTimeEnd lane s
  | .guardDetected lane => Sys2Proof.Machine.execGuardDetected lane s
  | .stageWindowExpiry lane stage => Sys2Proof.Machine.execStageWindowExpiry lane stage s
  | .qualityPeriodClose lane margin => Sys2Proof.Machine.execQualityPeriodClose lane margin s
  | .acq3SyncLock lane pos => Sys2Proof.Machine.execAcq3SyncLock lane pos s
  | .holdoverReturn lane pos => Sys2Proof.Machine.execHoldoverReturn lane pos s
  | .syncMissLimit lane pos => Sys2Proof.Machine.execSyncMissLimit lane pos s
  | .holdoverWindowExpiry lane => Sys2Proof.Machine.execHoldoverWindowExpiry lane s
  | .retryLimitSpent lane => Sys2Proof.Machine.execRetryLimitSpent lane s
  | .retryPeriodEnd lane => Sys2Proof.Machine.execRetryPeriodEnd lane s
  | .lockClock60s lane => Sys2Proof.Machine.execLockClock60s lane s
  | .steadyRunComplete lane margin => Sys2Proof.Machine.execSteadyRunComplete lane margin s
  | .qualityTrigger lane margin => Sys2Proof.Machine.execQualityTrigger lane margin s
  | .clashStreakLimit lane margin => Sys2Proof.Machine.execClashStreakLimit lane margin s
  | .overrunLimit others => Sys2Proof.Machine.execOverrunLimit others s
  | .drainCountdownEnd frameMark others => Sys2Proof.Machine.execDrainCountdownEnd frameMark others s
  | .packetArrival lane pos bytes unrepaired => Sys2Proof.Machine.execPacketArrival lane pos bytes unrepaired s
  | .windowStart frameMark => Sys2Proof.Machine.execWindowStart frameMark s
  | .windowEnd others => Sys2Proof.Machine.execWindowEnd others s
  | .cycleCutShort => Sys2Proof.Machine.execCycleCutShort s
  | .syncHit lane pos => Sys2Proof.Machine.execSyncHit lane pos s
  | .syncMiss lane pos => Sys2Proof.Machine.execSyncMiss lane pos s

end Sys2Proof.Machine
end

