-- ==== Sys2Proof/Machine/Clocks.lean ====
section
/-! DEFINITION. Clocks.lean: the backplane lines clock by clock: what the station drives in each clock of a window, what a window reads
from its clocks, and how the clocks and frame marks of BPCK and BPFR make windows (R123, R124, R208). -/

namespace Sys2Proof.Machine

/-- The clocks of a window, and those of them in which the lines carry a packet (R208). -/
def windowClocks : Nat := 192

def dataClocks : Nat := 188

/-- The levels of BPD7-BPD0, BPVL and BPLS in one clock: a set bit or mark is dominant (R124, R208). -/
structure BusLines where
  data  : Byte
  valid : Bool
  last  : Bool
deriving DecidableEq, Repr

/-- No driver: every line rests at its recessive level (R124). -/
def BusLines.recessive : BusLines := { data := 0#8, valid := false, last := false }

/-- A line is dominant where either side drives it so (R124, R208). -/
def BusLines.join (a b : BusLines) : BusLines :=
  { data := a.data ||| b.data, valid := a.valid || b.valid, last := a.last || b.last }

/-- What a record taken for a window puts on the lines in one clock: byte k and the marks in clock k, nothing in the last four
clocks (R208). -/
def Driven.linesAt (d : Driven) (clock : Nat) : BusLines :=
  if clock < dataClocks then { data := d.packet.bytes.getD clock 0#8, valid := true, last := d.last } else .recessive

/-- What the station drives in one clock of the window in progress (R126, R208). -/
def State.busDriven (s : State) (clock : Nat) : BusLines :=
  match s.bp.driven with
  | none => .recessive
  | some d => d.linesAt clock

/-- A window as its clocks give it: a byte a clock, the marks at clock 0 and in any clock of the 188 (R208). -/
def windowOf (clocks : List BusLines) : WindowLines :=
  let lines := clocks.take dataClocks
  let first := lines.headD .recessive
  { bytes := lines.map BusLines.data, valid := first.valid, last := first.last, validAny := lines.any BusLines.valid,
    lastAny := lines.any BusLines.last }

/-- One rising edge of BPCK, with the level of BPFR and what all other drivers place: where the outlet port stands after it, the clocks
of the window in progress, and what has happened. A window ends with its last clock; a frame mark starts outlet 0 and cuts a window
in progress short (R123, R208). After a stop of the clock the cycle goes on from where it stood, until the next frame mark: the
model's choice (log 54). -/
def busClock (pos : CyclePos) (clocks : List BusLines) (frameMark : Bool) (others : BusLines) :
    CyclePos × List BusLines × List Instr :=
  match pos, frameMark with
  | .inside _, true => (.inside 0, [others], [.cycleCutShort])
  | _, true => (.inside 0, [others], [.windowStart true])
  | .inside n, false =>
    let seen := clocks ++ [others]
    if seen.length < windowClocks then (.inside n, seen, [])
    else (if n < 19 then .between (n + 1) else .awaiting, [], [.windowEnd (windowOf seen)])
  | .between n, false => (.inside n, [others], [.windowStart false])
  | .awaiting, false => (.awaiting, [], [])

end Sys2Proof.Machine
end

