-- ==== Sys2Proof/Safety.lean ====
section
/-! DEFINITION. Safety.lean: the invariants the statements speak of, what a change of carrier leaves of a row, and when a
completed frame reaches the station's table. -/

namespace Sys2Proof.Safety

open Sys2Proof.Machine

/-! ### The send queue (R152) -/

/-- The number of entries that are the given request. -/
def requests (q : QFrame) (queue : List QEntry) : Nat := queue.countP fun e => e.frame == q

/-- At most eight frames, in code order, lowest first, with at most one ROLL and one REPORT. -/
def queueOk (queue : List QEntry) : Prop :=
  queue.length ≤ 8 ∧ queue.Pairwise (fun a b => QFrame.code a.frame ≤ QFrame.code b.frame)
    ∧ requests .roll queue ≤ 1 ∧ requests .report queue ≤ 1

/-! ### Lanes (R102, R114, R118) -/

/-- A gate is open in the roles of R102 alone, and only a TAKER holds a giver trace. -/
def gateOk (x : Lane) : Prop := (x.gate = true → x.role.mayOpen = true) ∧ (x.taker.isSome = true → x.role = .taker)

/-- A buffer holds at most 32 records, a giver trace at most 8 entries. -/
def boundsOk (x : Lane) : Prop := x.buffer.length ≤ 32 ∧ ∀ t, x.taker = some t → t.trace.length ≤ 8

/-! ### The carriage table (R2) -/

/-- A reclaim count is 0 to 3, and a row's carrier and standby are on different stations. -/
def rowOk : Row → Prop
  | .unknown => True
  | .opened _ _ n => n ≤ 3
  | .carried _ c sb _ => ∀ p, sb = some p → p.station ≠ c.station
  | .swapping _ c sb _ _ => sb.station ≠ c.station

/-- Every row is well made, and no pair is named in two rows. -/
def tableOk (s : State) : Prop :=
  (∀ k, rowOk (s.row k)) ∧ ∀ j k p, (s.row j).names p = true → (s.row k).names p = true → j = k

/-- The rows of two states are the same. -/
def SameRows (s t : State) : Prop := ∀ k, t.row k = s.row k

/-- The rows of two states are the same but for one slot. -/
def SameRowsBut (k : Nat) (s t : State) : Prop := ∀ j, j ≠ k → t.row j = s.row j

/-- A row after its carrier has left it (R13, R14, R17, R18, R27). -/
def carrierLeft : Row → Row
  | .carried t c none _ => .opened t (some c.station) 0
  | .carried t c (some sb) _ =>
    if t = 0xFFFF#16 then .opened t (some c.station) 0 else .carried (t + 1#16) sb none (some c.station)
  | .swapping t c sb _ _ =>
    if t = 0xFFFF#16 then .opened t (some c.station) 0 else .carried (t + 1#16) sb none (some c.station)
  | r => r

/-- A row after its standby has left it (R15, R17, R18). -/
def standbyLeft : Row → Row
  | .carried t c (some _) lc => .carried t c none lc
  | .swapping t c _ lc _ => .carried t c none lc
  | r => r

/-- A row after station `x` has been removed from it (R18). -/
def removed (x : Station) (r : Row) : Row :=
  if r.carrier.any (fun p => p.station == x) then carrierLeft r
  else if r.standby.any (fun p => p.station == x) then standbyLeft r
  else r

/-- A row that an accepted CEDE with reason RECLAIMED names as its for-slot (R16). -/
def reclaimCounted : Row → Row
  | .opened t lc n => if n < 3 then .opened t lc (n + 1) else .opened t lc n
  | r => r

/-! ### Completed frames -/

/-- Frame `f` of station `x` completes and reaches this station's table (R6 to R8, R140, R145, R146): the mode is JOINING,
JOINED or RESTING, the sender's record is not ALIEN, and the frame is a foreign one that this station checked, or the
station's own frame, on the line, that completed seen or with no PRESENT peer in the directory. -/
abbrev Applies (s : State) (rx : Rx) (f : Frame) (x : Station) : Prop :=
  s.mode.appliesFrames = true ∧ (s.peer x).state ≠ .alien ∧ rx.sender = BitVec.ofNat 4 x.val
    ∧ ((x ≠ s.number ∧ rx.fresh = true)
      ∨ (x = s.number ∧ s.link.onAir = some f ∧ (rx.seen = true ∨ s.presentPeer = false)))

/-- A foreign frame, from a station or an attendant, completes at this station in JOINING, JOINED or RESTING (R140, R145). -/
abbrev Hears (s : State) (rx : Rx) : Prop :=
  s.mode.appliesFrames = true ∧ rx.sender ≠ s.sender ∧ rx.fresh = true

/-- Frame `f` of this station, on the line, completes seen or with no PRESENT peer in the directory (R8, R146). -/
abbrev OwnCompletes (s : State) (rx : Rx) (f : Frame) : Prop :=
  rx.sender = s.sender ∧ s.link.onAir = some f ∧ (rx.seen = true ∨ s.presentPeer = false)

/-- A peer's record after a completed frame that is no ROLL (R173). -/
def heardFrom (r : PeerRec) : PeerRec :=
  if r.state = .alien then r else { r with state := .present, staleTimer := some 750, staleMark := false }

/-- A peer's record after a completed ROLL, at a station whose plan has the digest (R173). -/
def rollHeard (digest : Word16) (b : RollBody) : PeerRec :=
  { state := if b.digest = digest then .present else .alien, mode := some b.mode, lastRoll := some b.number,
    digest := some b.digest, lanes := some b.lanes, staleTimer := if b.digest = digest then some 750 else none,
    staleMark := false }

/-- Nothing but the event itself acts: no lane is HELD or in a swap, no discarded frame waits to be queued again, no join is
due. -/
abbrev Undisturbed (s : State) : Prop :=
  (∀ l, (s.lane l).mark.isHeld = false ∧ (s.lane l).ctx = .none) ∧ s.link.owed = []
    ∧ (s.mode = .joining → s.joinMark = false)

/-- A JOINING station with an UNKNOWN row applies no BID (R11). -/
abbrev TakesBids (s : State) : Prop := s.mode = .joining → s.table.all (fun e => !e.row.isUnknown) = true

/-! ### Echoes (R22 to R24) -/

/-- Adoption would break the rule of R2 on names (R24). -/
def echoConflicts (rows : Nat → Row) (k : Nat) (new : Row) : Prop :=
  ¬rowOk new ∨ ∃ j p, j ≠ k ∧ new.names p = true ∧ (rows j).names p = true

/-- The echo is newer than the row: the row is UNKNOWN or of a lower term, or of the same term and names a peer whose record is
not PRESENT and which the echo does not name (R22, R23). -/
def echoNewer (s : State) (old new : Row) : Prop :=
  old = .unknown ∨ ∃ t t', old.term = some t ∧ new.term = some t' ∧
    (t.toNat < t'.toNat ∨ t = t' ∧ ∃ y, y ≠ s.number ∧ (s.peer y).state ≠ .present ∧ old.namesStation y = true
      ∧ new.namesStation y = false)

/-- What one echo makes of the rows: its own row alone changes, where the echo passes the tests of R205, is newer and does not
conflict (R21 to R24). -/
def echoTaken (s : State) (e : RowRecord) (rows rows' : Nat → Row) : Prop :=
  (∀ j, j ≠ e.slot.toNat → rows' j = rows j)
    ∧ (e.slot.toNat < s.slotCount → ∀ new, echoRow s.drainCount e = some new →
        (echoNewer s (rows e.slot.toNat) new ∧ ¬echoConflicts rows e.slot.toNat new → rows' e.slot.toNat = new)
        ∧ (¬echoNewer s (rows e.slot.toNat) new ∨ echoConflicts rows e.slot.toNat new →
            rows' e.slot.toNat = rows e.slot.toNat))
    ∧ (s.slotCount ≤ e.slot.toNat ∨ echoRow s.drainCount e = none → rows' e.slot.toNat = rows e.slot.toNat)

/-! ### The victim of a reclaim (R49, R50, R188) -/

/-- A slot falls in one of the station's valid pin windows: it agrees with the window's value where the mask has a one. -/
def pins (s : State) (x : Station) (k : Nat) : Prop :=
  ∃ p w, s.plan = some p ∧ (w = p.windows[x].1 ∨ w = p.windows[x].2) ∧ w.valid = true
    ∧ ∀ i, i < 5 → w.mask.getLsbD i = true → k.testBit i = w.value.getLsbD i

/-- A standby lane that the reclaim for row `k` may take (R49). -/
def standbyEligible (s : State) (k j : Nat) (p : Pair) : Prop :=
  ∃ t c lc, s.row j = .carried t c (some p) lc ∧ s.candidate k p.station = true

/-- A carrier lane that the reclaim for row `k` may take: a pinned one only where every lane that the table names of its
station is a pinned carrier (R50). -/
def carrierEligible (s : State) (k j : Nat) (p : Pair) : Prop :=
  ∃ t sb lc, s.row j = .carried t p sb lc ∧ s.candidate k p.station = true ∧ s.rank k < s.rank j
    ∧ (pins s p.station j → ∀ i q, (s.row i).names q = true → q.station = p.station →
        (s.row i).standby ≠ some q ∧ pins s p.station i)

/-- The victim of the reclaim for row `k`: the eligible lane on the row of the highest rank number, then of the highest slot; a
carrier only where no standby is eligible (R49, R50). -/
def isVictim (s : State) (k j : Nat) (p : Pair) : CarriageRole → Prop
  | .standby => standbyEligible s k j p ∧ ∀ i q, standbyEligible s k i q →
      s.rank i < s.rank j ∨ (s.rank i = s.rank j ∧ i ≤ j)
  | .carrier => (∀ i q, ¬standbyEligible s k i q) ∧ carrierEligible s k j p ∧ ∀ i q, carrierEligible s k i q →
      s.rank i < s.rank j ∨ (s.rank i = s.rank j ∧ i ≤ j)

/-! ### The giver trace (R118 to R121) -/

/-- The oldest entry of a trace matches buffer record `i`: no newer record has its signature, and as many of the next three
entries as there are equal the records that follow the match (R119, steps 2 to 7). -/
def matchesAt (tr : List TraceEntry) (buf : List PacketRec) (i : Nat) : Prop :=
  ∃ e rest b, tr = e :: rest ∧ buf[i]? = some b ∧ b.signature = e.signature
    ∧ (∀ j c, i < j → buf[j]? = some c → c.signature ≠ e.signature)
    ∧ ∀ n f, n < 3 → rest[n]? = some f → ∃ c, buf[i + 1 + n]? = some c ∧ c.signature = f.signature

/-- The alignment test: the oldest entries go until one matches; four matched entries make the lane ALIGNED, empty the trace, and
take their records and all older ones out of the buffer; `consumed` says that one of the four was marked LAST (R119). -/
def alignTested (tr : List TraceEntry) (buf : List PacketRec) (tr' : List TraceEntry) (buf' : List PacketRec)
    (aligned consumed : Bool) : Prop :=
  ∃ d, d ≤ tr.length ∧ (∀ c i, c < d → ¬matchesAt (tr.drop c) buf i)
    ∧ (d = tr.length ∧ tr' = [] ∧ buf' = buf ∧ aligned = false ∧ consumed = false
      ∨ ∃ i, matchesAt (tr.drop d) buf i ∧
        (if 4 ≤ tr.length - d then
          tr' = [] ∧ buf' = buf.drop (i + 4) ∧ aligned = true ∧ consumed = ((tr.drop d).take 4).any (·.last)
        else tr' = tr.drop d ∧ buf' = buf ∧ aligned = false ∧ consumed = false))

/-- Pairing: equal heads leave both lists until one is empty, the heads differ, or the entry marked LAST is consumed (R68,
R120). -/
def paired (tr : List TraceEntry) (buf : List PacketRec) (tr' : List TraceEntry) (buf' : List PacketRec)
    (aligned consumed : Bool) : Prop :=
  ∃ n, n ≤ tr.length ∧ n ≤ buf.length ∧ tr' = tr.drop n ∧ buf' = buf.drop n
    ∧ (∀ i e b, i < n → tr[i]? = some e → buf[i]? = some b → e.signature = b.signature)
    ∧ (tr.take (n - 1)).any (·.last) = false ∧ consumed = (tr.take n).any (·.last)
    ∧ (aligned = true ∧ (consumed = true ∨ tr' = [] ∨ buf' = [])
      ∨ aligned = false ∧ consumed = false ∧ ∃ e es b bs, tr' = e :: es ∧ buf' = b :: bs ∧ e.signature ≠ b.signature)

/-- An entry arrives at a trace, which holds at most eight; at eight entries an ALIGNED lane becomes UNALIGNED (R118 to R120). -/
def traceTakes (was : Bool) (tr : List TraceEntry) (e : TraceEntry) (buf : List PacketRec) (tr' : List TraceEntry)
    (buf' : List PacketRec) (now consumed : Bool) : Prop :=
  let joined := (if tr.length < 8 then tr else tr.drop 1) ++ [e]
  if was = true then ∃ a, paired joined buf tr' buf' a consumed ∧ now = (a && decide (tr'.length < 8))
  else alignTested joined buf tr' buf' now consumed

/-- The taker's pending hold: its latest SWAP-HOLD in the queue, else the row's hold (R67). -/
def pendingHold (s : State) (k : Nat) : Bool :=
  match s.link.latestHold k with
  | some (v, _) => v
  | none => (s.row k).hold

/-- What an arrival leaves of a taker in a swap for slot `k`: the trace, the buffer and the alignment after it, and what the swap
unit makes of them; `opens` says that the entry marked LAST was consumed, or was met UNALIGNED (R65, R67 to R69, R121). -/
def takerAfter (s t : State) (l : LaneId) (tk : Taker) (tr : List TraceEntry) (buf : List PacketRec) (now : Bool)
    (opens : Prop) : Prop :=
  t = { s with lanes := t.lanes, link := t.link } ∧ (∀ i, i ≠ l → t.lane i = s.lane i)
    ∧ (t.lane l).buffer = buf ∧ (t.lane l).role = (s.lane l).role ∧ (t.lane l).slot = (s.lane l).slot
    ∧ ∀ k term st al, (s.lane l).ctx = .taker k term st al →
      let keeps := (t.lane l).taker = some { tk with trace := tr, aligned := now } ∧ (t.lane l).gate = (s.lane l).gate
      let stays := keeps ∧ (t.lane l).ctx = (s.lane l).ctx ∧ t.link = s.link
      let readyIdle := s.link.heldFrame (isReadyFrame k) = true ∧ s.link.onLineFrame (isReadyFrame k) = false
      match st with
      | .seeking =>
        if tk.aligned = false ∧ now = true then
          keeps ∧ (t.lane l).ctx = .taker k term .readied al
            ∧ t.link.heldFrame (· == .swapReady (byteOf k) term) = true
        else stays
      | .readied =>
        (tk.aligned = true ∧ now = false ∧ readyIdle →
            keeps ∧ (t.lane l).ctx = .taker k term .seeking al ∧ t.link.heldFrame (isReadyFrame k) = false)
          ∧ (¬(tk.aligned = true ∧ now = false ∧ readyIdle) → stays)
      | .draining =>
        (opens → (t.lane l).gate = true ∧ (t.lane l).ctx = .taker k term .opened none
            ∧ (t.lane l).taker = some { trace := [], aligned := now, feeding := false }
            ∧ t.link.heldFrame (· == .swapDone (byteOf k) (term + 1#16) (byteOf l.val)) = true)
          ∧ (¬opens → tk.aligned = now → stays)
          ∧ (¬opens → tk.aligned ≠ now → keeps ∧ (t.lane l).ctx = (s.lane l).ctx
              ∧ (queueOk s.link.queue → s.link.queue.length < 8 → pendingHold t k = !now))
      | _ => stays

/-! ### Lanes that only their own events change -/

/-- The row of a trial lane allows its trial, and no better place and no OPEN row ends it (R34, R36, R38, R40, R44 to R47). -/
abbrev TrialStands (s : State) (l : LaneId) : Prop :=
  (s.lane l).role = .trial → s.trialStands (s.lane l) = true
    ∧ (∀ k, (s.lane l).slot = some k → s.placeNow k = (s.loc k).place ∧ s.standbyPlaceNow k = (s.loc k).standbyPlace)
    ∧ ((∃ t, (s.lane l).mark = .standby t) → ∀ j, (s.row j).isOpen = false)

/-- A HELD lane's for-slot row is OPEN and its CEDE is queued (R52). -/
abbrev HeldStands (s : State) (l : LaneId) : Prop :=
  ∀ fs r, (s.lane l).mark = .held fs r →
    s.mode ≠ .joining ∧ (s.row fs).isOpen = true ∧ s.link.queued (isReclaimCedeOf l) = true

/-- The row of a lane's swap is SWAPPING at the swap's term; or the lane has offered the swap, its SWAP-OFFER is not moot, and no
other lane is HELD or in a swap (R57, R64). -/
abbrev SwapStands (s : State) (l : LaneId) : Prop :=
  match (s.lane l).ctx with
  | .none => True
  | .taker k t _ _ => s.swappingAt k t (fun _ => true) = true
  | .giver k t stage _ _ => s.swappingAt k t (fun _ => true) = true
      ∨ (stage = .offering ∧ s.link.heldFrame (isOfferFrame k) = true ∧ s.wants (.swapOffer (byteOf k) t) = true
        ∧ ∀ i, i ≠ l → (s.lane i).ctx = .none ∧ (s.lane i).mark.isHeld = false)

/-- The lane's tuner is set to the slot's centre frequency and bandwidth (R87). -/
abbrev TunedTo (s : State) (k : Nat) (x : Lane) : Prop :=
  ∀ r, s.slotRec k = some r → x.tuner = { freq := r.freq, bandwidth := r.bandwidth }

/-- A trial lane after its release: FREE and IDLE with its binding dropped, or since bound for another trial (R11, R36, R46,
R100). -/
abbrev Released (x : Lane) : Prop :=
  x.gate = false ∧ x.retryCount = 0 ∧ x.bidTerm = none ∧ x.buffer = []
    ∧ (x.role = .free ∧ x.state = .idle ∧ x.slot = none ∧ x.mark = .none
      ∨ x.role = .trial ∧ x.state = .tune ∧ x.stateTimer = some 20 ∧ (x.mark = .ordinary ∨ ∃ t, x.mark = .standby t))

/-- A lane after it gave up its role and was released at a RESTING station (R81, R167). -/
abbrev GaveUp (x : Lane) : Prop :=
  x.role = .free ∧ x.state = .idle ∧ x.slot = none ∧ x.gate = false ∧ x.mark = .none ∧ x.ctx = .none ∧ x.taker = none

/-- No other lane is in a swap for the slot that the byte names. -/
abbrev NoSwapBeside (s : State) (slot : Byte) (l : LaneId) : Prop :=
  ∀ i j, i ≠ l → (s.lane i).ctx.slot = some j → byteOf j ≠ slot

/-- The lane is in no trial, HELD for no slot, in no swap, and not available for a claim. -/
abbrev Settled (x : Lane) : Prop :=
  x.role ≠ .trial ∧ x.mark.isHeld = false ∧ x.ctx = .none ∧ x.available = false

/-- The settings of a lane at a loss of a bound lane: RETRY-WAIT for the period of the count just reached, or SPENT at 15 in
LIMITED mode (R97 to R99). -/
def afterLoss (rm : RetryMode) (before after : Lane) : Prop :=
  after.retryCount = satInc 15 before.retryCount ∧ after.gate = false ∧ after.buffer = [] ∧
    (if after.retryCount = 15 ∧ rm = .limited then after.state = .spent ∧ after.slot = none ∧ after.role = .free
     else after.state = .retryWait ∧ after.slot = before.slot ∧ after.stateTimer = some (retryPeriod after.retryCount))

/-! ### Entries into a mode, as the station is right after them -/

/-- Every lane is IDLE and FREE, unbound, its gate closed, in no swap (R105). -/
def AllIdle (t : State) : Prop :=
  ∀ l, (t.lane l).state = .idle ∧ (t.lane l).role = .free ∧ (t.lane l).slot = none ∧ (t.lane l).gate = false
    ∧ (t.lane l).mark = .none ∧ (t.lane l).ctx = .none ∧ (t.lane l).retryCount = 0

/-- BARRED with a cause (R160): every lane that was not SPENT idle, every row UNKNOWN, the queue empty, the roll timer stopped. -/
def BarredAfter (s t : State) (cause : BarredCause) : Prop :=
  t.mode = .barred ∧ t.barredCause = cause ∧ t.link.queue = [] ∧ t.link.onAir = none ∧ t.rollTimer = none
    ∧ (∀ k, t.row k = .unknown) ∧ t.plan = s.plan ∧ t.number = s.number ∧ t.link.lastRoll = s.link.lastRoll
    ∧ ∀ l, (s.lane l).state ≠ .spent →
      (t.lane l).state = .idle ∧ (t.lane l).role = .free ∧ (t.lane l).gate = false ∧ (t.lane l).slot = none

/-- JOINING with a reset cause (R163). -/
def JoiningAfter (s t : State) (cause : ResetCause) : Prop :=
  t.mode = .joining ∧ t.resetCause = cause ∧ (∀ k, t.row k = .unknown) ∧ AllIdle t ∧ t.joinMark = false
    ∧ t.joinQuiet = some 1000 ∧ t.rollTimer = some 250 ∧ t.muteRest = none
    ∧ t.link.spoil = 0 ∧ t.link.unseen = 0 ∧ t.link.badRx = 0
    ∧ (∀ e ∈ t.link.queue, e.frame = .roll) ∧ t.link.queue ≠ []
    ∧ t.plan = s.plan ∧ t.link.lastRoll = s.link.lastRoll ∧ t.echoPointer = s.echoPointer

/-- ISOLATED (R170): no role but HOME, every gate closed, the rows as they were, nothing queued but a ROLL. -/
def IsolatedAfter (s t : State) : Prop :=
  t.mode = .isolated ∧ t.link.spoil = 0 ∧ t.link.unseen = 0 ∧ SameRows s t ∧ t.rollTimer = some 250
    ∧ t.joinQuiet = none ∧ (∀ e ∈ t.link.queue, e.frame = .roll) ∧ t.plan = s.plan ∧ t.sel = s.sel
    ∧ ∀ l, (s.lane l).state ≠ .spent →
      ((t.lane l).role = .free ∨ (t.lane l).role = .home) ∧ (t.lane l).gate = false ∧ (t.lane l).ctx = .none

/-- MUTE (R171): every lane that was not SPENT idle, nothing queued, the streaks 0, the mute rest started. -/
def MuteAfter (s t : State) : Prop :=
  t.mode = .mute ∧ t.muteRest = some 4000 ∧ t.rollTimer = none ∧ t.joinQuiet = none ∧ t.link.queue = []
    ∧ t.link.spoil = 0 ∧ t.link.unseen = 0 ∧ t.link.badRx = 0 ∧ SameRows s t ∧ t.plan = s.plan ∧ t.sel = s.sel
    ∧ ∀ l, (s.lane l).state ≠ .spent →
      (t.lane l).state = .idle ∧ (t.lane l).role = .free ∧ (t.lane l).gate = false ∧ (t.lane l).ctx = .none

end Sys2Proof.Safety
end

