-- ==== Sys2Proof/Certificates/Slice0/Obligations.lean ====
section
/-! DEFINITION. Obligations.lean: the statements about the station that the provers are given, in the order of OBLIGATIONS.json. -/

open Sys2Proof Sys2Proof.Machine Sys2Proof.Safety

/-! ### The machine -/

/-- O1. A step runs the command at the front of the queue with the queue's rest (the model's queue, log 1). -/
def Obligations.StepRunsFrontCommand : Prop :=
  ∀ (c : Instr) (rest : List Instr) (s : State),
    step { s with pending := c :: rest } = exec c { s with pending := rest }

/-- O2. With no command waiting a millisecond passes: timers run down, clocks run up, rows, link, selector and backplane stay
(DESIGN CHOICE of the model, log 1); out of a reset the line is then found idle (R137; the model's choice, log 9). -/
def Obligations.IdleStepPassesOneMillisecond : Prop :=
  ∀ s : State, s.pending = [] → ∃ t, step s = .next t ∧ SameRows s t ∧ t.mode = s.mode ∧ t.link = s.link
    ∧ t.plan = s.plan ∧ t.sel = s.sel ∧ t.bp = s.bp ∧ t.number = s.number
    ∧ t.lineFound = (s.lineFound || !s.inReset)
    ∧ t.rollTimer = s.rollTimer.map (· - 1) ∧ t.joinQuiet = s.joinQuiet.map (· - 1)
    ∧ t.muteRest = s.muteRest.map (· - 1)
    ∧ (∀ x, (t.peer x).staleTimer = (s.peer x).staleTimer.map (· - 1) ∧ (t.peer x).state = (s.peer x).state)
    ∧ (∀ l, (t.lane l).stateTimer = (s.lane l).stateTimer.map (· - 1) ∧ (t.lane l).role = (s.lane l).role
        ∧ (t.lane l).state = (s.lane l).state ∧ (t.lane l).lockClock = (s.lane l).lockClock.map (· + 1)
        ∧ (t.lane l).periodClock = (s.lane l).periodClock.map (· - 1))
    ∧ (∀ k, (t.loc k).bidClock = (s.loc k).bidClock.map (· + 1)
        ∧ (t.loc k).standbyClock = (s.loc k).standbyClock.map (· + 1)
        ∧ (t.loc k).reclaimWait = (s.loc k).reclaimWait.map (· - 1))
    ∧ (s.rollTimer = some 1 → Instr.rollTimerExpiry ∈ t.pending)

/-- O3. Every command completes, in every state, and leaves the waiting commands alone. Both clauses are the model's choice: that
no command stops follows from logs 32 and 33 (DEDUCED), and the queue of commands is the model's own (log 1). -/
def Obligations.EveryCommandCompletes : Prop :=
  ∀ (c : Instr) (s : State), ∃ t, exec c s = .next t ∧ t.pending = s.pending

/-- O4. Outside a reset, its end and the judging of a load, no command changes the plan, the station number, the number of rows
or the reset in progress. -/
def Obligations.PlanAndNumberStay : Prop :=
  ∀ (c : Instr) (s t : State), exec c s = .next t → c ≠ .powerOnReset → c ≠ .pinReset → (∀ p n, c ≠ .resetEnd p n) →
    (∀ m, c ≠ .loadAttemptComplete m) →
      t.plan = s.plan ∧ t.number = s.number ∧ t.table.length = s.table.length ∧ t.inReset = s.inReset

/-! ### Invariants -/

/-- O5. The term of a row never falls while the row stays learnt. -/
def Obligations.TermsNeverFall : Prop :=
  ∀ (c : Instr) (s t : State) (k : Nat) (m n : Term), exec c s = .next t → (s.row k).term = some m →
    (t.row k).term = some n → m.toNat ≤ n.toNat

/-- O6. No pair is ever named in two rows, no row names one station twice, reclaim counts stay in 0 to 3. -/
def Obligations.TableNamesStayDistinct : Prop :=
  ∀ s t : State, tableOk s → step s = .next t → tableOk t

/-- O7. A gate is open only in the roles CARRIER, GIVER, TAKER and HOME; only a TAKER holds a giver trace. -/
def Obligations.GatesStayInTheirRoles : Prop :=
  ∀ s t : State, (∀ l, gateOk (s.lane l)) → step s = .next t → ∀ l, gateOk (t.lane l)

/-- O8. The send queue keeps its order and its limits. -/
def Obligations.SendQueueKeepsItsRules : Prop :=
  ∀ s t : State, queueOk s.link.queue → step s = .next t → queueOk t.link.queue

/-- O9. Lane buffers hold at most 32 records, giver traces at most 8 entries; the table has at most 20 rows. -/
def Obligations.BuffersStayBounded : Prop :=
  (∀ s t : State, (∀ l, boundsOk (s.lane l)) → step s = .next t → ∀ l, boundsOk (t.lane l))
    ∧ ∀ s t : State, s.table.length ≤ 20 → step s = .next t → t.table.length ≤ 20

/-- O10. The reset state meets the invariants, and nothing in it asserts ALERT. -/
def Obligations.ResetMeetsTheInvariants : Prop :=
  tableOk State.reset ∧ (∀ l, gateOk (State.reset.lane l)) ∧ queueOk State.reset.link.queue
    ∧ (∀ l, boundsOk (State.reset.lane l)) ∧ State.reset.table.length ≤ 20 ∧ State.reset.alert = false

/-! ### Frames as bytes -/

/-- O11. Every frame of a permitted length, sent and received intact, is read back as the same frame of the same sender. -/
def Obligations.FrameReadsBack : Prop :=
  ∀ (sender : BitVec 4) (f : Frame) (fresh : Bool), f.wf = true →
    receiveCheck { bytes := encodeFrame sender f, badStop := false, endless := false, fresh := fresh } = some (sender, f)

/-- O12. A frame that meets one of the failures of the receive check is not read. -/
def Obligations.DamagedFramesFail : Prop :=
  ∀ raw : RawFrame,
    (raw.badStop = true → receiveCheck raw = none)
    ∧ (raw.endless = true → receiveCheck raw = none)
    ∧ (raw.bytes.length < 4 → receiveCheck raw = none)
    ∧ (∀ h n rest, raw.bytes = h :: n :: rest →
        (13 ≤ h.toNat / 16 → receiveCheck raw = none)
        ∧ (rest.length ≠ n.toNat + 2 → receiveCheck raw = none)
        ∧ (wordBytes (checkSequence (h :: n :: rest.take n.toNat)) ≠ rest.drop n.toNat → receiveCheck raw = none))

/-- O13. Arbitration is lost exactly to a lower header, that is a lower kind code, and within one code a lower sender. -/
def Obligations.ArbitrationGoesToTheLowest : Prop :=
  (∀ (own : Byte) (rivals : List Byte), arbitrationLost own rivals = true ↔ ∃ r ∈ rivals, r.toNat < own.toNat)
    ∧ ∀ (a b : BitVec 4) (c d : Nat), c < 16 → d < 16 →
        ((headerByte a c).toNat < (headerByte b d).toNat ↔ c < d ∨ (c = d ∧ a.toNat < b.toNat))

/-! ### Resets and the plan -/

/-- O14. A plan that the load checks accept has every field in its range, one outlet a slot, and its home in its mask. -/
def Obligations.AcceptedPlanMeetsTheChecks : Prop :=
  ∀ (image : List Byte) (p : Plan), judgeImage image = some p →
    1 ≤ p.slots.length ∧ p.slots.length ≤ 20 ∧ image.length = 41 + 8 * p.slots.length
      ∧ (memByte image 4).toNat = p.slots.length
      ∧ p.digest = checkSequence (image.take (39 + 8 * p.slots.length))
      ∧ 16 ≤ p.drainCount ∧ p.drainCount ≤ 255
      ∧ (∀ r ∈ p.slots, 47000 ≤ r.freq ∧ r.freq ≤ 862000 ∧ 1 ≤ r.rank ∧ r.rank ≤ 4 ∧ r.outlet ≤ 19 ∧ r.mask ≠ 0#8
          ∧ r.mask.getLsbD r.home.val = true)
      ∧ p.slots.Pairwise fun a b => a.outlet ≠ b.outlet

/-- O15. A power-on reset returns every block to its reset values; a pin reset does the same with cause PIN and keeps the BARRED
cause. (The number between a reset and its sample, log 3, the place of the backplane cycle and the fields at rest for which no
value is stated, log 4, DEDUCED, and the reset values of the loader's answer, log 48, and of the lanes' tuners, log 49, are the
model's choice, DESIGN CHOICE where not marked.) -/
def Obligations.ResetsReturnTheResetValues : Prop :=
  ∀ s : State,
    exec .powerOnReset s = .next { State.reset with pending := s.pending }
    ∧ exec .pinReset s = .next { State.reset with pending := s.pending, resetCause := .pin, barredCause := s.barredCause }
    ∧ State.reset.mode = .loading ∧ State.reset.barredCause = .none ∧ State.reset.resetCause = .power
    ∧ State.reset.plan = none ∧ (∀ k, State.reset.row k = .unknown) ∧ AllIdle State.reset
    ∧ (∀ l, (State.reset.lane l).buffer = [] ∧ (State.reset.lane l).taker = none
        ∧ (State.reset.lane l).settings = .steady ∧ (State.reset.lane l).sync = Sync.reset)
    ∧ State.reset.link = Link.reset ∧ State.reset.sel = Selector.reset ∧ State.reset.clashBarred = []
    ∧ State.reset.echoPointer = 0

/-- O16. The end of a reset samples the station number and starts the loader, which places the bus clear on the port; a bus that
stays stuck through it is an attempt without an answer. (That RESET_END brings how the port answers the attempt is the model's
choice: log 48, DESIGN CHOICE.) -/
def Obligations.ResetEndSamplesTheNumber : Prop :=
  ∀ (s : State) (pins : BitVec 3) (a : PortAnswer), s.inReset = true →
    ∃ t, exec (.resetEnd pins a) s = .next t ∧ t.inReset = false ∧ t.number.val = pins.toNat
      ∧ t.mode = s.mode ∧ t.resetCause = s.resetCause ∧ SameRows s t
      ∧ (∀ x, (t.peer x).state = if x = t.number then .self else .absent)
      ∧ t.loader.port = portLines (busClear a.lowReads) ∧ t.loader.answer = a
      ∧ (a.lowReads ≤ 9 → t.loader.phase = .reading ∧ t.loader.attempts = 0 ∧ t.loader.pulses = a.lowReads)
      ∧ (10 ≤ a.lowReads → t.loader.phase = .waiting ∧ t.loader.attempts = 1 ∧ t.loader.wait = some 20)

/-- O17. An attempt without an answer is abandoned, with a stop condition where the port allows one, and repeated 20 ms later, at
most three attempts in all; after the third the station is BARRED with cause PLAN-BAD. So is one whose bus clear leaves CFGD low.
(That a clock hold allows no stop condition, log 10, DEDUCED, and that the command which starts an attempt brings how the port
answers it, log 48, DESIGN CHOICE, is the model's choice.) -/
def Obligations.UnansweredLoadIsRepeated : Prop :=
  ∀ s : State,
    let fails := fun (c : Instr) (port : List PortLines) =>
      (s.loader.attempts < 2 → ∃ t, exec c s = .next t ∧ t.loader.phase = .waiting ∧ t.loader.wait = some 20
        ∧ t.loader.attempts = s.loader.attempts + 1 ∧ t.loader.working = [] ∧ t.loader.port = port ∧ t.mode = s.mode
        ∧ t.plan = s.plan)
      ∧ (2 ≤ s.loader.attempts → ∃ t, exec c s = .next t ∧ t.loader.phase = .off ∧ t.loader.working = []
        ∧ t.loader.port = port ∧ BarredAfter s t .planBad)
    let abandoned := abandonedLines (attemptLines s.loader.pulses s.loader.answer.memory) s.loader.answer.moments
    (s.loader.phase = .reading →
      fails .loadNoAnswer (abandoned s.loader.answer.canStop) ∧ fails .clockHoldTimeout (abandoned false))
    ∧ (s.loader.phase = .waiting → ∀ a : PortAnswer,
        (a.lowReads ≤ 9 → exec (.loadRetryWaitExpiry a) s
          = .next { s with loader := { s.loader with
              phase := .reading, wait := none, pulses := a.lowReads, working := [],
              port := portLines (busClear a.lowReads), answer := a } })
        ∧ (10 ≤ a.lowReads → fails (.loadRetryWaitExpiry a) (portLines (busClear a.lowReads))))

/-- O18. A completed read, which has placed the whole attempt on the port, is judged: a valid image moves into the store and the
station enters JOINING, any other leaves the store as it was and the station BARRED with cause PLAN-BAD. -/
def Obligations.CompletedLoadIsJudged : Prop :=
  ∀ (s : State) (memory : List Byte), s.loader.phase = .reading →
    (∀ p, judgeImage (readImage memory) = some p →
      ∃ t, exec (.loadAttemptComplete memory) s = .next t ∧ t.plan = some p ∧ t.mode = .joining
        ∧ t.resetCause = s.resetCause ∧ t.table.length = p.slots.length ∧ (∀ k, t.row k = .unknown) ∧ AllIdle t
        ∧ t.loader.phase = .off ∧ t.loader.port = attemptLines s.loader.pulses memory
        ∧ t.joinQuiet = some 1000 ∧ t.rollTimer = some 250 ∧ t.number = s.number
        ∧ (t.peer s.number).digest = some p.digest)
    ∧ (judgeImage (readImage memory) = none →
      ∃ t, exec (.loadAttemptComplete memory) s = .next t ∧ t.loader.phase = .off
        ∧ t.loader.port = attemptLines s.loader.pulses memory ∧ BarredAfter s t .planBad)

/-! ### The station link -/

/-- O19. On an idle line the first frame of the queue goes onto the line with the contents of that moment; a loss in the header
changes nothing, and on a line that is not idle nothing starts. A ROLL carries one more than the last completed roll number. (That
the line is idle once it has been found idle since the reset and no own frame is on it is the model's choice, log 9.) -/
def Obligations.SendingStartsWithTheFirstFrame : Prop :=
  ∀ (s : State) (rivals : List Byte) (e : QEntry) (rest : List QEntry),
    s.mode.onLink = true → s.link.queue = e :: rest →
      (s.lineFound = true → s.link.onAir = none →
        arbitrationLost (headerByte s.sender (QFrame.code e.frame)) rivals = false →
        exec (.frameSendStart rivals) s
          = .next { s with link := { s.link with
              queue := { e with onLine := true } :: rest, onAir := some (s.contents e.frame) } })
      ∧ (s.lineFound = true → s.link.onAir = none →
        arbitrationLost (headerByte s.sender (QFrame.code e.frame)) rivals = true →
        exec (.frameSendStart rivals) s = .next s)
      ∧ (s.lineFound = false ∨ s.link.onAir.isSome = true → exec (.frameSendStart rivals) s = .next s)
      ∧ s.contents .roll = .roll s.rollBody ∧ s.rollBody.number = s.link.lastRoll + 1#8
      ∧ s.contents .report = .report s.reportBody ∧ ∀ f, s.contents (.fixed f) = f

/-- O20. A station that meets another node under its own number is BARRED with cause DUPLICATE: while it sends, or at a good frame
with its number, after it has driven seen. -/
def Obligations.DuplicateNumberBars : Prop :=
  ∀ s : State,
    (s.link.onAir.isSome = true → ∃ t, exec .duplicateSendMismatch s = .next t ∧ BarredAfter s t .duplicate)
    ∧ (s.mode.onLink = true → s.link.onAir = none →
        ∃ t, exec (.frameOwnNumberReceived true) s = .next t ∧ BarredAfter s t .duplicate ∧ t.link.ack = .seen)

/-- O21. A foreign frame that fails the check is spoiled, unless the station is ISOLATED or the frame never ended, and raises the
bad-receive streak; at 8 the station is ISOLATED. A frame that passed and was spoiled by another node changes the streak alone,
and at an ISOLATED station ends ISOLATED. (That BAD_RECEIVE_STREAK_LIMIT is the whole failed frame, and that FRAME_CHECK_FAILED
reaches the limit too, is the model's choice: log 5, DEDUCED.) -/
def Obligations.ForeignFramesThatDoNotComplete : Prop :=
  (∀ (s : State) (raw : RawFrame), s.mode.onLink = true → raw.fresh = true → receiveCheck raw = none →
    (s.link.badRx < 7 ∨ s.mode = .isolated → exec (.frameCheckFailed raw) s = .next { s with link := { s.link with
      ack := if raw.endless = true ∨ s.mode = .isolated then .none else .spoil, badRx := satInc 8 s.link.badRx } })
    ∧ (7 ≤ s.link.badRx → s.mode ≠ .isolated → ∃ t, exec (.badReceiveStreakLimit raw) s = .next t
      ∧ exec (.frameCheckFailed raw) s = .next t ∧ IsolatedAfter s t ∧ t.link.badRx = 8))
  ∧ (∀ (s : State) (sender : BitVec 4), sender ≠ s.sender →
    (s.mode.appliesFrames = true →
      exec (.frameSpoiled sender true) s = .next { s with link := { s.link with ack := .seen, badRx := 0 } })
    ∧ (s.mode = .isolated → ∃ t, exec (.frameSpoiled sender true) s = .next t ∧ JoiningAfter s t .isolationEnd))

/-- O22. A spoiled own frame stays in its place and raises the spoil streak; at 8 the station is MUTE. (That SPOIL_STREAK_LIMIT is
the whole OWN_FRAME_SPOILED at the limit is the model's choice: log 5, DEDUCED.) -/
def Obligations.SpoiledOwnFrameStaysQueued : Prop :=
  ∀ s : State, s.link.onAir.isSome = true →
    (s.link.spoil < 7 → ∃ t, exec .ownFrameSpoiled s = .next t ∧ t.link.spoil = s.link.spoil + 1 ∧ t.link.onAir = none
      ∧ t.link.queue = s.link.queue.map (fun e => { e with onLine := false }) ∧ t.link.owed = s.link.owed
      ∧ t.link.unseen = s.link.unseen ∧ t.link.badRx = s.link.badRx ∧ t.link.lastRoll = s.link.lastRoll
      ∧ t = { s with link := t.link })
    ∧ (7 ≤ s.link.spoil → ∃ t, exec .spoilStreakLimit s = .next t ∧ exec .ownFrameSpoiled s = .next t ∧ MuteAfter s t)

/-- O23. An own frame that completes unseen with a PRESENT peer is applied by no block and raises the unseen streak; at 8 the
station is ISOLATED. (That UNSEEN_STREAK_LIMIT is the whole OWN_FRAME_VOID at the limit is the model's choice: log 5, DEDUCED.) -/
def Obligations.UnseenOwnFrameIsVoid : Prop :=
  ∀ s : State, s.link.onAir.isSome = true → s.presentPeer = true → s.mode.appliesFrames = true →
    (s.link.unseen < 7 → ∃ t, exec .ownFrameVoid s = .next t ∧ t.link.unseen = s.link.unseen + 1 ∧ t.link.spoil = 0
      ∧ t.link.onAir = none ∧ SameRows s t ∧ t.dir = s.dir ∧ t.link.lastRoll = s.link.lastRoll
      ∧ t.echoPointer = s.echoPointer ∧ t.sel = s.sel ∧ t.joinMark = s.joinMark)
    ∧ (7 ≤ s.link.unseen → ∃ t, exec .unseenStreakLimit s = .next t ∧ exec .ownFrameVoid s = .next t
      ∧ IsolatedAfter s t)

/-! ### Frames that change the table -/

/-- O24. A QUIET is accepted when the subject's record is PRESENT and holds its roll number; the subject then becomes SILENT and is
removed from every row. Any other QUIET about another station is stale. -/
def Obligations.QuietRemovesItsSubject : Prop :=
  ∀ (s : State) (rx : Rx) (subject roll : Byte) (x y : Station), Applies s rx (.quiet subject roll) x →
    stationOf subject = some y → y ≠ s.number →
    ∃ t, exec (.quiet rx subject roll) s = .next t
      ∧ ((s.peer y).state = .present ∧ (s.peer y).lastRoll = some roll →
          (∀ k, t.row k = removed y (s.row k))
          ∧ (x ≠ y → t.peer y = { s.peer y with state := .silent, staleTimer := none, staleMark := false }))
      ∧ (¬((s.peer y).state = .present ∧ (s.peer y).lastRoll = some roll) →
          SameRows s t ∧ (x ≠ y → t.peer y = s.peer y))

/-- O25. A QUIET about this station with its last completed roll number takes it to JOINING with cause QUIETED; with any other
number it changes no row and no cause. -/
def Obligations.QuietAboutSelfRejoins : Prop :=
  ∀ (s : State) (rx : Rx) (roll : Byte) (x : Station), x ≠ s.number →
    Applies s rx (.quiet (byteOf s.number.val) roll) x →
    ∃ t, exec (.quietAboutSelf rx roll) s = .next t
      ∧ (roll = s.link.lastRoll → JoiningAfter s t .quieted)
      ∧ (roll ≠ s.link.lastRoll → SameRows s t ∧ t.resetCause = s.resetCause)

/-- O26. A CEDE is accepted when its term is the row's and its sender and lane are what the row names in its role; the carrier or
the standby then leaves the row, and a for-slot row that is OPEN below count 3 counts the reclaim. (That the for-slot row is read
after the CEDE's own change, so that a row opened by a CEDE for itself counts 1, is the model's choice: log 37, DESIGN CHOICE.) Any
other CEDE, or one for a for-slot that does not exist, changes no row. A cut makes this station's STANDBY or TAKER lane CARRIER with
its gate open, or cedes it again in RESTING; at term 65535 the lane is released instead. A lane that gave up STANDBY or TAKER
before takes no role from a cut: its queued CEDE gives way to one for CARRIER at the new term. (That its reason is RESTING at a
RESTING station where the row was SWAPPING, and LOST in any other case, is the model's choice: log 30, DEDUCED.) The own CEDE with
reason RECLAIMED, accepted or ignored, takes the HELD lane from its slot: it starts a RECLAIM trial where the for-slot row is OPEN
and the claim unit active, else it is released. -/
def Obligations.CedeLeavesTheRow : Prop :=
  ∀ (s : State) (rx : Rx) (slot lane : Byte) (term : Term) (reason : CedeReason) (x : Station),
    let known := ∀ fs, reason = .reclaimed fs → fs.toNat < s.slotCount
    let counted := fun (j : Nat) (r : Row) => match reason with
      | .reclaimed fs => if j = fs.toNat then reclaimCounted r else r
      | _ => r
    let heldLane := fun t : State => ∀ l fs role, x = s.number → reason = .reclaimed fs → laneOf lane = some l →
      (s.lane l).mark = .held fs.toNat role → (s.lane l).ctx = .none →
      (s.claimActive = true → (t.row fs.toNat).isOpen = true →
          (t.lane l).role = .trial ∧ (t.lane l).mark = .reclaim ∧ (t.lane l).slot = some fs.toNat
          ∧ (t.lane l).state = .tune ∧ (t.lane l).stateTimer = some 20 ∧ (t.lane l).gate = false
          ∧ (t.lane l).buffer = [] ∧ (t.lane l).retryCount = 0 ∧ TunedTo s fs.toNat (t.lane l))
        ∧ (s.claimActive = false ∨ (t.row fs.toNat).isOpen = false → Released (t.lane l))
    (Applies s rx (.cede slot 0#8 term lane reason) x →
      ∃ t, exec (.cedeCarrier rx slot term lane reason) s = .next t
        ∧ (∀ l, known → laneOf lane = some l → (s.row slot.toNat).term = some term →
            (s.row slot.toNat).carrier = some ⟨x, l⟩ →
            ∀ j, t.row j = counted j (if j = slot.toNat then carrierLeft (s.row j) else s.row j))
        ∧ (∀ l sb, known → laneOf lane = some l → (s.row slot.toNat).term = some term →
            (s.row slot.toNat).carrier = some ⟨x, l⟩ → (s.row slot.toNat).standby = some sb → x ≠ s.number →
            sb.station = s.number → (s.lane sb.lane).standsBy slot.toNat = true → (s.lane sb.lane).mark.isHeld = false →
            (s.mode = .joined → term ≠ 0xFFFF#16 →
              (t.lane sb.lane).role = .carrier ∧ (t.lane sb.lane).gate = true ∧ (t.lane sb.lane).slot = some slot.toNat
              ∧ (t.lane sb.lane).buffer = (s.lane sb.lane).buffer ∧ (t.lane sb.lane).ctx = .none
              ∧ (t.lane sb.lane).taker = none)
            ∧ (s.mode = .resting → term ≠ 0xFFFF#16 →
              (t.lane sb.lane).role = .free ∧ (t.lane sb.lane).gate = false ∧ (t.lane sb.lane).slot = none
              ∧ t.link.heldFrame (· == .cede slot 0#8 (term + 1#16) (byteOf sb.lane.val) .resting) = true)
            ∧ (s.mode.holdsRoles = true → term = 0xFFFF#16 → Released (t.lane sb.lane)))
        ∧ (∀ l sb, known → laneOf lane = some l → (s.row slot.toNat).term = some term →
            (s.row slot.toNat).carrier = some ⟨x, l⟩ → (s.row slot.toNat).standby = some sb → x ≠ s.number →
            sb.station = s.number → (s.lane sb.lane).standsBy slot.toNat = false → (s.lane sb.lane).mark.isHeld = false →
            s.mode.holdsRoles = true → term ≠ 0xFFFF#16 →
            t.link.heldFrame (· == .cede slot 0#8 (term + 1#16) (byteOf sb.lane.val)
                (if (s.row slot.toNat).isSwapping = true then s.swapReason else .lost)) = true
            ∧ (∀ e ∈ t.link.queue, e.onLine = false → ∀ r,
                e.frame ≠ .fixed (.cede slot 1#8 term (byteOf sb.lane.val) r))
            ∧ ((s.lane sb.lane).role = .free → (s.lane sb.lane).gate = false →
                (t.lane sb.lane).role ≠ .carrier ∧ (t.lane sb.lane).gate = false))
        ∧ heldLane t
        ∧ (¬known ∨ (s.row slot.toNat).term ≠ some term
            ∨ (∀ l, laneOf lane = some l → (s.row slot.toNat).carrier ≠ some ⟨x, l⟩) → SameRows s t))
    ∧ (Applies s rx (.cede slot 1#8 term lane reason) x →
      ∃ t, exec (.cedeStandby rx slot term lane reason) s = .next t
        ∧ (∀ l, known → laneOf lane = some l → (s.row slot.toNat).term = some term →
            (s.row slot.toNat).standby = some ⟨x, l⟩ →
            ∀ j, t.row j = counted j (if j = slot.toNat then standbyLeft (s.row j) else s.row j))
        ∧ heldLane t
        ∧ (¬known ∨ (s.row slot.toNat).term ≠ some term
            ∨ (∀ l, laneOf lane = some l → (s.row slot.toNat).standby ≠ some ⟨x, l⟩) → SameRows s t))

/-- O27. R9: when a BID with role CARRIER is accepted, what the row becomes, and that any other is ignored. A station that has yet
to learn a row applies no BID: the BID's row returns to UNKNOWN (R11). -/
def Obligations.CarrierBidIsAccepted : Prop :=
  ∀ (s : State) (rx : Rx) (slot lane margin : Byte) (term : Term) (x : Station),
    Applies s rx (.bid slot 0#8 term lane margin) x →
    (TakesBids s → ∃ u, exec (.bidCarrier rx slot term lane margin) s = .next u ∧ SameRowsBut slot.toNat s u
      ∧ (∀ l t lc n, laneOf lane = some l → s.row slot.toNat = .opened t lc n → term.toNat = t.toNat + 1 →
          ((s.peer x).state = .present ∨ x = s.number) → (s.peer x).mode = some .joined → s.inMask slot.toNat x = true →
          (∀ j, (s.row j).names ⟨x, l⟩ = false) →
          u.row slot.toNat = .carried term ⟨x, l⟩ none lc ∧ (u.loc slot.toNat).bidClock = none
            ∧ (u.loc slot.toNat).reclaimWait = none ∧ (u.loc slot.toNat).tried = false)
      ∧ ((∀ l, laneOf lane = some l → ¬(∃ t lc n, s.row slot.toNat = .opened t lc n ∧ term.toNat = t.toNat + 1)
            ∨ ¬((s.peer x).state = .present ∨ x = s.number) ∨ (s.peer x).mode ≠ some .joined
            ∨ s.inMask slot.toNat x = false ∨ (∃ j, (s.row j).names ⟨x, l⟩ = true)) →
          u.row slot.toNat = s.row slot.toNat))
    ∧ (¬TakesBids s → ∃ u, exec (.bidCarrier rx slot term lane margin) s = .next u ∧ SameRowsBut slot.toNat s u
      ∧ u.row slot.toNat = if lane.toNat < 4 then .unknown else s.row slot.toNat)

/-- O28. R10: when a BID with role STANDBY is accepted, what the row becomes, and that any other is ignored. A station that has yet
to learn a row applies no BID: the BID's row returns to UNKNOWN (R11). -/
def Obligations.StandbyBidIsAccepted : Prop :=
  ∀ (s : State) (rx : Rx) (slot lane margin : Byte) (term : Term) (x : Station),
    Applies s rx (.bid slot 1#8 term lane margin) x →
    (TakesBids s → ∃ u, exec (.bidStandby rx slot term lane margin) s = .next u ∧ SameRowsBut slot.toNat s u
      ∧ (∀ l c lc, laneOf lane = some l → s.row slot.toNat = .carried term c none lc →
          s.standbyWanted slot.toNat = true → x ≠ c.station → s.inMask slot.toNat x = true →
          ((s.peer x).state = .present ∨ x = s.number) → (s.peer x).mode = some .joined →
          (∀ j, (s.row j).names ⟨x, l⟩ = false) →
          u.row slot.toNat = .carried term c (some ⟨x, l⟩) lc)
      ∧ ((∀ l, laneOf lane = some l → ¬(∃ c lc, s.row slot.toNat = .carried term c none lc ∧ x ≠ c.station)
            ∨ s.standbyWanted slot.toNat = false ∨ s.inMask slot.toNat x = false
            ∨ ¬((s.peer x).state = .present ∨ x = s.number) ∨ (s.peer x).mode ≠ some .joined
            ∨ (∃ j, (s.row j).names ⟨x, l⟩ = true)) →
          u.row slot.toNat = s.row slot.toNat))
    ∧ (¬TakesBids s → ∃ u, exec (.bidStandby rx slot term lane margin) s = .next u ∧ SameRowsBut slot.toNat s u
      ∧ u.row slot.toNat = if lane.toNat < 4 then .unknown else s.row slot.toNat)

/-- O29. An accepted BID of this station gives its trial lane the role: a CARRIER opens its gate, a STANDBY keeps it closed; the
lane keeps its binding and its retry count. An ignored BID releases the lane. A lane that has stopped the trial while the BID was on
the line takes no role: an accepted BID hands a CEDE for the role to the queue, at the row's term, with reason RESTING at a RESTING
station and LOST otherwise; a lane in RETRY-WAIT or SPENT stays as it is. Whatever its lane has become, an ignored carrier BID adds
the slot to the tried set where its row is still OPEN, and an ignored standby BID sets the standby-tried mark of a row that is
CARRIED without a standby at the BID's term. This holds for every claim mark, LATE trials among them. (That an ignored BID of a LATE
carrier trial adds its slot to the tried set, and that an ignored BID releases no lane that has stopped the trial, is the model's
choice: logs 26 and 39, DEDUCED.) -/
def Obligations.OwnBidGivesItsLaneTheRole : Prop :=
  ∀ (s : State) (rx : Rx) (slot margin : Byte) (term : Term) (l : LaneId), s.mode.holdsRoles = true →
    let holdsTrial := s.mode = .joined ∧ (s.lane l).role = .trial ∧ (s.lane l).slot = some slot.toNat ∧ (s.lane l).ctx = .none
    let cedes := fun (u : State) (role : Byte) =>
      u.link.heldFrame (· == .cede slot role term (byteOf l.val) s.swapReason) = true
      ∧ ((s.lane l).role = .free → (s.lane l).gate = false →
          (u.lane l).role ≠ .carrier ∧ (u.lane l).role ≠ .standby ∧ (u.lane l).gate = false)
    (Applies s rx (.bid slot 0#8 term (byteOf l.val) margin) s.number →
      ∃ u, exec (.bidCarrier rx slot term (byteOf l.val) margin) s = .next u
        ∧ (holdsTrial → (s.lane l).mark ∈ [.ordinary, .reclaim, .late false] →
            (s.bidAccepted s.number l slot.toNat term = true →
              (u.lane l).role = .carrier ∧ (u.lane l).gate = true ∧ (u.lane l).mark = .none
              ∧ (u.lane l).slot = some slot.toNat ∧ (u.lane l).retryCount = (s.lane l).retryCount)
            ∧ (s.bidAccepted s.number l slot.toNat term = false → Released (u.lane l)
              ∧ ((s.row slot.toNat).isOpen = true → (u.lane l).slot ≠ some slot.toNat)))
        ∧ ((s.lane l).tries slot.toNat .carrier = false →
            (Settled (s.lane l) → u.lane l = s.lane l)
            ∧ (s.bidAccepted s.number l slot.toNat term = true → (s.lane l).mark.isHeld = false → cedes u 0#8))
        ∧ (s.bidAccepted s.number l slot.toNat term = false →
            ((s.row slot.toNat).isOpen = true → (u.loc slot.toNat).tried = true)
            ∧ ((s.row slot.toNat).isOpen = false → (u.loc slot.toNat).tried = (s.loc slot.toNat).tried)))
    ∧ (Applies s rx (.bid slot 1#8 term (byteOf l.val) margin) s.number →
      ∃ u, exec (.bidStandby rx slot term (byteOf l.val) margin) s = .next u
        ∧ (holdsTrial → (∃ t, (s.lane l).mark = .standby t) ∨ (s.lane l).mark = .late true →
            (s.standbyBidAccepted s.number l slot.toNat term = true →
              (u.lane l).role = .standby ∧ (u.lane l).gate = false ∧ (u.lane l).mark = .none
              ∧ (u.lane l).slot = some slot.toNat ∧ (u.lane l).retryCount = (s.lane l).retryCount)
            ∧ (s.standbyBidAccepted s.number l slot.toNat term = false → Released (u.lane l)))
        ∧ ((s.lane l).tries slot.toNat .standby = false →
            (Settled (s.lane l) → u.lane l = s.lane l)
            ∧ (s.standbyBidAccepted s.number l slot.toNat term = true → (s.lane l).mark.isHeld = false → cedes u 1#8))
        ∧ (s.standbyBidAccepted s.number l slot.toNat term = false →
            ((∃ c lc, s.row slot.toNat = .carried term c none lc) → (u.loc slot.toNat).standbyTried = true)
            ∧ (¬(∃ c lc, s.row slot.toNat = .carried term c none lc) →
                (u.loc slot.toNat).standbyTried = (s.loc slot.toNat).standbyTried)))

/-- O30. SWAP-OFFER is accepted from the carrier's station on a CARRIED row with a standby at the row's term: the row becomes
SWAPPING in phase OFFERED and this station's STANDBY lane a TAKER. SWAP-READY from the standby's station moves OFFERED to READY,
puts the giver's context in stage GOING and hands SWAP-GO with the plan's drain count to the queue. Any other is ignored. -/
def Obligations.SwapOfferAndReady : Prop :=
  ∀ (s : State) (rx : Rx) (slot : Byte) (term : Term) (x : Station),
    (Applies s rx (.swapOffer slot term) x →
      ∃ u, exec (.swapOffer rx slot term) s = .next u ∧ SameRowsBut slot.toNat s u
        ∧ (∀ c sb lc, s.row slot.toNat = .carried term c (some sb) lc → c.station = x →
            u.row slot.toNat = .swapping term c sb lc .offered
            ∧ (sb.station = s.number → s.mode.holdsRoles = true → (s.lane sb.lane).role = .standby →
                (s.lane sb.lane).slot = some slot.toNat → (s.lane sb.lane).mark.isHeld = false →
                (u.lane sb.lane).role = .taker ∧ (u.lane sb.lane).ctx = .taker slot.toNat term .seeking (some 2000)
                ∧ (u.lane sb.lane).taker = some { trace := [], aligned := false, feeding := true }
                ∧ (u.lane sb.lane).buffer = (s.lane sb.lane).buffer ∧ (u.lane sb.lane).gate = (s.lane sb.lane).gate))
        ∧ (¬(∃ c sb lc, s.row slot.toNat = .carried term c (some sb) lc ∧ c.station = x) →
            u.row slot.toNat = s.row slot.toNat))
    ∧ (Applies s rx (.swapReady slot term) x →
      ∃ u, exec (.swapReady rx slot term) s = .next u ∧ SameRowsBut slot.toNat s u
        ∧ (∀ c sb lc, s.row slot.toNat = .swapping term c sb lc .offered → sb.station = x →
            u.row slot.toNat = .swapping term c sb lc .ready
            ∧ (∀ a b, c.station = s.number → (s.lane c.lane).ctx = .giver slot.toNat term .offering a b →
                (s.lane c.lane).mark.isHeld = false →
                (u.lane c.lane).ctx = .giver slot.toNat term .going 0 0
                ∧ ((s.lane c.lane).role = .carrier → (s.lane c.lane).slot = some slot.toNat →
                    NoSwapBeside s slot c.lane → s.table.length ≤ 20 →
                    u.link.heldFrame (· == .swapGo slot term (byteOf s.drainCount)) = true)))
        ∧ (¬(∃ c sb lc, s.row slot.toNat = .swapping term c sb lc .offered ∧ sb.station = x) →
            u.row slot.toNat = s.row slot.toNat))

/-- O31. SWAP-GO with a drain count of at least 16 moves the phase from READY to DRAINING with hold CLEAR, makes the carrier's
lane a GIVER whose countdown starts, and the stage of the taker's lane DRAINING: a READIED taker, and one whose align timer has run
out with its SWAP-DROP not on the line. An UNALIGNED taker then sends SWAP-HOLD(SET), or makes its rough cut where it has the entry
marked LAST. SWAP-HOLD from the standby's station sets or clears the hold of a DRAINING row. Any other is ignored. -/
def Obligations.SwapGoAndHold : Prop :=
  ∀ (s : State) (rx : Rx) (slot a : Byte) (term : Term) (x : Station),
    (Applies s rx (.swapGo slot term a) x →
      ∃ u, exec (.swapGo rx slot term a) s = .next u ∧ SameRowsBut slot.toNat s u
        ∧ (∀ c sb lc, s.row slot.toNat = .swapping term c sb lc .ready → c.station = x → 16 ≤ a.toNat →
            u.row slot.toNat = .swapping term c sb lc (.draining false a.toNat)
            ∧ (c.station = s.number → sb.station ≠ s.number → (s.lane c.lane).role = .carrier →
                (s.lane c.lane).slot = some slot.toNat → (s.lane c.lane).ctx.isGiver slot.toNat = true →
                (s.lane c.lane).mark.isHeld = false →
                (u.lane c.lane).role = .giver ∧ (u.lane c.lane).gate = (s.lane c.lane).gate
                ∧ (u.lane c.lane).ctx = .giver slot.toNat term .draining a.toNat 0)
            ∧ (∀ st al tk, sb.station = s.number → c.station ≠ s.number → (s.lane sb.lane).role = .taker →
                (s.lane sb.lane).slot = some slot.toNat → (s.lane sb.lane).mark.isHeld = false →
                (s.lane sb.lane).ctx = .taker slot.toNat term st al → (s.lane sb.lane).taker = some tk →
                NoSwapBeside s slot sb.lane → s.table.length ≤ 20 →
                s.link.heldFrame (isHoldFrame slot.toNat) = false →
                let late := tk.aligned = false ∧ tk.trace.any (·.last) = true
                (st = .dropping .alignTimeout → s.link.onLineFrame (isDropFrame slot.toNat) = true →
                    (u.lane sb.lane).ctx = (s.lane sb.lane).ctx)
                ∧ (st = .readied ∨ st = .dropping .alignTimeout ∧ s.link.onLineFrame (isDropFrame slot.toNat) = false →
                    (st = .dropping .alignTimeout → u.link.heldFrame (isDropFrame slot.toNat) = false)
                    ∧ (¬late → (u.lane sb.lane).ctx = .taker slot.toNat term .draining none
                        ∧ (u.lane sb.lane).taker = some tk ∧ (u.lane sb.lane).gate = (s.lane sb.lane).gate
                        ∧ u.link.heldFrame (· == .swapHold slot term 1#8) = !tk.aligned
                        ∧ u.link.heldFrame (· == .swapHold slot term 0#8) = false)
                    ∧ (late → (u.lane sb.lane).ctx = .taker slot.toNat term .opened none
                        ∧ (u.lane sb.lane).taker = some { trace := [], aligned := false, feeding := false }
                        ∧ (u.lane sb.lane).gate = true
                        ∧ u.link.heldFrame (· == .swapDone slot (term + 1#16) (byteOf sb.lane.val)) = true))))
        ∧ (¬(∃ c sb lc, s.row slot.toNat = .swapping term c sb lc .ready ∧ c.station = x ∧ 16 ≤ a.toNat) →
            u.row slot.toNat = s.row slot.toNat))
    ∧ (Applies s rx (.swapHold slot term a) x →
      ∃ u, exec (.swapHold rx slot term a) s = .next u ∧ SameRowsBut slot.toNat s u
        ∧ (∀ c sb lc h dc, s.row slot.toNat = .swapping term c sb lc (.draining h dc) → sb.station = x →
            (a = 1#8 → u.row slot.toNat = .swapping term c sb lc (.draining true dc))
            ∧ (a = 0#8 → u.row slot.toNat = .swapping term c sb lc (.draining false dc)))
        ∧ (¬(∃ c sb lc h dc, s.row slot.toNat = .swapping term c sb lc (.draining h dc) ∧ sb.station = x
              ∧ (a = 0#8 ∨ a = 1#8)) →
            u.row slot.toNat = s.row slot.toNat))

/-- O32. SWAP-DONE from the standby's station for its lane, at one more than the term of a DRAINING row, exchanges carrier and
standby. In JOINED the taker's lane becomes CARRIER with its gate as it is, the giver's lane STANDBY with its gate closed; in
RESTING the new carrier offers the swap back, or cedes at term 65535, and the new standby cedes. A lane that gave up its role
before takes none, and a CEDE for it is handed over. Any other is ignored. -/
def Obligations.SwapDoneExchangesTheRoles : Prop :=
  ∀ (s : State) (rx : Rx) (slot lane : Byte) (newTerm : Term) (x : Station),
    Applies s rx (.swapDone slot newTerm lane) x →
    ∃ u, exec (.swapDone rx slot newTerm lane) s = .next u ∧ SameRowsBut slot.toNat s u
      ∧ (∀ t c sb lc h dc, s.row slot.toNat = .swapping t c sb lc (.draining h dc) → sb.station = x →
          laneOf lane = some sb.lane → newTerm.toNat = t.toNat + 1 →
          u.row slot.toNat = .carried newTerm sb (some c) (some c.station)
          ∧ (s.mode = .joined → sb.station = s.number → c.station ≠ s.number → (s.lane sb.lane).role = .taker →
              (s.lane sb.lane).slot = some slot.toNat → (s.lane sb.lane).mark.isHeld = false →
              (u.lane sb.lane).role = .carrier ∧ (u.lane sb.lane).gate = (s.lane sb.lane).gate
              ∧ (u.lane sb.lane).ctx = .none ∧ (u.lane sb.lane).taker = none
              ∧ (u.lane sb.lane).retryCount = (s.lane sb.lane).retryCount)
          ∧ (s.mode = .joined → c.station = s.number → sb.station ≠ s.number → (s.lane c.lane).role = .giver →
              (s.lane c.lane).slot = some slot.toNat → (s.lane c.lane).mark.isHeld = false →
              (u.lane c.lane).role = .standby ∧ (u.lane c.lane).gate = false ∧ (u.lane c.lane).ctx = .none
              ∧ (u.lane c.lane).buffer = (s.lane c.lane).buffer)
          ∧ (s.mode = .resting → sb.station = s.number → c.station ≠ s.number → (s.lane sb.lane).role = .taker →
              (s.lane sb.lane).slot = some slot.toNat → (s.lane sb.lane).mark.isHeld = false →
              (newTerm ≠ 0xFFFF#16 → NoSwapBeside s slot sb.lane → s.table.length ≤ 20 →
                (u.lane sb.lane).role = .carrier ∧ (u.lane sb.lane).gate = (s.lane sb.lane).gate
                ∧ (u.lane sb.lane).ctx = .giver slot.toNat newTerm .offering 0 0
                ∧ u.link.heldFrame (· == .swapOffer slot newTerm) = true)
              ∧ (newTerm = 0xFFFF#16 → GaveUp (u.lane sb.lane)
                ∧ u.link.heldFrame (· == .cede slot 0#8 newTerm (byteOf sb.lane.val) .resting) = true))
          ∧ (s.mode = .resting → c.station = s.number → sb.station ≠ s.number → (s.lane c.lane).role = .giver →
              (s.lane c.lane).slot = some slot.toNat → (s.lane c.lane).mark.isHeld = false → GaveUp (u.lane c.lane)
              ∧ u.link.heldFrame (· == .cede slot 1#8 newTerm (byteOf c.lane.val) .resting) = true)
          ∧ (s.mode.holdsRoles = true → sb.station = s.number → c.station ≠ s.number →
              ((s.lane sb.lane).role ≠ .taker ∨ (s.lane sb.lane).slot ≠ some slot.toNat) →
              (s.lane sb.lane).mark.isHeld = false →
              u.link.heldFrame (· == .cede slot 0#8 newTerm (byteOf sb.lane.val) s.swapReason) = true
              ∧ ((s.lane sb.lane).role = .free → (s.lane sb.lane).gate = false →
                  (u.lane sb.lane).role ≠ .carrier ∧ (u.lane sb.lane).gate = false))
          ∧ (s.mode.holdsRoles = true → c.station = s.number → sb.station ≠ s.number →
              ((s.lane c.lane).role ≠ .giver ∨ (s.lane c.lane).slot ≠ some slot.toNat) →
              (s.lane c.lane).mark.isHeld = false →
              u.link.heldFrame (· == .cede slot 1#8 newTerm (byteOf c.lane.val) s.swapReason) = true
              ∧ ((s.lane c.lane).role = .free → (u.lane c.lane).role ≠ .standby)))
      ∧ (¬(∃ t c sb lc h dc, s.row slot.toNat = .swapping t c sb lc (.draining h dc) ∧ sb.station = x
            ∧ laneOf lane = some sb.lane ∧ newTerm.toNat = t.toNat + 1) →
          u.row slot.toNat = s.row slot.toNat)

/-- O33. SWAP-DROP from either station of a SWAPPING row at its term returns it to CARRIED; TAKER-LOST and DIRECTED remove the
standby. In JOINED the giver's lane is CARRIER with its gate open, and the lane of a kept taker STANDBY with its gate closed; in
RESTING both give up their roles and cede. A lane that gave up its role before takes none, and a CEDE for it is handed over. Any
other is ignored. -/
def Obligations.SwapDropReturnsTheRow : Prop :=
  ∀ (s : State) (rx : Rx) (slot reason : Byte) (term : Term) (x : Station), Applies s rx (.swapDrop slot term reason) x →
    ∃ u, exec (.swapDrop rx slot term reason) s = .next u ∧ SameRowsBut slot.toNat s u
      ∧ (∀ c sb lc p, s.row slot.toNat = .swapping term c sb lc p → c.station = x ∨ sb.station = x →
          (reason = 1#8 ∨ reason = 3#8 → u.row slot.toNat = .carried term c none lc)
          ∧ (reason = 0#8 ∨ reason = 2#8 → u.row slot.toNat = .carried term c (some sb) lc)
          ∧ (s.mode = .joined → reason.toNat < 4 → c.station = s.number → sb.station ≠ s.number →
              (s.lane c.lane).carries slot.toNat = true → (s.lane c.lane).mark.isHeld = false →
              (u.lane c.lane).role = .carrier ∧ (u.lane c.lane).gate = true ∧ (u.lane c.lane).ctx = .none)
          ∧ (s.mode = .joined → reason = 0#8 ∨ reason = 2#8 → sb.station = s.number → c.station ≠ s.number →
              (s.lane sb.lane).role = .taker → (s.lane sb.lane).slot = some slot.toNat →
              (s.lane sb.lane).mark.isHeld = false →
              (u.lane sb.lane).role = .standby ∧ (u.lane sb.lane).gate = false ∧ (u.lane sb.lane).taker = none
              ∧ (u.lane sb.lane).ctx = .none ∧ (u.lane sb.lane).buffer = (s.lane sb.lane).buffer)
          ∧ (s.mode = .resting → reason.toNat < 4 → c.station = s.number → sb.station ≠ s.number →
              (s.lane c.lane).carries slot.toNat = true → (s.lane c.lane).mark.isHeld = false → GaveUp (u.lane c.lane)
              ∧ u.link.heldFrame (· == .cede slot 0#8 term (byteOf c.lane.val) .resting) = true)
          ∧ (s.mode = .resting → reason = 0#8 ∨ reason = 2#8 → sb.station = s.number → c.station ≠ s.number →
              (s.lane sb.lane).role = .taker → (s.lane sb.lane).slot = some slot.toNat →
              (s.lane sb.lane).mark.isHeld = false → GaveUp (u.lane sb.lane)
              ∧ u.link.heldFrame (· == .cede slot 1#8 term (byteOf sb.lane.val) .resting) = true)
          ∧ (s.mode.holdsRoles = true → reason.toNat < 4 → c.station = s.number → sb.station ≠ s.number →
              (s.lane c.lane).carries slot.toNat = false → (s.lane c.lane).mark.isHeld = false →
              u.link.heldFrame (· == .cede slot 0#8 term (byteOf c.lane.val) s.swapReason) = true
              ∧ ((s.lane c.lane).role = .free → (s.lane c.lane).gate = false →
                  (u.lane c.lane).role ≠ .carrier ∧ (u.lane c.lane).gate = false))
          ∧ (s.mode.holdsRoles = true → reason = 0#8 ∨ reason = 2#8 → sb.station = s.number → c.station ≠ s.number →
              ((s.lane sb.lane).role ≠ .taker ∨ (s.lane sb.lane).slot ≠ some slot.toNat) →
              (s.lane sb.lane).mark.isHeld = false →
              u.link.heldFrame (· == .cede slot 1#8 term (byteOf sb.lane.val) s.swapReason) = true
              ∧ ((s.lane sb.lane).role = .free → (u.lane sb.lane).role ≠ .standby)))
      ∧ (¬(∃ c sb lc p, s.row slot.toNat = .swapping term c sb lc p ∧ (c.station = x ∨ sb.station = x)
            ∧ reason.toNat < 4) →
          u.row slot.toNat = s.row slot.toNat)

/-- O34. A foreign ROLL sets its sender's record, PRESENT at an equal digest and ALIEN at another; a sender in JOINING or ISOLATED
is removed from every row, whatever its record. A ROLL that ends ISOLATED sets the record and nothing else of it acts. The
station's own ROLL, seen or with no PRESENT peer, sets the last completed roll number, the SELF record and the echo pointer; of
mode JOINING it sets the join mark and removes the station from every row; the station then is JOINED if no row is UNKNOWN; the
first of mode JOINED activates the claim unit. (That an own ROLL which was on the line at the entry into the present mode, as one
of mode JOINING at a JOINED station, is applied and counted is the model's choice: log 42, DESIGN CHOICE.) -/
def Obligations.RollSetsTheSendersRecord : Prop :=
  (∀ (s : State) (rx : Rx) (b : RollBody) (x : Station), Hears s rx → rx.sender = BitVec.ofNat 4 x.val →
    ∃ t, exec (.roll rx b) s = .next t
      ∧ t.peer x = { state := if b.digest = s.digest then .present else .alien, mode := some b.mode,
                     lastRoll := some b.number, digest := some b.digest, lanes := some b.lanes,
                     staleTimer := if b.digest = s.digest then some 750 else none, staleMark := false }
      ∧ (∀ y, y ≠ x → t.peer y = s.peer y)
      ∧ (b.mode = .joining ∨ b.mode = .isolated → ∀ k, t.row k = removed x (s.row k))
      ∧ (b.mode = .joined ∨ b.mode = .resting → b.digest ≠ s.digest → SameRows s t))
  ∧ (∀ (s : State) (rx : Rx) (b : RollBody) (x : Station), s.mode = .isolated → rx.fresh = true → x ≠ s.number →
    rx.sender = BitVec.ofNat 4 x.val → ∃ t, exec (.roll rx b) s = .next t ∧ JoiningAfter s t .isolationEnd
      ∧ t.sel = s.sel ∧ t.peer x = rollHeard s.digest b)
  ∧ (∀ (s : State) (rx : Rx) (b : RollBody), s.mode.onLink = true → OwnCompletes s rx (.roll b) →
    ∃ t, exec (.roll rx b) s = .next t ∧ t.link.lastRoll = b.number ∧ t.link.onAir = none ∧ t.link.spoil = 0
      ∧ t.link.unseen = (if rx.seen = true then 0 else s.link.unseen)
      ∧ t.peer s.number
        = { s.peer s.number with mode := some b.mode, lastRoll := some b.number, lanes := some b.lanes }
      ∧ (∀ y, y ≠ s.number → t.peer y = s.peer y)
      ∧ (s.slotCount ≠ 0 → t.echoPointer = (s.echoPointer + b.echoes.length) % s.slotCount)
      ∧ (b.mode = .joining → s.mode ≠ .isolated → ∀ k, t.row k = removed s.number (s.row k))
      ∧ (b.mode ≠ .joining → SameRows s t)
      ∧ t.joinMark = (s.joinMark || (b.mode == .joining && s.mode == .joining))
      ∧ (s.mode ≠ .joining → t.mode = s.mode)
      ∧ (s.mode = .joining → t.mode
          = if t.joinMark = true ∧ s.table.all (fun e => !e.row.isUnknown) = true then .joined else .joining)
      ∧ (s.mode = .joined → b.mode = .joined → t.claimActive = true)
      ∧ (s.mode = .joined → b.mode = .joined → (s.peer s.number).mode ≠ some .joined → ∀ k, k < s.table.length →
          (t.loc k).standbyTried = false
          ∧ ((s.row k).isOpen = true → (t.loc k).bidClock = some 0 ∧ (t.loc k).reclaimWait = some 3000)
          ∧ ((s.row k).lacksStandby = true → s.standbyWanted k = true → (t.loc k).standbyClock = some 0)))

/-- O35. Of a ROLL with an equal digest and mode JOINED or RESTING: an echo that passes its tests fills a row still UNKNOWN,
replaces a row of lower term, or one of equal term that names a lost peer which the echo does not name, unless it names a pair
that another row names or one station twice; any other echo is not adopted. Two echoes of one slot are neither adopted; of two
echoes of different slots the first is taken before the second is judged (the order is the model's choice, log 38). -/
def Obligations.EchoesAreAdopted : Prop :=
  ∀ (s : State) (rx : Rx) (b : RollBody) (x : Station), Hears s rx → rx.sender = BitVec.ofNat 4 x.val →
    b.mode = .joined ∨ b.mode = .resting → b.digest = s.digest → s.table.length = s.slotCount →
    ∃ u, exec (.roll rx b) s = .next u
      ∧ (∀ e, b.echoes = [e] → echoTaken s e s.row u.row)
      ∧ (∀ e f, b.echoes = [e, f] →
          (e.slot = f.slot → SameRows s u)
          ∧ (e.slot ≠ f.slot → ∃ between, echoTaken s e s.row between ∧ echoTaken s f between u.row))

/-- O36. R7: QUIET, CEDE, BID and the swap frames change no row when their sender is an attendant or an ALIEN station. -/
def Obligations.AttendantsAndAliensChangeNoRow : Prop :=
  ∀ (s : State) (rx : Rx), Hears s rx →
    (senderStation rx.sender = none ∨ ∃ x, senderStation rx.sender = some x ∧ (s.peer x).state = .alien) →
    ∀ (slot lane a b : Byte) (t : Term) (r : CedeReason),
      ∀ c ∈ [Instr.quiet rx a b, .cedeCarrier rx slot t lane r, .cedeStandby rx slot t lane r,
          .bidCarrier rx slot t lane a, .bidStandby rx slot t lane a, .swapOffer rx slot t, .swapReady rx slot t,
          .swapGo rx slot t a, .swapHold rx slot t a, .swapDone rx slot t lane, .swapDrop rx slot t a],
        ∃ u, exec c s = .next u ∧ SameRows s u

/-- O37. What the carriage frames of another station leave alone: the plan, the selector, the backplane port, the loader, the
causes, the roll number, the echo pointer, the spoil and unseen streaks, and every directory record but the sender's. The sender's
record becomes or stays PRESENT with its stale timer restarted, and an ALIEN one stays as it is; so it does after the frame that
ends ISOLATED, of which nothing else acts. -/
def Obligations.CarriageFramesLeaveTheOtherBlocks : Prop :=
  (∀ (s : State) (rx : Rx) (x : Station), x ≠ s.number → rx.sender = BitVec.ofNat 4 x.val → Hears s rx →
    ∀ (slot lane a : Byte) (t : Term) (r : CedeReason),
      ∀ c ∈ [Instr.cedeCarrier rx slot t lane r, .cedeStandby rx slot t lane r,
          .bidCarrier rx slot t lane a, .bidStandby rx slot t lane a, .swapOffer rx slot t, .swapReady rx slot t,
          .swapGo rx slot t a, .swapHold rx slot t a, .swapDone rx slot t lane, .swapDrop rx slot t a],
        ∃ u, exec c s = .next u ∧ u.plan = s.plan ∧ u.sel = s.sel ∧ u.bp = s.bp ∧ u.loader = s.loader
          ∧ u.number = s.number ∧ u.barredCause = s.barredCause ∧ u.resetCause = s.resetCause
          ∧ u.clashBarred = s.clashBarred ∧ u.echoPointer = s.echoPointer ∧ u.muteRest = s.muteRest
          ∧ u.link.lastRoll = s.link.lastRoll ∧ u.link.spoil = s.link.spoil ∧ u.link.unseen = s.link.unseen
          ∧ u.link.onAir = s.link.onAir ∧ u.link.ack = .seen ∧ u.link.badRx = 0 ∧ u.pending = s.pending
          ∧ u.peer x = heardFrom (s.peer x) ∧ ∀ y, y ≠ x → u.peer y = s.peer y)
  ∧ (∀ (s : State) (rx : Rx), s.mode = .isolated → rx.fresh = true → rx.sender ≠ s.sender →
    ∀ (slot lane a b : Byte) (t : Term) (r : CedeReason) (body : ReportBody),
      ∀ c ∈ [Instr.quiet rx a b, .cedeCarrier rx slot t lane r, .cedeStandby rx slot t lane r,
          .bidCarrier rx slot t lane a, .bidStandby rx slot t lane a, .swapOffer rx slot t, .swapReady rx slot t,
          .swapGo rx slot t a, .swapHold rx slot t a, .swapDone rx slot t lane, .swapDrop rx slot t a,
          .query rx slot a b, .report rx body, .directiveClear rx slot a, .directiveYield rx slot a,
          .directiveSwap rx slot a, .directiveRest rx slot a, .directiveResume rx slot a],
        ∃ u, exec c s = .next u ∧ JoiningAfter s u .isolationEnd ∧ u.sel = s.sel ∧ u.link.ack = .seen
          ∧ ∀ x, x ≠ s.number → rx.sender = BitVec.ofNat 4 x.val →
              u.peer x = { heardFrom (s.peer x) with staleMark := false })

/-! ### The report selector -/

/-- O38. A QUERY for this station with a defined kind and an index in that kind's range becomes the selection; any other sets the
refused flag and keeps the selection; either requests a REPORT, which stands in the queue where there is room for it, or is noted
while a REPORT is on the line. A QUERY for another station and any REPORT change no selection. Either frame makes its sender's
record PRESENT with its stale timer restarted, and leaves an ALIEN one as it is. -/
def Obligations.QuerySelectsTheRecord : Prop :=
  ∀ (s : State) (rx : Rx), Hears s rx →
    (∀ target kind index : Byte,
      let valid := kind = 0#8 ∧ index = 0#8 ∨ kind = 1#8 ∧ index.toNat < 4 ∨ kind = 2#8 ∧ index.toNat < s.slotCount
        ∨ kind = 3#8 ∧ index.toNat < 8 ∨ kind = 4#8 ∧ index.toNat < s.slotCount
      ∃ t, exec (.query rx target kind index) s = .next t ∧ SameRows s t
        ∧ (target.toNat = s.number.val → valid → recordKindOf kind = some t.sel.kind ∧ t.sel.index = index.toNat
            ∧ t.sel.refused = false ∧ t.sel.outcome = s.sel.outcome)
        ∧ (target.toNat = s.number.val → ¬valid → t.sel = { s.sel with refused := true })
        ∧ (target.toNat ≠ s.number.val → t.sel = s.sel)
        ∧ (target.toNat = s.number.val → Undisturbed s →
            (s.link.holds .report false = true → t.link.holds .report false = true)
            ∧ (s.link.holds .report false = false → s.link.holds .report true = true → t.link.notedReport = true)
            ∧ (s.link.holds .report true = false → s.link.queue.length < 8 → t.link.holds .report false = true))
        ∧ (∀ x, rx.sender = BitVec.ofNat 4 x.val → t.peer x = heardFrom (s.peer x))
        ∧ ∀ y, rx.sender ≠ BitVec.ofNat 4 y.val → t.peer y = s.peer y)
    ∧ (∀ body : ReportBody, ∃ t, exec (.report rx body) s = .next t ∧ SameRows s t ∧ t.sel = s.sel
        ∧ (∀ x, rx.sender = BitVec.ofNat 4 x.val → t.peer x = heardFrom (s.peer x))
        ∧ ∀ y, rx.sender ≠ BitVec.ofNat 4 y.val → t.peer y = s.peer y)

/-- O39. CLEAR of a lane clears its retry count, and a SPENT lane leaves SPENT, in JOINED and RESTING; a lane above 3 is
UNKNOWN-ACTION. -/
def Obligations.DirectiveClear : Prop :=
  ∀ (s : State) (rx : Rx) (target argument : Byte), Hears s rx → target.toNat = s.number.val →
    s.mode = .joined ∨ s.mode = .resting →
    ∃ t, exec (.directiveClear rx target argument) s = .next t ∧ SameRows s t
      ∧ t.sel = { s.sel with outcome := if argument.toNat < 4 then .done else .unknownAction }
      ∧ ∀ l, laneOf argument = some l →
          (t.lane l).retryCount = 0 ∧ (t.lane l).state ≠ .spent
          ∧ ((s.lane l).state ≠ .spent → Settled (s.lane l) → t.lane l = { s.lane l with retryCount := 0 })

/-- O40. R199: how YIELD is judged in JOINED, and that on DONE the lane gives up its role and a CEDE with reason YIELDED is handed
to the queue. A named lane that does not hold the role is REFUSED-BUSY while its CEDE is queued or on the line, else REFUSED-STATE.
(That a CEDE which the queue discarded before joins again after the judging is the model's choice: log 45, DESIGN CHOICE.) -/
def Obligations.DirectiveYield : Prop :=
  ∀ (s : State) (rx : Rx) (target argument : Byte), Hears s rx → target.toNat = s.number.val → s.mode = .joined →
    ∃ t, exec (.directiveYield rx target argument) s = .next t ∧ SameRows s t
      ∧ t.sel = { s.sel with outcome := t.sel.outcome }
      ∧ (s.slotCount ≤ argument.toNat → t.sel.outcome = .unknownSlot)
      ∧ (argument.toNat < s.slotCount →
          ((s.row argument.toNat).isSwapping = true → t.sel.outcome = .refusedBusy)
          ∧ (∀ n c sb lc, s.row argument.toNat = .carried n c sb lc →
              (c.station = s.number → (s.lane c.lane).carries argument.toNat = false → t.sel.outcome =
                  if s.link.queued (isCedeOf argument.toNat c.lane) = true then .refusedBusy else .refusedState)
              ∧ (c.station = s.number → (s.lane c.lane).carries argument.toNat = true →
                  t.sel.outcome = .done ∧ (t.lane c.lane).role ≠ .carrier ∧ (t.lane c.lane).gate = false
                  ∧ t.link.heldFrame (· == .cede argument 0#8 n (byteOf c.lane.val) .yielded) = true)
              ∧ (∀ p, sb = some p → c.station ≠ s.number → p.station = s.number →
                  ((s.lane p.lane).standsBy argument.toNat = false → t.sel.outcome =
                      if s.link.queued (isCedeOf argument.toNat p.lane) = true then .refusedBusy else .refusedState)
                  ∧ ((s.lane p.lane).standsBy argument.toNat = true →
                      t.sel.outcome = .done ∧ (t.lane p.lane).role ≠ .standby ∧ (t.lane p.lane).gate = false
                      ∧ t.link.heldFrame (· == .cede argument 1#8 n (byteOf p.lane.val) .yielded) = true))
              ∧ (c.station ≠ s.number → (∀ p, sb = some p → p.station ≠ s.number) → t.sel.outcome = .refusedState))
          ∧ ((s.row argument.toNat).isOpen = true → t.sel.outcome = .refusedState))

/-- O41. R200: how SWAP is judged in JOINED, and that it opens a GIVER context in stage OFFERING and hands SWAP-OFFER at the row's
term to the queue where the lane has none and no other lane is in a swap. A named lane that does not hold CARRIER is REFUSED-BUSY
while its CEDE is queued or on the line; else the later lines judge it. (That a CEDE which the queue discarded before joins again
after the judging, and that DONE brings no SWAP-OFFER for a lane that does not hold CARRIER, is the model's choice: log 45, DESIGN
CHOICE.) -/
def Obligations.DirectiveSwap : Prop :=
  ∀ (s : State) (rx : Rx) (target argument : Byte), Hears s rx → target.toNat = s.number.val → s.mode = .joined →
    ∃ t, exec (.directiveSwap rx target argument) s = .next t ∧ SameRows s t
      ∧ t.sel = { s.sel with outcome := t.sel.outcome }
      ∧ (s.slotCount ≤ argument.toNat → t.sel.outcome = .unknownSlot)
      ∧ (argument.toNat < s.slotCount →
          ((s.row argument.toNat).isSwapping = true → t.sel.outcome = .refusedBusy)
          ∧ (∀ n c sb lc, s.row argument.toNat = .carried n c sb lc →
              (c.station ≠ s.number → t.sel.outcome = .refusedState)
              ∧ (c.station = s.number → (s.lane c.lane).carries argument.toNat = false →
                  s.link.queued (isCedeOf argument.toNat c.lane) = true → t.sel.outcome = .refusedBusy)
              ∧ (c.station = s.number → (s.lane c.lane).carries argument.toNat = true
                    ∨ s.link.queued (isCedeOf argument.toNat c.lane) = false → sb = none ∨ n = 0xFFFF#16 →
                  t.sel.outcome = .refusedState)
              ∧ (c.station = s.number → (s.lane c.lane).carries argument.toNat = true
                    ∨ s.link.queued (isCedeOf argument.toNat c.lane) = false → sb.isSome = true →
                  n ≠ 0xFFFF#16 → t.sel.outcome = .done
                  ∧ ((s.lane c.lane).role = .carrier → (s.lane c.lane).slot = some argument.toNat →
                      (s.lane c.lane).ctx = .none → (s.lane c.lane).mark.isHeld = false →
                      (∀ m, m ≠ c.lane → (s.lane m).ctx = .none) →
                      (t.lane c.lane).ctx = .giver argument.toNat n .offering 0 0
                      ∧ (t.lane c.lane).role = .carrier ∧ (t.lane c.lane).gate = (s.lane c.lane).gate
                      ∧ t.link.heldFrame (· == .swapOffer argument n) = true)))
          ∧ ((s.row argument.toNat).isOpen = true → t.sel.outcome = .refusedState))

/-- O42. REST in JOINED makes the station RESTING, releases its trials and makes its STANDBY lanes and its CARRIER lanes without a
standby give up their roles; RESUME in RESTING takes it back to JOINED once its SELF record shows RESTING, and is refused
before. (That it is refused also while SELF shows a mode other than RESTING and JOINED is the model's choice: log 43, DESIGN
CHOICE.) -/
def Obligations.DirectiveRestAndResume : Prop :=
  ∀ (s : State) (rx : Rx) (target argument : Byte), Hears s rx → target.toNat = s.number.val →
    (s.mode = .joined → ∃ t, exec (.directiveRest rx target argument) s = .next t ∧ SameRows s t ∧ t.mode = .resting
      ∧ t.sel = { s.sel with outcome := .done } ∧ t.rollTimer = some 250
      ∧ ∀ l, (s.lane l).mark.isHeld = false →
          ((s.lane l).role = .trial → (t.lane l).role = .free ∧ (t.lane l).slot = none ∧ (t.lane l).state = .idle)
          ∧ (∀ k, (s.lane l).role = .standby → (s.lane l).slot = some k → (t.lane l).role = .free
              ∧ (t.lane l).slot = none ∧ (t.lane l).state = .idle ∧ (t.lane l).gate = false)
          ∧ (∀ k, (s.lane l).role = .carrier → (s.lane l).slot = some k → (s.lane l).ctx = .none →
              (s.row k).standby = none ∨ s.termOf k = 0xFFFF#16 →
              (t.lane l).role = .free ∧ (t.lane l).slot = none ∧ (t.lane l).state = .idle ∧ (t.lane l).gate = false))
    ∧ (s.mode = .resting → ∃ t, exec (.directiveResume rx target argument) s = .next t ∧ SameRows s t
      ∧ ((s.peer s.number).mode = some .resting →
          t.mode = .joined ∧ t.sel = { s.sel with outcome := .done } ∧ t.rollTimer = some 250)
      ∧ ((s.peer s.number).mode ≠ some .resting →
          t.mode = .resting ∧ t.sel = { s.sel with outcome := .refusedBusy }))

/-- O43. An action that is none of the five is UNKNOWN-ACTION in every mode in which a directive is taken; an action not judged in
the station's mode is REFUSED-STATE. Neither changes a row. -/
def Obligations.DirectivesAreJudged : Prop :=
  ∀ (s : State) (rx : Rx) (target action argument : Byte), Hears s rx → target.toNat = s.number.val →
    (5 ≤ action.toNat → ∃ t, exec (.directiveUnknownAction rx target action argument) s = .next t ∧ SameRows s t
      ∧ t.sel = { s.sel with outcome := .unknownAction })
    ∧ (∀ c ∈ (if s.mode = .joining then
          [Instr.directiveClear rx target argument, .directiveYield rx target argument, .directiveSwap rx target argument,
            .directiveRest rx target argument, .directiveResume rx target argument]
        else if s.mode = .resting then
          [.directiveYield rx target argument, .directiveSwap rx target argument, .directiveRest rx target argument]
        else [.directiveResume rx target argument]),
        ∃ t, exec c s = .next t ∧ SameRows s t ∧ t.sel = { s.sel with outcome := .refusedState })

/-! ### Timers -/

/-- O44. The roll timer requests a ROLL and restarts; the mute rest ends in JOINING with cause MUTE-END; the join quiet timer
makes every row still UNKNOWN OPEN at term 0, and takes a station with its join mark set to JOINED. -/
def Obligations.RollMuteAndJoinTimers : Prop :=
  ∀ s : State,
    (s.rollTimer.isSome = true →
      exec .rollTimerExpiry s = .next { s with link := s.link.requestRoll, rollTimer := some 250 })
    ∧ (s.muteRest.isSome = true → ∃ t, exec .muteRestExpiry s = .next t ∧ JoiningAfter s t .muteEnd)
    ∧ (s.joinQuiet.isSome = true → s.mode = .joining → ∃ t, exec .joinQuietExpiry s = .next t ∧ t.joinQuiet = none
      ∧ (∀ k, k < s.table.length →
          t.row k = if s.row k = .unknown then .opened 0#16 none 0 else s.row k)
      ∧ t.mode = if s.joinMark = true then .joined else .joining)

/-- O45. A peer not heard for its stale time becomes ABSENT where no roll number of it is held; otherwise its record is marked
stale, and a JOINED station hands a QUIET with that number to its queue. -/
def Obligations.StaleTimerMarksOrForgets : Prop :=
  ∀ (s : State) (x : Station), (s.peer x).staleTimer.isSome = true →
    ∃ t, exec (.staleTimerExpiry x) s = .next t ∧ SameRows s t ∧ (∀ y, y ≠ x → t.peer y = s.peer y)
      ∧ ((s.peer x).lastRoll = none → t.peer x
          = { s.peer x with state := .absent, mode := none, digest := none, lanes := none, staleTimer := none })
      ∧ (∀ n, (s.peer x).lastRoll = some n → t.peer x = { s.peer x with staleTimer := none, staleMark := true }
          ∧ (s.mode = .joined → (s.peer x).state = .present →
              t.link.heldFrame (· == .quiet (byteOf x.val) n) = true))

/-- O46. A row that falls due alone, with a lane available, has a lane bound for an ordinary trial in TUNE with its gate closed; so
has a row due for a standby trial when no row is OPEN. The lane's tuner is set to the slot's centre frequency and bandwidth. -/
def Obligations.BidClocksBindTrials : Prop :=
  ∀ (s : State) (k p : Nat), s.claimActive = true → (∃ l, (s.lane l).available = true) → s.slotBound k = false →
    ((s.row k).isOpen = true → (∀ j, j ≠ k → (s.row j).isOpen = false) → (s.loc k).place = some p →
        s.placeNow k = some p → (s.loc k).bidClock.isSome = true → (s.loc k).tried = false → s.termOf k ≠ 0xFFFF#16 →
        (∀ l r, (s.lane l).mark ≠ .held k r) →
      ∃ t, exec (.bidClockDue k) s = .next t ∧ SameRows s t ∧ ∃ l,
        (t.lane l).role = .trial ∧ (t.lane l).slot = some k ∧ (t.lane l).state = .tune ∧ (t.lane l).mark = .ordinary
        ∧ (t.lane l).gate = false ∧ (t.lane l).buffer = [] ∧ (t.lane l).stateTimer = some 20 ∧ TunedTo s k (t.lane l))
    ∧ ((s.row k).lacksStandby = true → (∀ j, (s.row j).isOpen = false) →
        (∀ j, j ≠ k → (s.row j).lacksStandby = false) → s.standbyWanted k = true →
        (s.loc k).standbyPlace = some p → s.standbyPlaceNow k = some p → (s.loc k).standbyClock.isSome = true →
        (s.loc k).standbyTried = false →
      ∃ t, exec (.standbyBidClockDue k) s = .next t ∧ SameRows s t ∧ ∃ l,
        (t.lane l).role = .trial ∧ (t.lane l).slot = some k ∧ (t.lane l).state = .tune
        ∧ (t.lane l).mark = .standby (s.termOf k) ∧ (t.lane l).gate = false ∧ (t.lane l).stateTimer = some 20
        ∧ TunedTo s k (t.lane l))

/-- O47. The reclaim-wait timer restarts at its expiry; where the station's own lane is the victim of the OPEN row (a standby
before a carrier of a higher rank number, a pinned carrier only where nothing but pinned carriers is left at its station; the
highest rank number first, then the highest slot), the lane gives up its role, is HELD for the row, keeps its binding and state,
and its CEDE with reason RECLAIMED is queued. Where no own lane is the victim, none is newly HELD. -/
def Obligations.ReclaimWaitTakesTheVictim : Prop :=
  ∀ (s : State) (k : Nat), (s.loc k).reclaimWait.isSome = true →
    ∃ t, exec (.reclaimWaitExpiry k) s = .next t ∧ SameRows s t ∧ (t.loc k).reclaimWait = some 3000
      ∧ (∀ n lc m j l role, s.row k = .opened n lc m → m < 3 → s.claimActive = true →
          isVictim s k j ⟨s.number, l⟩ role → (s.lane l).plays j role = true →
          (∀ i, (s.lane i).mark.isHeld = false) → s.link.queue.length < 8 →
          (t.lane l).mark = .held k role ∧ (t.lane l).role = .free ∧ (t.lane l).gate = false
          ∧ (t.lane l).slot = some j ∧ (t.lane l).state = (s.lane l).state
          ∧ t.link.queued (· == .cede (byteOf j) (CarriageRole.byte role) (s.termOf j) (byteOf l.val)
              (.reclaimed (byteOf k))) = true)
      ∧ ((∀ j l role, ¬isVictim s k j ⟨s.number, l⟩ role) → ∀ l, (t.lane l).mark.isHeld = true →
          (t.lane l).mark = (s.lane l).mark)

/-- O48. The align timer of a taker in SEEKING or READIED makes it hand over SWAP-DROP with reason ALIGN-TIMEOUT and puts it in
stage DROPPING; only its context, and the link, change. -/
def Obligations.AlignTimerDropsTheSwap : Prop :=
  ∀ (s : State) (l : LaneId) (k a : Nat) (term : Term) (st : TakerStage),
    (s.lane l).ctx = .taker k term st (some a) → st = .seeking ∨ st = .readied →
    ∃ t, exec (.alignTimerExpiry l) s = .next t
      ∧ t.lanes = (s.setLane l { s.lane l with ctx := .taker k term (.dropping .alignTimeout) none }).lanes
      ∧ t = { s with lanes := t.lanes, link := t.link }
      ∧ t.link.heldFrame (· == .swapDrop (byteOf k) term 0#8) = true
      ∧ ∀ e ∈ t.link.queue, e.onLine = false → ∀ r, e.frame = .fixed (.swapReady (byteOf k) r) → False

/-! ### Lanes -/

/-- O49. The tuning time ends in ACQ1, detection of the guard structure in ACQ2, each with the window of its profile; a minute of
lock clears the retry count. Nothing but the lane changes. -/
def Obligations.TuneGuardAndLockMinute : Prop :=
  (∀ (s : State) (l : LaneId),
    ((s.lane l).state = .tune → exec (.tuneTimeEnd l) s = .next (s.setLane l { s.lane l with
        state := .acq1, stateTimer := some (stageWindow (s.profile (s.lane l).slot) .acq1), periodClock := some 100,
        periodErrors := 0 }))
    ∧ ((s.lane l).state = .acq1 → exec (.guardDetected l) s = .next (s.setLane l { s.lane l with
        state := .acq2, stateTimer := some (stageWindow (s.profile (s.lane l).slot) .acq2) }))
    ∧ ((s.lane l).state = .locked → (s.lane l).lockClock.isSome = true →
        exec (.lockClock60s l) s = .next (s.setLane l { s.lane l with retryCount := 0, lockClock := none })))
  ∧ [stageWindow .fixed .acq1, stageWindow .fixed .acq2, stageWindow .fixed .acq3] = [100, 200, 300]
  ∧ [stageWindow .sfn .acq1, stageWindow .sfn .acq2, stageWindow .sfn .acq3] = [200, 400, 400]

/-- O50. The expiry of the stage window the lane is in: a LATE trial and a HOME lane are lost as bound lanes and wait for a
retry or are SPENT; a first attempt of any other trial on A of an EITHER slot is followed by one on B, its tuner set to the
slot again, where the trial still stands; any other such trial fails, and its slot joins the tried set or its row's
standby-tried mark is set. -/
def Obligations.StageWindowExpiryFails : Prop :=
  ∀ (s : State) (l : LaneId) (st : AcqStage), (s.lane l).inStage st = true →
    ∃ t, exec (.stageWindowExpiry l st) s = .next t ∧ SameRows s t
      ∧ ((s.lane l).ctx = .none →
          ((s.lane l).role = .trial ∧ (∃ b, (s.lane l).mark = .late b)
            ∨ (s.lane l).role = .home ∧ (s.lane l).mark = .none) → afterLoss s.retryMode (s.lane l) (t.lane l))
      ∧ ((s.lane l).role = .trial → s.mode.holdsRoles = true → (∀ b, (s.lane l).mark ≠ .late b) →
          (s.slotInput (s.lane l).slot = .either → (s.lane l).input = .a → TrialStands s l → (s.lane l).ctx = .none →
            (s.lane l).mark.isHeld = false →
            (t.lane l).state = .tune ∧ (t.lane l).input = .b ∧ (t.lane l).stateTimer = some 20
            ∧ (t.lane l).role = .trial ∧ (t.lane l).slot = (s.lane l).slot ∧ (t.lane l).mark = (s.lane l).mark
            ∧ (t.lane l).gate = (s.lane l).gate ∧ (∀ k, (s.lane l).slot = some k → TunedTo s k (t.lane l))
            ∧ ∀ k, (t.loc k).tried = (s.loc k).tried ∧ (t.loc k).standbyTried = (s.loc k).standbyTried)
          ∧ (∀ k, (s.lane l).slot = some k → (s.slotInput (some k) ≠ .either ∨ (s.lane l).input = .b) →
              ((∀ n, (s.lane l).mark ≠ .standby n) → (s.row k).isOpen = true →
                (t.loc k).tried = true ∧ (t.lane l).slot ≠ some k)
              ∧ ((∃ n, (s.lane l).mark = .standby n) → k < s.table.length → (t.loc k).standbyTried = true)))

/-- O51. At a period close the margin, 0 in ACQ1, and the residual count of the period replace the lane's, and a new period
begins. In ACQ2 the threshold passes the lane to ACQ3; in LOCKED a first low period is counted and a second in succession leads to
HOLDOVER; in HOLDOVER a period at the floor qualifies the lane and a lower one withdraws that; a CARRIER's quality streak counts
poor periods. The close that brings the steady run to 30 restores the STEADY settings. This holds for a lane whose trial, HELD
mark or swap its rows still allow. (That STEADY_RUN_COMPLETE is the whole period close, log 5, DEDUCED, the running count that the
close moves into the residual count, log 27, DEDUCED, the hit counter that a second qualifying period keeps, log 31, DEDUCED, and
the clash streak of a giver that closed in the period, log 55, DESIGN CHOICE, are the model's choice.) -/
def Obligations.QualityPeriodCloses : Prop :=
  (∀ (s : State) (l : LaneId) (m : Nat), (s.lane l).state.sampled = true →
    TrialStands s l → HeldStands s l → SwapStands s l →
    (s.lane l).clashLimit = false → s.triggersAt l m = false →
    let p := s.profile (s.lane l).slot
    let low := min m 63 < lockFloor p (s.lane l).settings
    ∃ t, exec (.qualityPeriodClose l m) s = .next t ∧ SameRows s t ∧ t.dir = s.dir
      ∧ (t.lane l).margin = (if (s.lane l).state = .acq1 then 0 else min m 63)
      ∧ (t.lane l).residual = (s.lane l).periodErrors ∧ (t.lane l).periodErrors = 0
      ∧ (t.lane l).periodClock = some 100 ∧ (t.lane l).clashSeen = false
      ∧ (t.lane l).clashStreak = (if (s.lane l).clashSeen = true then satInc 5 (s.lane l).clashStreak else 0)
      ∧ (t.lane l).role = (s.lane l).role ∧ (t.lane l).gate = (s.lane l).gate ∧ (t.lane l).buffer = (s.lane l).buffer
      ∧ (t.lane l).slot = (s.lane l).slot ∧ (t.lane l).mark = (s.lane l).mark
      ∧ (t.lane l).qualityStreak = (if (s.lane l).role = .carrier then
          (if (t.lane l).margin < swapFloor p ∨ (t.lane l).residual ≠ 0 then satInc 5 (s.lane l).qualityStreak else 0)
          else (s.lane l).qualityStreak)
      ∧ ((s.lane l).state = .acq1 ∨ (s.lane l).state = .acq3 →
          (t.lane l).state = (s.lane l).state ∧ (t.lane l).stateTimer = (s.lane l).stateTimer)
      ∧ ((s.lane l).state = .acq2 → if acq2Threshold p ≤ min m 63
          then (t.lane l).state = .acq3 ∧ (t.lane l).stateTimer = some (stageWindow p .acq3)
          else (t.lane l).state = .acq2 ∧ (t.lane l).stateTimer = (s.lane l).stateTimer)
      ∧ ((s.lane l).state = .locked → ¬low → (t.lane l).state = .locked ∧ (t.lane l).lowPeriods = 0
          ∧ (t.lane l).sync = (s.lane l).sync
          ∧ ((s.lane l).settings = .recovery → (s.lane l).steadyRun ≠ 29 → (t.lane l).settings = .recovery
              ∧ (t.lane l).steadyRun = if lockFloor p .steady + 2 ≤ min m 63 then (s.lane l).steadyRun + 1 else 0))
      ∧ ((s.lane l).state = .locked → low → (s.lane l).lowPeriods = 0 →
          (t.lane l).state = .locked ∧ (t.lane l).lowPeriods = 1 ∧ (t.lane l).settings = (s.lane l).settings
          ∧ (t.lane l).sync = (s.lane l).sync ∧ (t.lane l).steadyRun = 0)
      ∧ ((s.lane l).state = .locked → low → (s.lane l).lowPeriods ≠ 0 →
          (t.lane l).state = .holdover ∧ (t.lane l).settings = .recovery ∧ (t.lane l).sync = Sync.reset
          ∧ (t.lane l).lockClock = none ∧ (t.lane l).lowPeriods = 0 ∧ (t.lane l).steadyRun = 0
          ∧ (t.lane l).stateTimer = some (holdoverWindow p))
      ∧ ((s.lane l).state = .holdover → (t.lane l).state = .holdover
          ∧ (t.lane l).stateTimer = (s.lane l).stateTimer
          ∧ (t.lane l).sync = { (s.lane l).sync with
              qualified := decide (lockFloor p .recovery ≤ min m 63),
              hits := if lockFloor p .recovery ≤ min m 63 ∧ (s.lane l).sync.qualified = false then 0
                else (s.lane l).sync.hits })
      ∧ (s.steadyCompletes l m = true → exec (.steadyRunComplete l m) s = .next t
          ∧ (t.lane l).settings = .steady ∧ (t.lane l).steadyRun = 0 ∧ (t.lane l).state = .locked))
  ∧ [acq2Threshold .fixed, acq2Threshold .sfn] = [10, 8] ∧ [swapFloor .fixed, swapFloor .sfn] = [12, 10]
  ∧ [lockFloor .fixed .steady, lockFloor .sfn .steady] = [6, 4]
  ∧ [lockFloor .fixed .recovery, lockFloor .sfn .recovery] = [4, 2]
  ∧ [holdoverWindow .fixed, holdoverWindow .sfn] = [400, 800]

/-- O52. The hit that brings the counter to K locks a lane in ACQ3, and a qualified lane in HOLDOVER; a HOME lane then opens its
gate, a carrier trial on an OPEN row queues its BID at the row's term + 1 with the last margin, and a standby trial on a CARRIED row
without a standby its BID at the row's term. (That ACQ3_SYNC_LOCK and HOLDOVER_RETURN are the SYNC_HIT that reaches K is the model's
choice: log 5, DEDUCED.) -/
def Obligations.LanesLock : Prop :=
  ∀ (s : State) (l : LaneId) (pos : Nat), (s.lane l).sync.isHit pos = true →
    syncHitsK (s.profile (s.lane l).slot) ≤ (s.lane l).sync.hits + 1 →
    ((s.lane l).state = .acq3 → ∃ t, exec (.acq3SyncLock l pos) s = .next t ∧ exec (.syncHit l pos) s = .next t
      ∧ t = { s with lanes := t.lanes, link := t.link }
      ∧ (t.lane l).state = .locked ∧ (t.lane l).sync.synced = true ∧ (t.lane l).sync.boundary = some (pos + 188)
      ∧ (t.lane l).sync.misses = 0 ∧ (t.lane l).lockClock = some 0 ∧ (t.lane l).stateTimer = none
      ∧ (t.lane l).role = (s.lane l).role ∧ (t.lane l).settings = (s.lane l).settings
      ∧ ((s.lane l).role = .home → (t.lane l).gate = true)
      ∧ (∀ k, (s.lane l).role = .trial → (s.lane l).slot = some k → (s.lane l).mark.bidsCarrier = true →
          (s.row k).isOpen = true → s.link.queue.length < 8 →
          t.link.queued (· == .bid (byteOf k) 0#8 (s.termOf k + 1#16) (byteOf l.val) (byteOf (s.lane l).margin)) = true
          ∧ (t.lane l).gate = (s.lane l).gate)
      ∧ (∀ k, (s.lane l).role = .trial → (s.lane l).slot = some k → (s.lane l).mark.bidsStandby = true →
          (s.row k).lacksStandby = true → s.link.queue.length < 8 →
          t.link.queued (· == .bid (byteOf k) 1#8 (s.termOf k) (byteOf l.val) (byteOf (s.lane l).margin)) = true
          ∧ (t.lane l).gate = (s.lane l).gate))
    ∧ ((s.lane l).state = .holdover → (s.lane l).sync.qualified = true →
      ∃ t, exec (.holdoverReturn l pos) s = .next t ∧ exec (.syncHit l pos) s = .next t
      ∧ t = { s with lanes := t.lanes, link := t.link }
      ∧ (t.lane l).state = .locked ∧ (t.lane l).sync.synced = true ∧ (t.lane l).sync.qualified = false
      ∧ (t.lane l).lockClock = some 0 ∧ (t.lane l).settings = (s.lane l).settings
      ∧ (t.lane l).role = (s.lane l).role ∧ (t.lane l).buffer = (s.lane l).buffer)

/-- O53. While packet sync hunts a hit below K sets the boundary and counts, and a miss removes the boundary; while it is SYNCED a
miss below M is counted, and the Mth takes the lane to HOLDOVER with RECOVERY settings. Nothing but the lane changes. (That
SYNC_MISS_LIMIT is the whole SYNC_MISS at the limit is the model's choice: log 5, DEDUCED.) -/
def Obligations.HitsAndMisses : Prop :=
  ∀ (s : State) (l : LaneId) (pos : Nat),
    ((s.lane l).state = .acq3 ∨ (s.lane l).state = .holdover → (s.lane l).sync.isHit pos = true →
      s.locksAt l pos = false → s.returnsAt l pos = false →
      exec (.syncHit l pos) s = .next (s.setLane l { s.lane l with sync := { (s.lane l).sync with
        boundary := some (pos + 188), hits := satInc (syncHitsK (s.profile (s.lane l).slot)) (s.lane l).sync.hits } }))
    ∧ ((s.lane l).sync.boundary = some pos →
      ((s.lane l).state = .acq3 ∨ (s.lane l).state = .holdover → exec (.syncMiss l pos) s
        = .next (s.setLane l { s.lane l with sync := { (s.lane l).sync with boundary := none, hits := 0 } }))
      ∧ ((s.lane l).state = .locked → (s.lane l).sync.misses + 1 < syncMissM (s.lane l).settings →
        exec (.syncMiss l pos) s = .next (s.setLane l { s.lane l with sync := { (s.lane l).sync with
          boundary := some (pos + 188), misses := (s.lane l).sync.misses + 1 } }))
      ∧ ((s.lane l).state = .locked → syncMissM (s.lane l).settings ≤ (s.lane l).sync.misses + 1 →
        ∃ x, exec (.syncMissLimit l pos) s = .next (s.setLane l x) ∧ exec (.syncMiss l pos) s = .next (s.setLane l x)
          ∧ x.state = .holdover ∧ x.settings = .recovery ∧ x.sync = Sync.reset ∧ x.lockClock = none
          ∧ x.lowPeriods = 0 ∧ x.steadyRun = 0
          ∧ x.stateTimer = some (holdoverWindow (s.profile (s.lane l).slot)) ∧ x.role = (s.lane l).role
          ∧ x.gate = (s.lane l).gate ∧ x.buffer = (s.lane l).buffer ∧ x.slot = (s.lane l).slot))

/-- O54. A bound lane lost at the end of its holdover window waits for its retry; at a count of 15 in LIMITED mode it is SPENT, and
ALERT is asserted. A CARRIER, STANDBY or GIVER gives up its role and hands over a CEDE with reason LOST; a GIVER's context ends; a
TAKER gives up its role, hands over SWAP-DROP with reason TAKER-LOST and its stage is DROPPING; a HOME lane stays HOME unless it is
SPENT, and no frame follows. An ORDINARY, STANDBY or RECLAIM trial lost there fails: the lane is released, its BID withdrawn, the
slot of an OPEN row joins the tried set, the row of a standby trial is marked standby-tried. A LATE trial waits for its retry as a
bound lane, its BID withdrawn and no CEDE following. A HELD lane enters IDLE and keeps its binding, its mark, its retry count and its queued CEDE. (That
RETRY_LIMIT_SPENT is the whole HOLDOVER_WINDOW_EXPIRY at the limit is the model's choice: log 5, DEDUCED.) -/
def Obligations.LostLanesCedeAndRetry : Prop :=
  (∀ (s : State) (l : LaneId) (k : Nat), (s.lane l).state = .holdover → (s.lane l).slot = some k → (s.lane l).mark = .none →
      (∀ role : CarriageRole, (s.lane l).role = (match role with | .carrier => .carrier | .standby => .standby) →
        (s.lane l).ctx = .none →
        ∃ t, exec (.holdoverWindowExpiry l) s = .next t ∧ SameRows s t ∧ afterLoss s.retryMode (s.lane l) (t.lane l)
          ∧ (t.lane l).role = .free
          ∧ t.link.heldFrame (· == .cede (byteOf k) (CarriageRole.byte role) (s.termOf k) (byteOf l.val) .lost) = true
          ∧ (s.retryMode = .limited → 14 ≤ (s.lane l).retryCount →
              exec (.retryLimitSpent l) s = .next t ∧ (t.lane l).state = .spent ∧ (t.lane l).retryCount = 15
              ∧ (t.inReset = false → t.alert = true)))
      ∧ ((s.lane l).role = .giver →
        ∃ t, exec (.holdoverWindowExpiry l) s = .next t ∧ SameRows s t ∧ afterLoss s.retryMode (s.lane l) (t.lane l)
          ∧ (t.lane l).role = .free ∧ (t.lane l).ctx = .none
          ∧ t.link.heldFrame (· == .cede (byteOf k) 0#8 (s.termOf k) (byteOf l.val) .lost) = true
          ∧ (s.retryMode = .limited → 14 ≤ (s.lane l).retryCount → exec (.retryLimitSpent l) s = .next t))
      ∧ (∀ term st al, (s.lane l).role = .taker → (s.lane l).ctx = .taker k term st al →
        s.swappingAt k term (fun _ => true) = true → s.table.length ≤ 20 → NoSwapBeside s (byteOf k) l →
        ∃ t, exec (.holdoverWindowExpiry l) s = .next t ∧ SameRows s t ∧ afterLoss s.retryMode (s.lane l) (t.lane l)
          ∧ (t.lane l).role = .free ∧ (t.lane l).taker = none
          ∧ (t.lane l).ctx = .taker k term (.dropping .takerLost) none
          ∧ t.link.heldFrame (· == .swapDrop (byteOf k) term 1#8) = true
          ∧ (s.retryMode = .limited → 14 ≤ (s.lane l).retryCount → exec (.retryLimitSpent l) s = .next t))
      ∧ ((s.lane l).role = .home → s.mode = .isolated → (s.lane l).ctx = .none →
        ∃ t, exec (.holdoverWindowExpiry l) s = .next t ∧ SameRows s t ∧ afterLoss s.retryMode (s.lane l) (t.lane l)
          ∧ ((t.lane l).state = .retryWait → (t.lane l).role = .home) ∧ t.link = s.link
          ∧ (s.retryMode = .limited → 14 ≤ (s.lane l).retryCount → exec (.retryLimitSpent l) s = .next t)))
  ∧ (∀ (s : State) (l : LaneId) (k : Nat), (s.lane l).state = .holdover → (s.lane l).slot = some k →
      (s.lane l).ctx = .none →
      ((s.lane l).role = .trial → s.mode.holdsRoles = true → (∀ b, (s.lane l).mark ≠ .late b) →
        (s.lane l).mark.isHeld = false →
        ∃ t, exec (.holdoverWindowExpiry l) s = .next t ∧ SameRows s t ∧ Released (t.lane l)
          ∧ (∀ e ∈ t.link.queue, e.onLine = false → e.frame.meets (isBidOf l) = false)
          ∧ ((∀ n, (s.lane l).mark ≠ .standby n) → (s.row k).isOpen = true →
              (t.loc k).tried = true ∧ (t.lane l).slot ≠ some k)
          ∧ ((∀ n, (s.lane l).mark ≠ .standby n) → (s.row k).isOpen = false → (t.loc k).tried = (s.loc k).tried)
          ∧ ((∃ n, (s.lane l).mark = .standby n) → k < s.table.length → (t.loc k).standbyTried = true))
      ∧ ((s.lane l).role = .trial → (∃ b, (s.lane l).mark = .late b) →
        ∃ t, exec (.holdoverWindowExpiry l) s = .next t ∧ SameRows s t ∧ afterLoss s.retryMode (s.lane l) (t.lane l)
          ∧ (t.lane l).role = .free ∧ (∀ j, (t.loc j).tried = (s.loc j).tried)
          ∧ (∀ e ∈ t.link.queue, e.onLine = false → e.frame.meets (isBidOf l) = false)
          ∧ (t.link.queued (isCedeOf k l) = true → s.link.queued (isCedeOf k l) = true)
          ∧ (s.retryMode = .limited → 14 ≤ (s.lane l).retryCount → exec (.retryLimitSpent l) s = .next t))
      ∧ (∀ fs role, (s.lane l).role = .free → (s.lane l).mark = .held fs role → HeldStands s l →
        ∃ t, exec (.holdoverWindowExpiry l) s = .next t ∧ SameRows s t ∧ (t.lane l).state = .idle
          ∧ (t.lane l).role = .free ∧ (t.lane l).slot = some k ∧ (t.lane l).mark = .held fs role
          ∧ (t.lane l).retryCount = (s.lane l).retryCount ∧ (t.lane l).margin = 0 ∧ (t.lane l).residual = 0
          ∧ (t.lane l).buffer = [] ∧ (t.lane l).sync = Sync.reset ∧ (t.lane l).periodClock = none
          ∧ (t.lane l).stateTimer = none ∧ t.link.queued (isReclaimCedeOf l) = true))

/-- O55. At the end of a retry period a HOME lane tunes again; with the claim unit inactive any other lane is freed; with it active
the lane starts a LATE trial for carrier on an OPEN row below term 65535, or for standby behind another station's carrier of a
standby-wanted slot; on any other row it is freed, its binding dropped and its retry count cleared. A lane that tunes has its tuner
set to the slot's centre frequency and bandwidth. -/
def Obligations.RetryPeriodEnds : Prop :=
  ∀ (s : State) (l : LaneId) (k : Nat), (s.lane l).state = .retryWait → (s.lane l).slot = some k →
    (s.lane l).ctx = .none → (s.lane l).mark = .none →
    ∃ t, exec (.retryPeriodEnd l) s = .next t ∧ SameRows s t
      ∧ ((s.lane l).role = .home → (t.lane l).state = .tune ∧ (t.lane l).role = .home ∧ (t.lane l).slot = some k
          ∧ (t.lane l).retryCount = (s.lane l).retryCount ∧ TunedTo s k (t.lane l))
      ∧ ((s.lane l).role = .free → s.mode.holdsRoles = true → s.claimActive = false →
          (t.lane l).state = .idle ∧ (t.lane l).role = .free ∧ (t.lane l).slot = none ∧ (t.lane l).retryCount = 0)
      ∧ ((s.lane l).role = .free → s.claimActive = true → (s.row k).isOpen = true → s.termOf k ≠ 0xFFFF#16 →
          (t.lane l).state = .tune ∧ (t.lane l).role = .trial ∧ (t.lane l).mark = .late false
          ∧ (t.lane l).slot = some k ∧ (t.lane l).retryCount = (s.lane l).retryCount ∧ TunedTo s k (t.lane l))
      ∧ (∀ n c lc, (s.lane l).role = .free → s.claimActive = true → s.row k = .carried n c none lc →
          s.standbyWanted k = true → c.station ≠ s.number →
          (t.lane l).state = .tune ∧ (t.lane l).role = .trial ∧ (t.lane l).mark = .late true
          ∧ (t.lane l).slot = some k ∧ (t.lane l).retryCount = (s.lane l).retryCount ∧ TunedTo s k (t.lane l))
      ∧ ((s.lane l).role = .free → s.claimActive = true → ((s.row k).isOpen = true → s.termOf k = 0xFFFF#16) →
          (∀ n c lc, s.row k = .carried n c none lc → s.standbyWanted k = false ∨ c.station = s.number) →
          Released (t.lane l) ∧ (t.lane l).slot ≠ some k)

/-- O56. The quality trigger opens a GIVER context in stage OFFERING on the CARRIER lane and hands over SWAP-OFFER, where no other
lane is in a swap; the clash limit takes the role from a CARRIER or GIVER, closes its gate, and hands over a CEDE with reason CLASH.
(That QUALITY_TRIGGER and CLASH_STREAK_LIMIT are the whole period close that brings them about, log 5, DEDUCED, and that a giver in
stage CLOSED reaches the limit by a clash of the period it closed in, log 55, DESIGN CHOICE, is the model's choice.) -/
def Obligations.TriggerAndClash : Prop :=
  ∀ (s : State) (l : LaneId) (m k : Nat), (s.lane l).slot = some k →
    (s.triggersAt l m = true → (s.lane l).clashLimit = false → (s.lane l).mark.isHeld = false →
        (∀ i, i ≠ l → (s.lane i).ctx = .none) → s.table.length ≤ 20 →
      ∃ t, exec (.qualityTrigger l m) s = .next t ∧ SameRows s t
        ∧ (t.lane l).ctx = .giver k (s.termOf k) .offering 0 0 ∧ (t.lane l).role = .carrier
        ∧ (t.lane l).gate = (s.lane l).gate
        ∧ t.link.heldFrame (· == .swapOffer (byteOf k) (s.termOf k)) = true)
    ∧ (s.clashLimitAt l = true →
      ∃ t, exec (.clashStreakLimit l m) s = .next t ∧ SameRows s t ∧ (t.lane l).gate = false
        ∧ (t.lane l).role ≠ .carrier ∧ (t.lane l).role ≠ .giver ∧ (t.lane l).ctx = .none
        ∧ t.link.heldFrame (· == .cede (byteOf k) 0#8 (s.termOf k) (byteOf l.val) .clash) = true)

/-! ### Packets and windows -/

/-- O57. A delivered packet is counted when it could not be repaired; a null packet, or one for a lane whose role fills no buffer,
is discarded; any other joins the buffer at its end, the oldest leaving a buffer of 32. At a closed ALIGNED taker the heads of
trace and buffer are then paired, and the swap unit judges the lane. Nothing but the lane, and at a taker the link, changes. (That
PACKET_ARRIVAL is the hit itself, and that a packet begins also 188 bytes below the boundary at the hit that locked the lane, is
the model's choice: log 22.) -/
def Obligations.PacketsEnterTheBuffer : Prop :=
  ∀ (s : State) (l : LaneId) (pos : Nat) (bytes : List Byte) (unrepaired : Bool), (s.lane l).delivers pos = true →
    let counted := (s.lane l).countDelivery pos unrepaired
    let joined := (if (s.lane l).buffer.length < 32 then (s.lane l).buffer else (s.lane l).buffer.drop 1)
      ++ [packetRecOf bytes unrepaired]
    ((packetRecOf bytes unrepaired).isNull = true ∨ (s.lane l).fills = false →
      exec (.packetArrival l pos bytes unrepaired) s = .next (s.setLane l counted))
    ∧ ((packetRecOf bytes unrepaired).isNull = false → (s.lane l).fills = true →
      (∀ tk, (s.lane l).taker = some tk → tk.aligned = false ∨ (s.lane l).gate = true) →
      exec (.packetArrival l pos bytes unrepaired) s = .next (s.setLane l { counted with buffer := joined }))
    ∧ (∀ tk, (packetRecOf bytes unrepaired).isNull = false → (s.lane l).fills = true → (s.lane l).taker = some tk →
      tk.aligned = true → (s.lane l).gate = false →
      ∃ t tr buf now consumed, exec (.packetArrival l pos bytes unrepaired) s = .next t
        ∧ paired tk.trace joined tr buf now consumed
        ∧ takerAfter (s.setLane l counted) t l tk tr buf now
            (consumed = true ∨ now = false ∧ tr.any (·.last) = true))
    ∧ counted.periodErrors
        = (if unrepaired = true then satInc 65535 (s.lane l).periodErrors else (s.lane l).periodErrors)
    ∧ counted.sync.misses = 0 ∧ counted.sync.boundary = some (pos + 188)
    ∧ (packetRecOf bytes unrepaired).signature = checkSequence (packetRecOf bytes unrepaired).bytes
    ∧ (unrepaired = false → (packetRecOf bytes unrepaired).bytes = bytes)

/-- O58. A window starts with the head record of the lane of its outlet whose gate is open, which leaves the buffer; with no such
lane or no record it is left undriven. A frame mark in a window starts outlet 0 and leaves no trace of the window cut short. In
clocks 0 to 187 of a driven window the station drives byte k, VALID and the LAST mark, in clocks 188 to 191 and in an undriven
window nothing. (That windows after a stop of the clock go on from where the cycle stood is the model's choice: log 54, DESIGN
CHOICE.) -/
def Obligations.WindowsTakeTheHead : Prop :=
  (∀ (s : State) (frameMark : Bool) (n : Nat), s.bp.nextOutlet frameMark = some n →
    (s.drivingLane n = none → exec (.windowStart frameMark) s
      = .next { s with bp := { pos := .inside n, driven := none, reader := s.readingLane n } })
    ∧ (∀ l r rest k, s.drivingLane n = some l → (s.lane l).buffer = r :: rest → (s.lane l).slot = some k →
      (s.lane l).gate = true ∧ s.outlet k = some n ∧
      exec (.windowStart frameMark) s
        = .next { s.setLane l { s.lane l with buffer := rest } with
            bp := { pos := .inside n, reader := s.readingLane n,
                    driven := some { lane := l, slot := k, packet := r, last := s.asksLast (s.lane l) } } }))
  ∧ (∀ (s : State) (n : Nat), s.bp.pos = .inside n →
    ∃ t, exec .cycleCutShort s = .next t ∧ exec (.windowStart true) s = .next t ∧ t.bp.pos = .inside 0
      ∧ t = { s with lanes := t.lanes, bp := t.bp }
      ∧ ∀ l, (t.lane l).taker = (s.lane l).taker ∧ (t.lane l).clashSeen = (s.lane l).clashSeen
        ∧ (t.lane l).ctx = (s.lane l).ctx)
  ∧ (∀ (s : State) (clock : Nat),
    (s.bp.driven = none ∨ 188 ≤ clock → s.busDriven clock = .recessive)
    ∧ ∀ d, s.bp.driven = some d → clock < 188 →
      s.busDriven clock = { data := d.packet.bytes.getD clock 0#8, valid := true, last := d.last })

/-- O59. At the end of a window the station drove and no lane of it reads, a difference between what it drove and what the lines
carried is a clash on the lane: clash seen is set, beside what the end of the same window does without a clash, on a GIVER and on an
open TAKER as on any lane, the clash streak as it was; a lane that is HOME for the window's slot yields and the slot is clash-barred.
A window it did not drive marks none. A window that it did not drive, read with VALID set for a taker whose trace is still the one
it started under, joins that trace; the alignment test or the pairing follows, and the swap unit judges the lane. A window read with
VALID clear, or for an earlier trace, adds nothing. (That the clash is marked on the lane that drove the window whatever the lane has
become by its end, released or HOME for another slot, which then does not yield, is the model's choice: log 24, DEDUCED. What becomes
of entries behind the four that match is the model's choice too: log 53, DESIGN CHOICE. Nothing is said of a window that the station
both drives and reads.) -/
def Obligations.WindowEndsMarkClashes : Prop :=
  (∀ (s : State) (n : Nat) (w : WindowLines), s.bp.pos = .inside n → s.bp.reader = none →
    ∃ t, exec (.windowEnd w) s = .next t ∧ t.table = s.table ∧ t.dir = s.dir ∧ t.mode = s.mode ∧ t.sel = s.sel
      ∧ t.plan = s.plan ∧ t.bp = { pos := if n < 19 then .between (n + 1) else .awaiting, driven := none, reader := none }
      ∧ (s.bp.driven = none → t = { s with bp := t.bp })
      ∧ (∀ d, s.bp.driven = some d → (s.lane d.lane).ctx = .none → (s.lane d.lane).slot = some d.slot →
          (readBackDiffers d w = false → t = { s with bp := t.bp })
          ∧ (readBackDiffers d w = true → (s.lane d.lane).role = .carrier →
              t = { s.setLane d.lane { s.lane d.lane with clashSeen := true } with bp := t.bp })
          ∧ (readBackDiffers d w = true → (s.lane d.lane).role = .home → (s.lane d.lane).gate = true →
              d.slot ∈ t.clashBarred ∧ (t.lane d.lane).gate = false ∧ (t.lane d.lane).slot ≠ some d.slot))
      ∧ (∀ d, s.bp.driven = some d → readBackDiffers d w = true →
          (s.lane d.lane).role ≠ .home ∨ (s.lane d.lane).slot ≠ some d.slot →
          (t.lane d.lane).clashSeen = true ∧ (t.lane d.lane).clashStreak = (s.lane d.lane).clashStreak
          ∧ ∀ w', readBackDiffers d w' = false → ∃ u, exec (.windowEnd w') s = .next u
            ∧ t = u.setLane d.lane { u.lane d.lane with clashSeen := true }))
  ∧ (∀ (s : State) (n k no : Nat) (w : WindowLines) (l : LaneId), s.bp.pos = .inside n → s.bp.driven = none →
    s.bp.reader = some (l, no) →
    let port : State :=
      { s with bp := { pos := if n < 19 then .between (n + 1) else .awaiting, driven := none, reader := none } }
    (w.valid = false ∨ no ≠ (s.lane l).traceNo ∨ (∀ tk, (s.lane l).taker = some tk → tk.feeding = false) →
        exec (.windowEnd w) s = .next port)
    ∧ (∀ tk, w.valid = true → no = (s.lane l).traceNo → (s.lane l).slot = some k → s.outlet k = some n →
        (s.lane l).taker = some tk → tk.feeding = true →
        let e : TraceEntry := { signature := checkSequence w.bytes, last := w.last }
        ∃ t tr buf now consumed, exec (.windowEnd w) s = .next t
          ∧ traceTakes tk.aligned tk.trace e (s.lane l).buffer tr buf now consumed
          ∧ takerAfter port t l tk tr buf now
              (consumed = true ∨ e.last = true ∧ tk.aligned = false ∨ now = false ∧ tr.any (·.last) = true)))

/-- O60. With drain remaining at 0 the giver's next packet carries LAST under hold CLEAR, and the giver closes; under hold SET it
carries none, and the giver enters OVERRUN with overrun 1. Each packet placed before lowers drain remaining by one; each one
placed in OVERRUN without LAST raises overrun by one, and an overrun that reaches 4 times the drain count makes the giver hand
over SWAP-DROP with reason OVERRUN. A packet placed with LAST closes the giver; one placed in OFFERING, GOING or
DROPPING counts nothing. (No lane of this station reads the window and no clash occurs. That DRAIN_COUNTDOWN_END is a whole
window, and OVERRUN_LIMIT the end of the window that reaches the limit, is the model's choice: log 28, DEDUCED.) -/
def Obligations.GiversCloseOrOverrun : Prop :=
  ∀ (s : State) (w : WindowLines) (l : LaneId) (k n : Nat) (term : Term),
    (∀ (frameMark : Bool) (r : PacketRec) (rest : List PacketRec) (ov : Nat),
      s.bp.nextOutlet frameMark = some n → s.drivingLane n = some l → s.readingLane n = none →
      (s.lane l).buffer = r :: rest → (s.lane l).slot = some k → (s.lane l).ctx = .giver k term .draining 0 ov →
      readBackDiffers { lane := l, slot := k, packet := r, last := !(s.row k).hold } w = false →
      ∃ t, exec (.drainCountdownEnd frameMark w) s = .next t ∧ t.table = s.table ∧ t.link = s.link
        ∧ (t.lane l).buffer = rest
        ∧ ((s.row k).hold = false → (t.lane l).gate = false ∧ (t.lane l).ctx = .giver k term .closed 0 ov)
        ∧ ((s.row k).hold = true → (t.lane l).gate = true ∧ (t.lane l).ctx = .giver k term .overrun 0 1))
    ∧ (∀ (d : Driven) (rem ov dc : Nat) (t' : Term) (c sb : Pair) (lc : Option Station) (h : Bool),
      s.bp.pos = .inside n → s.bp.reader = none → s.bp.driven = some d → d.lane = l → d.slot = k → d.last = false →
      (s.lane l).ctx = .giver k term .overrun rem ov → s.row k = .swapping t' c sb lc (.draining h dc) →
      4 * dc ≤ ov + 1 → readBackDiffers d w = false →
      ∃ t, exec (.overrunLimit w) s = .next t ∧ exec (.windowEnd w) s = .next t ∧ t.table = s.table
        ∧ (t.lane l).ctx = .giver k term .dropping rem (ov + 1) ∧ (t.lane l).gate = (s.lane l).gate
        ∧ t.link.heldFrame (· == .swapDrop (byteOf k) term 2#8) = true)
    ∧ (∀ (d : Driven) (stage : GiverStage) (rem ov : Nat),
      s.bp.pos = .inside n → s.bp.reader = none → s.bp.driven = some d → d.lane = l → d.slot = k →
      (s.lane l).ctx = .giver k term stage rem ov → readBackDiffers d w = false →
      let placed := fun (gate : Bool) (ctx : SwapCtx) => ∃ t, exec (.windowEnd w) s = .next t ∧ t.table = s.table
        ∧ t.link = s.link ∧ (∀ i, i ≠ l → t.lane i = s.lane i)
        ∧ t.lane l = { s.lane l with gate := gate, ctx := ctx }
      (∀ m, d.last = false → stage = .draining → rem = m + 1 →
          placed (s.lane l).gate (.giver k term .draining m ov))
      ∧ (∀ dc t' c sb lc h, d.last = false → stage = .overrun → s.row k = .swapping t' c sb lc (.draining h dc) →
          ov + 1 < 4 * dc → placed (s.lane l).gate (.giver k term .overrun rem (ov + 1)))
      ∧ (d.last = true → stage = .draining ∨ stage = .overrun → placed false (.giver k term .closed rem ov))
      ∧ (stage ∈ [.offering, .going, .dropping] → placed (s.lane l).gate (s.lane l).ctx))
end

