-- ==== Sys2Proof/Laws/State.lean ====
section
/-! SUPPORT. State.lean: each update of a station, field by field: what it leaves, and what it writes. All by `rfl`. -/

namespace Sys2Proof.Machine

/-! ### `setEntry` -/

@[simp] theorem State.setEntry_inReset (s : State) (k : Nat) (e : Entry) : (s.setEntry k e).inReset = s.inReset := rfl
@[simp] theorem State.setEntry_lineFound (s : State) (k : Nat) (e : Entry) : (s.setEntry k e).lineFound = s.lineFound := rfl
@[simp] theorem State.setEntry_number (s : State) (k : Nat) (e : Entry) : (s.setEntry k e).number = s.number := rfl
@[simp] theorem State.setEntry_mode (s : State) (k : Nat) (e : Entry) : (s.setEntry k e).mode = s.mode := rfl
@[simp] theorem State.setEntry_barredCause (s : State) (k : Nat) (e : Entry) : (s.setEntry k e).barredCause = s.barredCause := rfl
@[simp] theorem State.setEntry_resetCause (s : State) (k : Nat) (e : Entry) : (s.setEntry k e).resetCause = s.resetCause := rfl
@[simp] theorem State.setEntry_loader (s : State) (k : Nat) (e : Entry) : (s.setEntry k e).loader = s.loader := rfl
@[simp] theorem State.setEntry_plan (s : State) (k : Nat) (e : Entry) : (s.setEntry k e).plan = s.plan := rfl
@[simp] theorem State.setEntry_dir (s : State) (k : Nat) (e : Entry) : (s.setEntry k e).dir = s.dir := rfl
@[simp] theorem State.setEntry_lanes (s : State) (k : Nat) (e : Entry) : (s.setEntry k e).lanes = s.lanes := rfl
@[simp] theorem State.setEntry_clashBarred (s : State) (k : Nat) (e : Entry) : (s.setEntry k e).clashBarred = s.clashBarred := rfl
@[simp] theorem State.setEntry_link (s : State) (k : Nat) (e : Entry) : (s.setEntry k e).link = s.link := rfl
@[simp] theorem State.setEntry_bp (s : State) (k : Nat) (e : Entry) : (s.setEntry k e).bp = s.bp := rfl
@[simp] theorem State.setEntry_sel (s : State) (k : Nat) (e : Entry) : (s.setEntry k e).sel = s.sel := rfl
@[simp] theorem State.setEntry_rollTimer (s : State) (k : Nat) (e : Entry) : (s.setEntry k e).rollTimer = s.rollTimer := rfl
@[simp] theorem State.setEntry_joinQuiet (s : State) (k : Nat) (e : Entry) : (s.setEntry k e).joinQuiet = s.joinQuiet := rfl
@[simp] theorem State.setEntry_muteRest (s : State) (k : Nat) (e : Entry) : (s.setEntry k e).muteRest = s.muteRest := rfl
@[simp] theorem State.setEntry_joinMark (s : State) (k : Nat) (e : Entry) : (s.setEntry k e).joinMark = s.joinMark := rfl
@[simp] theorem State.setEntry_echoPointer (s : State) (k : Nat) (e : Entry) : (s.setEntry k e).echoPointer = s.echoPointer := rfl
@[simp] theorem State.setEntry_pending (s : State) (k : Nat) (e : Entry) : (s.setEntry k e).pending = s.pending := rfl

/-! ### `setLoc` -/

@[simp] theorem State.setLoc_inReset (s : State) (k : Nat) (x : RowLocal) : (s.setLoc k x).inReset = s.inReset := rfl
@[simp] theorem State.setLoc_lineFound (s : State) (k : Nat) (x : RowLocal) : (s.setLoc k x).lineFound = s.lineFound := rfl
@[simp] theorem State.setLoc_number (s : State) (k : Nat) (x : RowLocal) : (s.setLoc k x).number = s.number := rfl
@[simp] theorem State.setLoc_mode (s : State) (k : Nat) (x : RowLocal) : (s.setLoc k x).mode = s.mode := rfl
@[simp] theorem State.setLoc_barredCause (s : State) (k : Nat) (x : RowLocal) : (s.setLoc k x).barredCause = s.barredCause := rfl
@[simp] theorem State.setLoc_resetCause (s : State) (k : Nat) (x : RowLocal) : (s.setLoc k x).resetCause = s.resetCause := rfl
@[simp] theorem State.setLoc_loader (s : State) (k : Nat) (x : RowLocal) : (s.setLoc k x).loader = s.loader := rfl
@[simp] theorem State.setLoc_plan (s : State) (k : Nat) (x : RowLocal) : (s.setLoc k x).plan = s.plan := rfl
@[simp] theorem State.setLoc_dir (s : State) (k : Nat) (x : RowLocal) : (s.setLoc k x).dir = s.dir := rfl
@[simp] theorem State.setLoc_lanes (s : State) (k : Nat) (x : RowLocal) : (s.setLoc k x).lanes = s.lanes := rfl
@[simp] theorem State.setLoc_clashBarred (s : State) (k : Nat) (x : RowLocal) : (s.setLoc k x).clashBarred = s.clashBarred := rfl
@[simp] theorem State.setLoc_link (s : State) (k : Nat) (x : RowLocal) : (s.setLoc k x).link = s.link := rfl
@[simp] theorem State.setLoc_bp (s : State) (k : Nat) (x : RowLocal) : (s.setLoc k x).bp = s.bp := rfl
@[simp] theorem State.setLoc_sel (s : State) (k : Nat) (x : RowLocal) : (s.setLoc k x).sel = s.sel := rfl
@[simp] theorem State.setLoc_rollTimer (s : State) (k : Nat) (x : RowLocal) : (s.setLoc k x).rollTimer = s.rollTimer := rfl
@[simp] theorem State.setLoc_joinQuiet (s : State) (k : Nat) (x : RowLocal) : (s.setLoc k x).joinQuiet = s.joinQuiet := rfl
@[simp] theorem State.setLoc_muteRest (s : State) (k : Nat) (x : RowLocal) : (s.setLoc k x).muteRest = s.muteRest := rfl
@[simp] theorem State.setLoc_joinMark (s : State) (k : Nat) (x : RowLocal) : (s.setLoc k x).joinMark = s.joinMark := rfl
@[simp] theorem State.setLoc_echoPointer (s : State) (k : Nat) (x : RowLocal) : (s.setLoc k x).echoPointer = s.echoPointer := rfl
@[simp] theorem State.setLoc_pending (s : State) (k : Nat) (x : RowLocal) : (s.setLoc k x).pending = s.pending := rfl

/-! ### `putRow` -/

@[simp] theorem State.putRow_inReset (s : State) (k : Nat) (r : Row) : (s.putRow k r).inReset = s.inReset := rfl
@[simp] theorem State.putRow_lineFound (s : State) (k : Nat) (r : Row) : (s.putRow k r).lineFound = s.lineFound := rfl
@[simp] theorem State.putRow_number (s : State) (k : Nat) (r : Row) : (s.putRow k r).number = s.number := rfl
@[simp] theorem State.putRow_mode (s : State) (k : Nat) (r : Row) : (s.putRow k r).mode = s.mode := rfl
@[simp] theorem State.putRow_barredCause (s : State) (k : Nat) (r : Row) : (s.putRow k r).barredCause = s.barredCause := rfl
@[simp] theorem State.putRow_resetCause (s : State) (k : Nat) (r : Row) : (s.putRow k r).resetCause = s.resetCause := rfl
@[simp] theorem State.putRow_loader (s : State) (k : Nat) (r : Row) : (s.putRow k r).loader = s.loader := rfl
@[simp] theorem State.putRow_plan (s : State) (k : Nat) (r : Row) : (s.putRow k r).plan = s.plan := rfl
@[simp] theorem State.putRow_dir (s : State) (k : Nat) (r : Row) : (s.putRow k r).dir = s.dir := rfl
@[simp] theorem State.putRow_lanes (s : State) (k : Nat) (r : Row) : (s.putRow k r).lanes = s.lanes := rfl
@[simp] theorem State.putRow_clashBarred (s : State) (k : Nat) (r : Row) : (s.putRow k r).clashBarred = s.clashBarred := rfl
@[simp] theorem State.putRow_link (s : State) (k : Nat) (r : Row) : (s.putRow k r).link = s.link := rfl
@[simp] theorem State.putRow_bp (s : State) (k : Nat) (r : Row) : (s.putRow k r).bp = s.bp := rfl
@[simp] theorem State.putRow_sel (s : State) (k : Nat) (r : Row) : (s.putRow k r).sel = s.sel := rfl
@[simp] theorem State.putRow_rollTimer (s : State) (k : Nat) (r : Row) : (s.putRow k r).rollTimer = s.rollTimer := rfl
@[simp] theorem State.putRow_joinQuiet (s : State) (k : Nat) (r : Row) : (s.putRow k r).joinQuiet = s.joinQuiet := rfl
@[simp] theorem State.putRow_muteRest (s : State) (k : Nat) (r : Row) : (s.putRow k r).muteRest = s.muteRest := rfl
@[simp] theorem State.putRow_joinMark (s : State) (k : Nat) (r : Row) : (s.putRow k r).joinMark = s.joinMark := rfl
@[simp] theorem State.putRow_echoPointer (s : State) (k : Nat) (r : Row) : (s.putRow k r).echoPointer = s.echoPointer := rfl
@[simp] theorem State.putRow_pending (s : State) (k : Nat) (r : Row) : (s.putRow k r).pending = s.pending := rfl

/-! ### `setLane` -/

@[simp] theorem State.setLane_inReset (s : State) (l : LaneId) (x : Lane) : (s.setLane l x).inReset = s.inReset := rfl
@[simp] theorem State.setLane_lineFound (s : State) (l : LaneId) (x : Lane) : (s.setLane l x).lineFound = s.lineFound := rfl
@[simp] theorem State.setLane_number (s : State) (l : LaneId) (x : Lane) : (s.setLane l x).number = s.number := rfl
@[simp] theorem State.setLane_mode (s : State) (l : LaneId) (x : Lane) : (s.setLane l x).mode = s.mode := rfl
@[simp] theorem State.setLane_barredCause (s : State) (l : LaneId) (x : Lane) : (s.setLane l x).barredCause = s.barredCause := rfl
@[simp] theorem State.setLane_resetCause (s : State) (l : LaneId) (x : Lane) : (s.setLane l x).resetCause = s.resetCause := rfl
@[simp] theorem State.setLane_loader (s : State) (l : LaneId) (x : Lane) : (s.setLane l x).loader = s.loader := rfl
@[simp] theorem State.setLane_plan (s : State) (l : LaneId) (x : Lane) : (s.setLane l x).plan = s.plan := rfl
@[simp] theorem State.setLane_table (s : State) (l : LaneId) (x : Lane) : (s.setLane l x).table = s.table := rfl
@[simp] theorem State.setLane_dir (s : State) (l : LaneId) (x : Lane) : (s.setLane l x).dir = s.dir := rfl
@[simp] theorem State.setLane_clashBarred (s : State) (l : LaneId) (x : Lane) : (s.setLane l x).clashBarred = s.clashBarred := rfl
@[simp] theorem State.setLane_link (s : State) (l : LaneId) (x : Lane) : (s.setLane l x).link = s.link := rfl
@[simp] theorem State.setLane_bp (s : State) (l : LaneId) (x : Lane) : (s.setLane l x).bp = s.bp := rfl
@[simp] theorem State.setLane_sel (s : State) (l : LaneId) (x : Lane) : (s.setLane l x).sel = s.sel := rfl
@[simp] theorem State.setLane_rollTimer (s : State) (l : LaneId) (x : Lane) : (s.setLane l x).rollTimer = s.rollTimer := rfl
@[simp] theorem State.setLane_joinQuiet (s : State) (l : LaneId) (x : Lane) : (s.setLane l x).joinQuiet = s.joinQuiet := rfl
@[simp] theorem State.setLane_muteRest (s : State) (l : LaneId) (x : Lane) : (s.setLane l x).muteRest = s.muteRest := rfl
@[simp] theorem State.setLane_joinMark (s : State) (l : LaneId) (x : Lane) : (s.setLane l x).joinMark = s.joinMark := rfl
@[simp] theorem State.setLane_echoPointer (s : State) (l : LaneId) (x : Lane) : (s.setLane l x).echoPointer = s.echoPointer := rfl
@[simp] theorem State.setLane_pending (s : State) (l : LaneId) (x : Lane) : (s.setLane l x).pending = s.pending := rfl

/-! ### `modLane` -/

@[simp] theorem State.modLane_inReset (s : State) (l : LaneId) (f : Lane → Lane) : (s.modLane l f).inReset = s.inReset := rfl
@[simp] theorem State.modLane_lineFound (s : State) (l : LaneId) (f : Lane → Lane) : (s.modLane l f).lineFound = s.lineFound := rfl
@[simp] theorem State.modLane_number (s : State) (l : LaneId) (f : Lane → Lane) : (s.modLane l f).number = s.number := rfl
@[simp] theorem State.modLane_mode (s : State) (l : LaneId) (f : Lane → Lane) : (s.modLane l f).mode = s.mode := rfl
@[simp] theorem State.modLane_barredCause (s : State) (l : LaneId) (f : Lane → Lane) : (s.modLane l f).barredCause = s.barredCause := rfl
@[simp] theorem State.modLane_resetCause (s : State) (l : LaneId) (f : Lane → Lane) : (s.modLane l f).resetCause = s.resetCause := rfl
@[simp] theorem State.modLane_loader (s : State) (l : LaneId) (f : Lane → Lane) : (s.modLane l f).loader = s.loader := rfl
@[simp] theorem State.modLane_plan (s : State) (l : LaneId) (f : Lane → Lane) : (s.modLane l f).plan = s.plan := rfl
@[simp] theorem State.modLane_table (s : State) (l : LaneId) (f : Lane → Lane) : (s.modLane l f).table = s.table := rfl
@[simp] theorem State.modLane_dir (s : State) (l : LaneId) (f : Lane → Lane) : (s.modLane l f).dir = s.dir := rfl
@[simp] theorem State.modLane_clashBarred (s : State) (l : LaneId) (f : Lane → Lane) : (s.modLane l f).clashBarred = s.clashBarred := rfl
@[simp] theorem State.modLane_link (s : State) (l : LaneId) (f : Lane → Lane) : (s.modLane l f).link = s.link := rfl
@[simp] theorem State.modLane_bp (s : State) (l : LaneId) (f : Lane → Lane) : (s.modLane l f).bp = s.bp := rfl
@[simp] theorem State.modLane_sel (s : State) (l : LaneId) (f : Lane → Lane) : (s.modLane l f).sel = s.sel := rfl
@[simp] theorem State.modLane_rollTimer (s : State) (l : LaneId) (f : Lane → Lane) : (s.modLane l f).rollTimer = s.rollTimer := rfl
@[simp] theorem State.modLane_joinQuiet (s : State) (l : LaneId) (f : Lane → Lane) : (s.modLane l f).joinQuiet = s.joinQuiet := rfl
@[simp] theorem State.modLane_muteRest (s : State) (l : LaneId) (f : Lane → Lane) : (s.modLane l f).muteRest = s.muteRest := rfl
@[simp] theorem State.modLane_joinMark (s : State) (l : LaneId) (f : Lane → Lane) : (s.modLane l f).joinMark = s.joinMark := rfl
@[simp] theorem State.modLane_echoPointer (s : State) (l : LaneId) (f : Lane → Lane) : (s.modLane l f).echoPointer = s.echoPointer := rfl
@[simp] theorem State.modLane_pending (s : State) (l : LaneId) (f : Lane → Lane) : (s.modLane l f).pending = s.pending := rfl

/-! ### `setPeer` -/

@[simp] theorem State.setPeer_inReset (s : State) (x : Station) (r : PeerRec) : (s.setPeer x r).inReset = s.inReset := rfl
@[simp] theorem State.setPeer_lineFound (s : State) (x : Station) (r : PeerRec) : (s.setPeer x r).lineFound = s.lineFound := rfl
@[simp] theorem State.setPeer_number (s : State) (x : Station) (r : PeerRec) : (s.setPeer x r).number = s.number := rfl
@[simp] theorem State.setPeer_mode (s : State) (x : Station) (r : PeerRec) : (s.setPeer x r).mode = s.mode := rfl
@[simp] theorem State.setPeer_barredCause (s : State) (x : Station) (r : PeerRec) : (s.setPeer x r).barredCause = s.barredCause := rfl
@[simp] theorem State.setPeer_resetCause (s : State) (x : Station) (r : PeerRec) : (s.setPeer x r).resetCause = s.resetCause := rfl
@[simp] theorem State.setPeer_loader (s : State) (x : Station) (r : PeerRec) : (s.setPeer x r).loader = s.loader := rfl
@[simp] theorem State.setPeer_plan (s : State) (x : Station) (r : PeerRec) : (s.setPeer x r).plan = s.plan := rfl
@[simp] theorem State.setPeer_table (s : State) (x : Station) (r : PeerRec) : (s.setPeer x r).table = s.table := rfl
@[simp] theorem State.setPeer_lanes (s : State) (x : Station) (r : PeerRec) : (s.setPeer x r).lanes = s.lanes := rfl
@[simp] theorem State.setPeer_clashBarred (s : State) (x : Station) (r : PeerRec) : (s.setPeer x r).clashBarred = s.clashBarred := rfl
@[simp] theorem State.setPeer_link (s : State) (x : Station) (r : PeerRec) : (s.setPeer x r).link = s.link := rfl
@[simp] theorem State.setPeer_bp (s : State) (x : Station) (r : PeerRec) : (s.setPeer x r).bp = s.bp := rfl
@[simp] theorem State.setPeer_sel (s : State) (x : Station) (r : PeerRec) : (s.setPeer x r).sel = s.sel := rfl
@[simp] theorem State.setPeer_rollTimer (s : State) (x : Station) (r : PeerRec) : (s.setPeer x r).rollTimer = s.rollTimer := rfl
@[simp] theorem State.setPeer_joinQuiet (s : State) (x : Station) (r : PeerRec) : (s.setPeer x r).joinQuiet = s.joinQuiet := rfl
@[simp] theorem State.setPeer_muteRest (s : State) (x : Station) (r : PeerRec) : (s.setPeer x r).muteRest = s.muteRest := rfl
@[simp] theorem State.setPeer_joinMark (s : State) (x : Station) (r : PeerRec) : (s.setPeer x r).joinMark = s.joinMark := rfl
@[simp] theorem State.setPeer_echoPointer (s : State) (x : Station) (r : PeerRec) : (s.setPeer x r).echoPointer = s.echoPointer := rfl
@[simp] theorem State.setPeer_pending (s : State) (x : Station) (r : PeerRec) : (s.setPeer x r).pending = s.pending := rfl

/-! ### `send` -/

@[simp] theorem State.send_inReset (s : State) (f : Frame) : (s.send f).inReset = s.inReset := rfl
@[simp] theorem State.send_lineFound (s : State) (f : Frame) : (s.send f).lineFound = s.lineFound := rfl
@[simp] theorem State.send_number (s : State) (f : Frame) : (s.send f).number = s.number := rfl
@[simp] theorem State.send_mode (s : State) (f : Frame) : (s.send f).mode = s.mode := rfl
@[simp] theorem State.send_barredCause (s : State) (f : Frame) : (s.send f).barredCause = s.barredCause := rfl
@[simp] theorem State.send_resetCause (s : State) (f : Frame) : (s.send f).resetCause = s.resetCause := rfl
@[simp] theorem State.send_loader (s : State) (f : Frame) : (s.send f).loader = s.loader := rfl
@[simp] theorem State.send_plan (s : State) (f : Frame) : (s.send f).plan = s.plan := rfl
@[simp] theorem State.send_table (s : State) (f : Frame) : (s.send f).table = s.table := rfl
@[simp] theorem State.send_dir (s : State) (f : Frame) : (s.send f).dir = s.dir := rfl
@[simp] theorem State.send_lanes (s : State) (f : Frame) : (s.send f).lanes = s.lanes := rfl
@[simp] theorem State.send_clashBarred (s : State) (f : Frame) : (s.send f).clashBarred = s.clashBarred := rfl
@[simp] theorem State.send_bp (s : State) (f : Frame) : (s.send f).bp = s.bp := rfl
@[simp] theorem State.send_sel (s : State) (f : Frame) : (s.send f).sel = s.sel := rfl
@[simp] theorem State.send_rollTimer (s : State) (f : Frame) : (s.send f).rollTimer = s.rollTimer := rfl
@[simp] theorem State.send_joinQuiet (s : State) (f : Frame) : (s.send f).joinQuiet = s.joinQuiet := rfl
@[simp] theorem State.send_muteRest (s : State) (f : Frame) : (s.send f).muteRest = s.muteRest := rfl
@[simp] theorem State.send_joinMark (s : State) (f : Frame) : (s.send f).joinMark = s.joinMark := rfl
@[simp] theorem State.send_echoPointer (s : State) (f : Frame) : (s.send f).echoPointer = s.echoPointer := rfl
@[simp] theorem State.send_pending (s : State) (f : Frame) : (s.send f).pending = s.pending := rfl

/-! ### `withdraw` -/

@[simp] theorem State.withdraw_inReset (s : State) (p : Frame → Bool) : (s.withdraw p).inReset = s.inReset := rfl
@[simp] theorem State.withdraw_lineFound (s : State) (p : Frame → Bool) : (s.withdraw p).lineFound = s.lineFound := rfl
@[simp] theorem State.withdraw_number (s : State) (p : Frame → Bool) : (s.withdraw p).number = s.number := rfl
@[simp] theorem State.withdraw_mode (s : State) (p : Frame → Bool) : (s.withdraw p).mode = s.mode := rfl
@[simp] theorem State.withdraw_barredCause (s : State) (p : Frame → Bool) : (s.withdraw p).barredCause = s.barredCause := rfl
@[simp] theorem State.withdraw_resetCause (s : State) (p : Frame → Bool) : (s.withdraw p).resetCause = s.resetCause := rfl
@[simp] theorem State.withdraw_loader (s : State) (p : Frame → Bool) : (s.withdraw p).loader = s.loader := rfl
@[simp] theorem State.withdraw_plan (s : State) (p : Frame → Bool) : (s.withdraw p).plan = s.plan := rfl
@[simp] theorem State.withdraw_table (s : State) (p : Frame → Bool) : (s.withdraw p).table = s.table := rfl
@[simp] theorem State.withdraw_dir (s : State) (p : Frame → Bool) : (s.withdraw p).dir = s.dir := rfl
@[simp] theorem State.withdraw_lanes (s : State) (p : Frame → Bool) : (s.withdraw p).lanes = s.lanes := rfl
@[simp] theorem State.withdraw_clashBarred (s : State) (p : Frame → Bool) : (s.withdraw p).clashBarred = s.clashBarred := rfl
@[simp] theorem State.withdraw_bp (s : State) (p : Frame → Bool) : (s.withdraw p).bp = s.bp := rfl
@[simp] theorem State.withdraw_sel (s : State) (p : Frame → Bool) : (s.withdraw p).sel = s.sel := rfl
@[simp] theorem State.withdraw_rollTimer (s : State) (p : Frame → Bool) : (s.withdraw p).rollTimer = s.rollTimer := rfl
@[simp] theorem State.withdraw_joinQuiet (s : State) (p : Frame → Bool) : (s.withdraw p).joinQuiet = s.joinQuiet := rfl
@[simp] theorem State.withdraw_muteRest (s : State) (p : Frame → Bool) : (s.withdraw p).muteRest = s.muteRest := rfl
@[simp] theorem State.withdraw_joinMark (s : State) (p : Frame → Bool) : (s.withdraw p).joinMark = s.joinMark := rfl
@[simp] theorem State.withdraw_echoPointer (s : State) (p : Frame → Bool) : (s.withdraw p).echoPointer = s.echoPointer := rfl
@[simp] theorem State.withdraw_pending (s : State) (p : Frame → Bool) : (s.withdraw p).pending = s.pending := rfl

/-! ### `requestReport` -/

@[simp] theorem State.requestReport_inReset (s : State) : (s.requestReport).inReset = s.inReset := rfl
@[simp] theorem State.requestReport_lineFound (s : State) : (s.requestReport).lineFound = s.lineFound := rfl
@[simp] theorem State.requestReport_number (s : State) : (s.requestReport).number = s.number := rfl
@[simp] theorem State.requestReport_mode (s : State) : (s.requestReport).mode = s.mode := rfl
@[simp] theorem State.requestReport_barredCause (s : State) : (s.requestReport).barredCause = s.barredCause := rfl
@[simp] theorem State.requestReport_resetCause (s : State) : (s.requestReport).resetCause = s.resetCause := rfl
@[simp] theorem State.requestReport_loader (s : State) : (s.requestReport).loader = s.loader := rfl
@[simp] theorem State.requestReport_plan (s : State) : (s.requestReport).plan = s.plan := rfl
@[simp] theorem State.requestReport_table (s : State) : (s.requestReport).table = s.table := rfl
@[simp] theorem State.requestReport_dir (s : State) : (s.requestReport).dir = s.dir := rfl
@[simp] theorem State.requestReport_lanes (s : State) : (s.requestReport).lanes = s.lanes := rfl
@[simp] theorem State.requestReport_clashBarred (s : State) : (s.requestReport).clashBarred = s.clashBarred := rfl
@[simp] theorem State.requestReport_bp (s : State) : (s.requestReport).bp = s.bp := rfl
@[simp] theorem State.requestReport_sel (s : State) : (s.requestReport).sel = s.sel := rfl
@[simp] theorem State.requestReport_rollTimer (s : State) : (s.requestReport).rollTimer = s.rollTimer := rfl
@[simp] theorem State.requestReport_joinQuiet (s : State) : (s.requestReport).joinQuiet = s.joinQuiet := rfl
@[simp] theorem State.requestReport_muteRest (s : State) : (s.requestReport).muteRest = s.muteRest := rfl
@[simp] theorem State.requestReport_joinMark (s : State) : (s.requestReport).joinMark = s.joinMark := rfl
@[simp] theorem State.requestReport_echoPointer (s : State) : (s.requestReport).echoPointer = s.echoPointer := rfl
@[simp] theorem State.requestReport_pending (s : State) : (s.requestReport).pending = s.pending := rfl

/-! ### `requestRoll` -/

@[simp] theorem State.requestRoll_inReset (s : State) : (s.requestRoll).inReset = s.inReset := rfl
@[simp] theorem State.requestRoll_lineFound (s : State) : (s.requestRoll).lineFound = s.lineFound := rfl
@[simp] theorem State.requestRoll_number (s : State) : (s.requestRoll).number = s.number := rfl
@[simp] theorem State.requestRoll_mode (s : State) : (s.requestRoll).mode = s.mode := rfl
@[simp] theorem State.requestRoll_barredCause (s : State) : (s.requestRoll).barredCause = s.barredCause := rfl
@[simp] theorem State.requestRoll_resetCause (s : State) : (s.requestRoll).resetCause = s.resetCause := rfl
@[simp] theorem State.requestRoll_loader (s : State) : (s.requestRoll).loader = s.loader := rfl
@[simp] theorem State.requestRoll_plan (s : State) : (s.requestRoll).plan = s.plan := rfl
@[simp] theorem State.requestRoll_table (s : State) : (s.requestRoll).table = s.table := rfl
@[simp] theorem State.requestRoll_dir (s : State) : (s.requestRoll).dir = s.dir := rfl
@[simp] theorem State.requestRoll_lanes (s : State) : (s.requestRoll).lanes = s.lanes := rfl
@[simp] theorem State.requestRoll_clashBarred (s : State) : (s.requestRoll).clashBarred = s.clashBarred := rfl
@[simp] theorem State.requestRoll_bp (s : State) : (s.requestRoll).bp = s.bp := rfl
@[simp] theorem State.requestRoll_sel (s : State) : (s.requestRoll).sel = s.sel := rfl
@[simp] theorem State.requestRoll_joinQuiet (s : State) : (s.requestRoll).joinQuiet = s.joinQuiet := rfl
@[simp] theorem State.requestRoll_muteRest (s : State) : (s.requestRoll).muteRest = s.muteRest := rfl
@[simp] theorem State.requestRoll_joinMark (s : State) : (s.requestRoll).joinMark = s.joinMark := rfl
@[simp] theorem State.requestRoll_echoPointer (s : State) : (s.requestRoll).echoPointer = s.echoPointer := rfl
@[simp] theorem State.requestRoll_pending (s : State) : (s.requestRoll).pending = s.pending := rfl

/-! ### What each writes -/

@[simp] theorem State.setEntry_table (s : State) (k : Nat) (e : Entry) : (s.setEntry k e).table = s.table.set k e := rfl
@[simp] theorem State.setLane_lanes (s : State) (l : LaneId) (x : Lane) : (s.setLane l x).lanes = s.lanes.set l x := rfl
@[simp] theorem State.setPeer_dir (s : State) (x : Station) (r : PeerRec) : (s.setPeer x r).dir = s.dir.set x r := rfl
@[simp] theorem State.send_link (s : State) (f : Frame) : (s.send f).link = s.link.join (.fixed f) := rfl
@[simp] theorem State.withdraw_link (s : State) (p : Frame → Bool) : (s.withdraw p).link = s.link.withdraw p := rfl
@[simp] theorem State.requestReport_link (s : State) : s.requestReport.link = s.link.requestReport := rfl
@[simp] theorem State.requestRoll_link (s : State) : s.requestRoll.link = s.link.requestRoll := rfl
@[simp] theorem State.requestRoll_rollTimer (s : State) : s.requestRoll.rollTimer = some 250 := rfl

/-! ### Operations that are one of these -/

theorem State.releaseLane_eq (s : State) (l : LaneId) : s.releaseLane l = s.modLane l Lane.release := rfl
theorem State.endCtx_eq (s : State) (l : LaneId) : s.endCtx l = s.modLane l fun x => { x with ctx := .none } := rfl
theorem State.setLoc_eq (s : State) (k : Nat) (loc : RowLocal) :
    s.setLoc k loc = s.setEntry k { row := s.row k, loc := loc } := rfl
theorem State.putRow_eq (s : State) (k : Nat) (r : Row) :
    s.putRow k r = s.setEntry k { row := r, loc := (s.loc k).follow (s.standbyWanted k) r } := rfl
theorem State.bindLane_eq (s : State) (l : LaneId) (k : Nat) (role : LaneRole) (mark : ClaimMark) :
    s.bindLane l k role mark = s.modLane l (Lane.bind k (s.slotRec k) role mark) := rfl
@[simp] theorem Tuner.set_some (r : SlotRec) (t : Tuner) : t.set (some r) = { freq := r.freq, bandwidth := r.bandwidth } := rfl
@[simp] theorem Lane.enterTune_tuner (r : Option SlotRec) (x : Lane) : (x.enterTune r).tuner = x.tuner.set r := rfl
@[simp] theorem Lane.bind_tuner (k : Nat) (r : Option SlotRec) (role : LaneRole) (mark : ClaimMark) (x : Lane) :
    (x.bind k r role mark).tuner = x.tuner.set r := rfl
theorem State.sendCede_eq (s : State) (k : Nat) (role : CarriageRole) (l : LaneId) (reason : CedeReason) :
    s.sendCede k role l reason
      = s.send (.cede (byteOf k) (CarriageRole.byte role) (s.termOf k) (byteOf l.val) reason) := rfl
theorem State.owe_eq (s : State) (f : Frame) :
    s.owe f = { s with link := { s.link with owed := s.link.owed ++ [.fixed f] } } := rfl

/-! ### Reading back a lane -/

@[simp] theorem State.lane_setLane_self (s : State) (l : LaneId) (x : Lane) : (s.setLane l x).lane l = x := by
  simp [State.lane, State.setLane]

theorem State.lane_setLane_ne (s : State) {l m : LaneId} (x : Lane) (h : m ≠ l) : (s.setLane l x).lane m = s.lane m := by
  have h' : (l : Nat) ≠ m := fun e => h (Fin.ext e.symm)
  simp [State.lane, State.setLane, h']

@[simp] theorem State.lane_modLane_self (s : State) (l : LaneId) (f : Lane → Lane) :
    (s.modLane l f).lane l = f (s.lane l) := by
  simp [State.modLane]

theorem State.lane_modLane_ne (s : State) {l m : LaneId} (f : Lane → Lane) (h : m ≠ l) :
    (s.modLane l f).lane m = s.lane m := State.lane_setLane_ne s _ h

/-! ### Reading back a record of the directory -/

@[simp] theorem State.peer_setPeer_self (s : State) (x : Station) (r : PeerRec) : (s.setPeer x r).peer x = r := by
  simp [State.peer, State.setPeer]

theorem State.peer_setPeer_ne (s : State) {x y : Station} (r : PeerRec) (h : y ≠ x) :
    (s.setPeer x r).peer y = s.peer y := by
  have h' : (x : Nat) ≠ y := fun e => h (Fin.ext e.symm)
  simp [State.peer, State.setPeer, h']

/-! ### Reading back a row -/

@[simp] theorem State.length_setEntry (s : State) (k : Nat) (e : Entry) :
    (s.setEntry k e).table.length = s.table.length := by simp

theorem State.row_setEntry_self (s : State) {k : Nat} (e : Entry) (h : k < s.table.length) :
    (s.setEntry k e).row k = e.row := by
  simp [State.row, State.setEntry, h]

theorem State.loc_setEntry_self (s : State) {k : Nat} (e : Entry) (h : k < s.table.length) :
    (s.setEntry k e).loc k = e.loc := by
  simp [State.loc, State.setEntry, h]

theorem State.row_setEntry_ne (s : State) {k j : Nat} (e : Entry) (h : j ≠ k) : (s.setEntry k e).row j = s.row j := by
  simp [State.row, State.setEntry, List.getElem?_set_ne (Ne.symm h)]

theorem State.loc_setEntry_ne (s : State) {k j : Nat} (e : Entry) (h : j ≠ k) : (s.setEntry k e).loc j = s.loc j := by
  simp [State.loc, State.setEntry, List.getElem?_set_ne (Ne.symm h)]

/-- A slot the table has no row for reads UNKNOWN. -/
theorem State.row_of_length_le (s : State) {k : Nat} (h : s.table.length ≤ k) : s.row k = .unknown := by
  simp [State.row, List.getElem?_eq_none h]

/-- A row that is not UNKNOWN stands in the table. -/
theorem State.lt_length_of_row (s : State) {k : Nat} (h : s.row k ≠ .unknown) : k < s.table.length :=
  Nat.lt_of_not_le fun hle => h (s.row_of_length_le hle)

/-- The local data alone changes. -/
@[simp] theorem State.row_setLoc (s : State) (k j : Nat) (loc : RowLocal) : (s.setLoc k loc).row j = s.row j := by
  by_cases hj : j = k
  · subst hj
    by_cases h : j < s.table.length
    · exact s.row_setEntry_self _ h
    · have hle := Nat.le_of_not_lt h
      rw [s.row_of_length_le hle, (s.setLoc j loc).row_of_length_le (by simpa [State.setLoc_eq] using hle)]
  · exact s.row_setEntry_ne _ hj

theorem State.row_putRow_self (s : State) {k : Nat} (r : Row) (h : k < s.table.length) : (s.putRow k r).row k = r :=
  s.row_setEntry_self _ h

theorem State.row_putRow_ne (s : State) {k j : Nat} (r : Row) (h : j ≠ k) : (s.putRow k r).row j = s.row j :=
  s.row_setEntry_ne _ h

/-- A row is read from the table alone. -/
theorem State.row_congr {s t : State} (h : t.table = s.table) (k : Nat) : t.row k = s.row k := by
  simp [State.row, h]

/-- A lane is read from the lanes alone. -/
theorem State.lane_congr {s t : State} (h : t.lanes = s.lanes) (l : LaneId) : t.lane l = s.lane l := by
  simp [State.lane, h]

end Sys2Proof.Machine
end

