-- ==== Sys2Proof/Laws/Skeleton.lean ====
section
/-! SUPPORT. Skeleton.lean: the skeleton of a station is all that its blocks leave alone when they settle: the replicated rows,
the plan, the number, the directory, the selector, the backplane port, the loader, the frame on the line and the streaks, the causes and the waiting commands. The
operations on lanes, on the send queue and on local data keep it. -/

namespace Sys2Proof.Machine

/-- The link with the queue, its notes and what it owes blanked: the frame on the line, the marks, the streaks and the last roll
number remain. -/
def Link.wires (l : Link) : Link := { l with queue := [], notedRoll := false, notedReport := false, owed := [], due := [] }

/-- The station with the mode, the lanes, the send queue, the local data of rows and two timers blanked. -/
def State.skeleton (s : State) : State :=
  { s with
    mode := .loading, table := s.table.map Entry.stopClaims, lanes := Vector.replicate 4 Lane.reset,
    link := s.link.wires, rollTimer := none, joinQuiet := none }

/-! ### What equal skeletons share -/

section
variable {s t : State} (h : t.skeleton = s.skeleton)
include h

theorem plan_of_skeleton : t.plan = s.plan := (congrArg State.plan h :)
theorem number_of_skeleton : t.number = s.number := (congrArg State.number h :)
theorem dir_of_skeleton : t.dir = s.dir := (congrArg State.dir h :)
theorem sel_of_skeleton : t.sel = s.sel := (congrArg State.sel h :)
theorem bp_of_skeleton : t.bp = s.bp := (congrArg State.bp h :)
theorem pending_of_skeleton : t.pending = s.pending := (congrArg State.pending h :)
theorem loader_of_skeleton : t.loader = s.loader := (congrArg State.loader h :)
theorem lineFound_of_skeleton : t.lineFound = s.lineFound := (congrArg State.lineFound h :)
theorem inReset_of_skeleton : t.inReset = s.inReset := (congrArg State.inReset h :)
theorem barredCause_of_skeleton : t.barredCause = s.barredCause := (congrArg State.barredCause h :)
theorem resetCause_of_skeleton : t.resetCause = s.resetCause := (congrArg State.resetCause h :)
theorem clashBarred_of_skeleton : t.clashBarred = s.clashBarred := (congrArg State.clashBarred h :)
theorem muteRest_of_skeleton : t.muteRest = s.muteRest := (congrArg State.muteRest h :)
theorem joinMark_of_skeleton : t.joinMark = s.joinMark := (congrArg State.joinMark h :)
theorem echoPointer_of_skeleton : t.echoPointer = s.echoPointer := (congrArg State.echoPointer h :)

theorem wires_of_skeleton : t.link.wires = s.link.wires := (congrArg State.link h :)
theorem onAir_of_skeleton : t.link.onAir = s.link.onAir := (congrArg (fun x : State => x.link.onAir) h :)
theorem spoil_of_skeleton : t.link.spoil = s.link.spoil := (congrArg (fun x : State => x.link.spoil) h :)
theorem unseen_of_skeleton : t.link.unseen = s.link.unseen := (congrArg (fun x : State => x.link.unseen) h :)
theorem badRx_of_skeleton : t.link.badRx = s.link.badRx := (congrArg (fun x : State => x.link.badRx) h :)
theorem lastRoll_of_skeleton : t.link.lastRoll = s.link.lastRoll :=
  (congrArg (fun x : State => x.link.lastRoll) h :)

theorem peer_of_skeleton (x : Station) : t.peer x = s.peer x := by rw [State.peer, dir_of_skeleton h]; rfl

theorem stopClaims_of_skeleton : t.table.map Entry.stopClaims = s.table.map Entry.stopClaims :=
  (congrArg State.table h :)

theorem length_of_skeleton : t.table.length = s.table.length := by
  simpa using congrArg List.length (stopClaims_of_skeleton h)

theorem row_of_skeleton (k : Nat) : t.row k = s.row k := by
  have e : (t.table.map Entry.stopClaims)[k]? = (s.table.map Entry.stopClaims)[k]? := by
    rw [stopClaims_of_skeleton h]
  rw [List.getElem?_map, List.getElem?_map] at e
  rw [State.row, State.row]
  cases ht : t.table[k]? <;> cases hs : s.table[k]? <;> simp_all [Entry.stopClaims]

end

/-! ### The basic updates -/

theorem wires_discard (l : Link) (q : Option QFrame) : (l.discard q).wires = l.wires := by
  rw [Link.discard.eq_def]
  split
  · rfl
  · split <;> rfl

theorem wires_join (l : Link) (q : QFrame) : (l.join q).wires = l.wires := by
  rw [Link.join, wires_discard]
  rfl

theorem wires_requestRoll (l : Link) : l.requestRoll.wires = l.wires := by
  rw [Link.requestRoll]
  split
  · rfl
  · split
    · rfl
    · exact wires_join _ _

theorem wires_requestReport (l : Link) : l.requestReport.wires = l.wires := by
  rw [Link.requestReport]
  split
  · rfl
  · split
    · rfl
    · exact wires_join _ _

/-- A change of the link that keeps its wires. -/
theorem skeleton_link (s : State) (l : Link) (h : l.wires = s.link.wires) :
    ({ s with link := l } : State).skeleton = s.skeleton := by
  rw [State.skeleton, State.skeleton, h]

@[simp] theorem skeleton_send (s : State) (f : Frame) : (s.send f).skeleton = s.skeleton :=
  skeleton_link s _ (wires_join _ _)
@[simp] theorem skeleton_owe (s : State) (f : Frame) : (s.owe f).skeleton = s.skeleton := rfl
@[simp] theorem skeleton_withdraw (s : State) (p : Frame → Bool) : (s.withdraw p).skeleton = s.skeleton := rfl
@[simp] theorem skeleton_setLane (s : State) (l : LaneId) (x : Lane) : (s.setLane l x).skeleton = s.skeleton := rfl
@[simp] theorem skeleton_modLane (s : State) (l : LaneId) (f : Lane → Lane) : (s.modLane l f).skeleton = s.skeleton := rfl
@[simp] theorem skeleton_requestReport (s : State) : s.requestReport.skeleton = s.skeleton :=
  skeleton_link s _ (wires_requestReport _)
@[simp] theorem skeleton_requestRoll (s : State) : s.requestRoll.skeleton = s.skeleton :=
  skeleton_link s _ (wires_requestRoll _)
@[simp] theorem skeleton_queue (s : State) (q : List QEntry) :
    ({ s with link := { s.link with queue := q } } : State).skeleton = s.skeleton := rfl
@[simp] theorem skeleton_owed_due (s : State) (o d : List QFrame) :
    ({ s with link := { s.link with owed := o, due := d } } : State).skeleton = s.skeleton := rfl

@[simp] theorem skeleton_due (s : State) (d : List QFrame) :
    ({ s with link := { s.link with due := d } } : State).skeleton = s.skeleton := rfl

@[simp] theorem skeleton_framesFallDue (s : State) : s.framesFallDue.skeleton = s.skeleton := rfl
@[simp] theorem skeleton_mode (s : State) (m : Mode) : ({ s with mode := m } : State).skeleton = s.skeleton := rfl

@[simp] theorem skeleton_joined (s : State) :
    ({ s with mode := .joined, joinQuiet := none } : State).skeleton = s.skeleton := rfl

theorem List.map_set_same {α β : Type} (f : α → β) (xs : List α) (k : Nat) (x : α)
    (h : ∀ y, xs[k]? = some y → f x = f y) : (xs.set k x).map f = xs.map f := by
  apply List.ext_getElem?
  intro i
  rw [List.getElem?_map, List.getElem?_map]
  by_cases hi : k = i
  · subst hi
    by_cases hk : k < xs.length
    · rw [List.getElem?_set_self hk, List.getElem?_eq_getElem hk]
      exact congrArg some (h _ (List.getElem?_eq_getElem hk))
    · rw [List.getElem?_eq_none (by simpa using Nat.le_of_not_lt hk), List.getElem?_eq_none (Nat.le_of_not_lt hk)]
  · rw [List.getElem?_set_ne hi]

/-- A change of a row's local data alone. -/
@[simp] theorem skeleton_setLoc (s : State) (k : Nat) (loc : RowLocal) : (s.setLoc k loc).skeleton = s.skeleton := by
  have h : (s.setLoc k loc).table.map Entry.stopClaims = s.table.map Entry.stopClaims := by
    refine List.map_set_same _ _ _ _ fun y hy => ?_
    simp [Entry.stopClaims, State.row, hy]
  rw [State.skeleton, h]; rfl

/-! ### Loops -/

theorem skeleton_foldl {α : Type} (f : State → α → State) (h : ∀ s a, (f s a).skeleton = s.skeleton) (xs : List α)
    (s : State) : (xs.foldl f s).skeleton = s.skeleton := by
  induction xs generalizing s with
  | nil => rfl
  | cons x xs ih => rw [List.foldl_cons, ih, h]

theorem skeleton_forLanes (f : LaneId → State → State) (h : ∀ l s, (f l s).skeleton = s.skeleton) (s : State) :
    (s.forLanes f).skeleton = s.skeleton := skeleton_foldl _ (fun s l => h l s) _ s

/-! ### Lanes and frames -/

@[simp] theorem skeleton_releaseLane (s : State) (l : LaneId) :
    (State.releaseLane s l).skeleton = s.skeleton := by
  simp only [State.releaseLane]
  all_goals simp

@[simp] theorem skeleton_endCtx (s : State) (l : LaneId) :
    (State.endCtx s l).skeleton = s.skeleton := by
  simp only [State.endCtx]
  all_goals simp

@[simp] theorem skeleton_setCtx (s : State) (l : LaneId) (c : SwapCtx) :
    (State.setCtx s l c).skeleton = s.skeleton := by
  simp only [State.setCtx]
  all_goals simp

@[simp] theorem skeleton_sendCede (s : State) (k : Nat) (role : CarriageRole) (l : LaneId) (r : CedeReason) :
    (State.sendCede s k role l r).skeleton = s.skeleton := by
  simp only [State.sendCede]
  all_goals simp

@[simp] theorem skeleton_giveUp (s : State) (k : Nat) (role : CarriageRole) (l : LaneId) (r : CedeReason) :
    (State.giveUp s k role l r).skeleton = s.skeleton := by
  simp only [State.giveUp]
  all_goals simp

@[simp] theorem skeleton_offerSwap (s : State) (k : Nat) (l : LaneId) :
    (State.offerSwap s k l).skeleton = s.skeleton := by
  simp only [State.offerSwap]
  all_goals simp

@[simp] theorem skeleton_bindLane (s : State) (l : LaneId) (k : Nat) (role : LaneRole) (m : ClaimMark) :
    (State.bindLane s l k role m).skeleton = s.skeleton := by
  simp only [State.bindLane]
  all_goals simp

@[simp] theorem skeleton_namedInVain (s : State) (k : Nat) (l : LaneId) (role : CarriageRole) (r : CedeReason) (a : Bool) :
    (State.namedInVain s k l role r a).skeleton = s.skeleton := by
  simp only [State.namedInVain]
  repeat' split
  all_goals simp

@[simp] theorem skeleton_drainLane (s : State) (k : Nat) (l : LaneId) :
    (State.drainLane s k l).skeleton = s.skeleton := by
  simp only [State.drainLane]
  repeat' split
  all_goals simp

@[simp] theorem skeleton_drainIfResting (s : State) (k : Nat) (l : LaneId) :
    (State.drainIfResting s k l).skeleton = s.skeleton := by
  simp only [State.drainIfResting]
  repeat' split
  all_goals simp

@[simp] theorem skeleton_namedByCut (s : State) (k : Nat) (l : LaneId) (b : Bool) :
    (State.namedByCut s k l b).skeleton = s.skeleton := by
  simp only [State.namedByCut]
  repeat' split
  all_goals simp

@[simp] theorem skeleton_unnamed (s : State) (k : Nat) (l : LaneId) (role : CarriageRole) :
    (State.unnamed s k l role).skeleton = s.skeleton := by
  simp only [State.unnamed]
  repeat' split
  all_goals simp

@[simp] theorem skeleton_giverBack (s : State) (k : Nat) (l : LaneId) (a b : Bool) :
    (State.giverBack s k l a b).skeleton = s.skeleton := by
  simp only [State.giverBack]
  repeat' split
  all_goals simp

@[simp] theorem skeleton_giverKept (s : State) (k : Nat) (p : Pair) (a b : Bool) :
    (State.giverKept s k p a b).skeleton = s.skeleton := by
  simp only [State.giverKept]
  repeat' split
  all_goals simp

@[simp] theorem skeleton_dropTrial (s : State) (l : LaneId) :
    (State.dropTrial s l).skeleton = s.skeleton := by
  simp only [State.dropTrial]
  all_goals simp

@[simp] theorem skeleton_markTried (s : State) (k : Nat) :
    (State.markTried s k).skeleton = s.skeleton := by
  simp only [State.markTried]
  repeat' split
  all_goals simp

@[simp] theorem skeleton_markStandbyTried (s : State) (k : Nat) :
    (State.markStandbyTried s k).skeleton = s.skeleton := by
  simp only [State.markStandbyTried]
  all_goals simp

@[simp] theorem skeleton_failTrial (s : State) (l : LaneId) :
    (State.failTrial s l).skeleton = s.skeleton := by
  simp only [State.failTrial]
  repeat' split
  all_goals simp

@[simp] theorem skeleton_sendBid (s : State) (l : LaneId) :
    (State.sendBid s l).skeleton = s.skeleton := by
  simp only [State.sendBid]
  repeat' split
  all_goals simp

@[simp] theorem skeleton_settleTrial (l : LaneId) (s : State) :
    (State.settleTrial l s).skeleton = s.skeleton := by
  simp only [State.settleTrial]
  repeat' split
  all_goals simp

@[simp] theorem skeleton_assignOne (s : State) :
    (State.assignOne s).skeleton = s.skeleton := by
  simp only [State.assignOne]
  repeat' split
  all_goals simp

@[simp] theorem skeleton_assignStandbyOne (s : State) :
    (State.assignStandbyOne s).skeleton = s.skeleton := by
  simp only [State.assignStandbyOne]
  repeat' split
  all_goals simp

@[simp] theorem skeleton_assignLanes (s : State) :
    (State.assignLanes s).skeleton = s.skeleton := by
  simp only [State.assignLanes]
  repeat' split
  all_goals simp

@[simp] theorem skeleton_reclaim (s : State) (k : Nat) :
    (State.reclaim s k).skeleton = s.skeleton := by
  simp only [State.reclaim]
  repeat' split
  all_goals simp

@[simp] theorem skeleton_unheld (s : State) (l : LaneId) (k : Nat) :
    (State.unheld s l k).skeleton = s.skeleton := by
  simp only [State.unheld]
  repeat' split
  all_goals simp

@[simp] theorem skeleton_settleHeldLane (l : LaneId) (s : State) :
    (State.settleHeldLane l s).skeleton = s.skeleton := by
  simp only [State.settleHeldLane]
  repeat' split
  all_goals simp

@[simp] theorem skeleton_reclaimDone (s : State) (l : LaneId) (k : Nat) (role : CarriageRole) :
    (State.reclaimDone s l k role).skeleton = s.skeleton := by
  simp only [State.reclaimDone]
  repeat' split
  all_goals simp

/-! ### The swap unit -/

theorem skeleton_compareHold (s : State) (k : Nat) (t : Term) (wanted : Bool) (fuel : Nat) :
    (s.compareHold k t wanted fuel).skeleton = s.skeleton := by
  induction fuel generalizing s with
  | zero => rfl
  | succ n ih =>
    simp only [State.compareHold]
    repeat' split
    all_goals simp [ih]

@[simp] theorem skeleton_holdCheck (s : State) (l : LaneId) : (s.holdCheck l).skeleton = s.skeleton := by
  simp only [State.holdCheck]
  split
  · simp [skeleton_compareHold]
  · rfl

@[simp] theorem skeleton_holdsAgain (s : State) : s.holdsAgain.skeleton = s.skeleton := by
  refine skeleton_forLanes _ (fun l s => ?_) s
  simp only [State.holdAgain]
  repeat' split
  all_goals simp

@[simp] theorem skeleton_sendOver (s : State) (f : Frame) : (s.sendOver f).skeleton = s.skeleton := by
  simp [State.sendOver]

@[simp] theorem skeleton_withdrawMoot (s : State) : s.withdrawMoot.skeleton = s.skeleton := rfl

@[simp] theorem skeleton_openTaker (s : State) (l : LaneId) (k : Nat) (t : Term) :
    (State.openTaker s l k t).skeleton = s.skeleton := by
  simp only [State.openTaker]
  all_goals simp

@[simp] theorem skeleton_judgeTaker (s : State) (l : LaneId) (a b c : Bool) :
    (State.judgeTaker s l a b c).skeleton = s.skeleton := by
  simp only [State.judgeTaker]
  repeat' split
  all_goals simp

@[simp] theorem skeleton_traceArrival (s : State) (l : LaneId) (e : TraceEntry) :
    (State.traceArrival s l e).skeleton = s.skeleton := by
  simp only [State.traceArrival]
  repeat' split
  all_goals simp

@[simp] theorem skeleton_pairArrival (s : State) (l : LaneId) :
    (State.pairArrival s l).skeleton = s.skeleton := by
  simp only [State.pairArrival]
  repeat' split
  all_goals simp

@[simp] theorem skeleton_alignExpired (s : State) (l : LaneId) :
    (State.alignExpired s l).skeleton = s.skeleton := by
  simp only [State.alignExpired]
  repeat' split
  all_goals simp

@[simp] theorem skeleton_takerDrains (s : State) (l : LaneId) (k : Nat) (t : Term) :
    (State.takerDrains s l k t).skeleton = s.skeleton := by
  simp only [State.takerDrains]
  repeat' split
  all_goals simp

@[simp] theorem skeleton_takerGo (s : State) (l : LaneId) :
    (State.takerGo s l).skeleton = s.skeleton := by
  simp only [State.takerGo]
  repeat' split
  all_goals simp

@[simp] theorem skeleton_settleGiver (s : State) (l : LaneId) (k : Nat) (t : Term) (st : GiverStage) :
    (State.settleGiver s l k t st).skeleton = s.skeleton := by
  simp only [State.settleGiver]
  repeat' split
  all_goals simp

@[simp] theorem skeleton_settleTaker (s : State) (l : LaneId) (k : Nat) (t : Term) (st : TakerStage) (al : Option Nat) :
    (State.settleTaker s l k t st al).skeleton = s.skeleton := by
  simp only [State.settleTaker]
  repeat' split
  all_goals simp

@[simp] theorem skeleton_settleSwap (l : LaneId) (s : State) :
    (State.settleSwap l s).skeleton = s.skeleton := by
  simp only [State.settleSwap]
  repeat' split
  all_goals simp

@[simp] theorem skeleton_sendAgain (s : State) (q : QFrame) : (s.sendAgain q).skeleton = s.skeleton := by
  rw [State.sendAgain.eq_def]
  split
  · refine skeleton_forLanes _ (fun l s => ?_) _
    split <;> simp
  · split <;> simp
  · rfl

@[simp] theorem skeleton_sendDue (s : State) : s.sendDue.skeleton = s.skeleton := by
  rw [State.sendDue, skeleton_foldl _ skeleton_sendAgain]
  rfl

/-! ### Settling -/

@[simp] theorem skeleton_replaceRow (k : Nat) (s : State) : (State.replaceRow k s).skeleton = s.skeleton := by
  rw [State.replaceRow, skeleton_forLanes]
  · simp
  · intro l s
    dsimp only
    repeat' split
    all_goals simp

@[simp] theorem skeleton_replace (s : State) : s.replace.skeleton = s.skeleton :=
  skeleton_foldl _ (fun s k => skeleton_replaceRow k s) _ s

@[simp] theorem skeleton_quietStale (s : State) : s.quietStale.skeleton = s.skeleton := by
  refine skeleton_foldl _ (fun s x => ?_) _ s
  split <;> simp

@[simp] theorem skeleton_enterJoined (s : State) : s.enterJoined.skeleton = s.skeleton := by
  rw [State.enterJoined]; simp

@[simp] theorem skeleton_joinIfComplete (s : State) :
    (State.joinIfComplete s).skeleton = s.skeleton := by
  simp only [State.joinIfComplete]
  repeat' split
  all_goals simp

@[simp] theorem skeleton_assignHome (k : Nat) (s : State) :
    (State.assignHome k s).skeleton = s.skeleton := by
  simp only [State.assignHome]
  repeat' split
  all_goals simp

@[simp] theorem skeleton_homeAssignment (s : State) : s.homeAssignment.skeleton = s.skeleton := by
  rw [State.homeAssignment]
  split
  · exact skeleton_foldl _ (fun s k => skeleton_assignHome k s) _ s
  · rfl

/-- What settling leaves alone, once for all commands: only the mode, the lanes, the link, local data of rows, the roll timer
and the join quiet timer can change. -/
@[simp] theorem skeleton_settle (s : State) (c : Bool) : (s.settle c).skeleton = s.skeleton := by
  simp only [State.settle]
  split
  · simp
  · split
    · rfl
    · have h1 := skeleton_forLanes State.settleTrial skeleton_settleTrial
      have h2 := skeleton_forLanes State.settleHeldLane skeleton_settleHeldLane
      have h3 := skeleton_forLanes State.settleSwap skeleton_settleSwap
      cases c <;> simp [h1, h2, h3]

/-! ### Lane events -/

@[simp] theorem skeleton_lossFrames (s : State) (l : LaneId) :
    (State.lossFrames s l).skeleton = s.skeleton := by
  simp only [State.lossFrames]
  repeat' split
  all_goals simp

@[simp] theorem skeleton_boundLoss (s : State) (l : LaneId) :
    (State.boundLoss s l).skeleton = s.skeleton := by
  simp only [State.boundLoss]
  all_goals simp

@[simp] theorem skeleton_lost (s : State) (l : LaneId) :
    (State.lost s l).skeleton = s.skeleton := by
  simp only [State.lost]
  repeat' split
  all_goals simp

@[simp] theorem skeleton_acquisitionFails (s : State) (l : LaneId) :
    (State.acquisitionFails s l).skeleton = s.skeleton := by
  simp only [State.acquisitionFails]
  repeat' split
  all_goals simp

@[simp] theorem skeleton_stageExpired (s : State) (l : LaneId) (st : AcqStage) :
    (State.stageExpired s l st).skeleton = s.skeleton := by
  simp only [State.stageExpired]
  repeat' split
  all_goals simp

@[simp] theorem skeleton_holdoverExpired (s : State) (l : LaneId) :
    (State.holdoverExpired s l).skeleton = s.skeleton := by
  simp only [State.holdoverExpired]
  repeat' split
  all_goals simp

@[simp] theorem skeleton_spendLoss (s : State) (l : LaneId) :
    (State.spendLoss s l).skeleton = s.skeleton := by
  simp only [State.spendLoss]
  repeat' split
  all_goals simp

@[simp] theorem skeleton_retryEnd (s : State) (l : LaneId) :
    (State.retryEnd s l).skeleton = s.skeleton := by
  simp only [State.retryEnd]
  repeat' split
  all_goals simp

@[simp] theorem skeleton_tuneEnd (s : State) (l : LaneId) :
    (State.tuneEnd s l).skeleton = s.skeleton := by
  simp only [State.tuneEnd]
  repeat' split
  all_goals simp

@[simp] theorem skeleton_guard (s : State) (l : LaneId) :
    (State.guard s l).skeleton = s.skeleton := by
  simp only [State.guard]
  repeat' split
  all_goals simp

@[simp] theorem skeleton_lockMinute (s : State) (l : LaneId) :
    (State.lockMinute s l).skeleton = s.skeleton := by
  simp only [State.lockMinute]
  repeat' split
  all_goals simp

@[simp] theorem skeleton_lockedEvent (s : State) (l : LaneId) (b : Bool) :
    (State.lockedEvent s l b).skeleton = s.skeleton := by
  simp only [State.lockedEvent]
  repeat' split
  all_goals simp

@[simp] theorem skeleton_acq3Lock (s : State) (l : LaneId) (p : Nat) :
    (State.acq3Lock s l p).skeleton = s.skeleton := by
  simp only [State.acq3Lock]
  all_goals simp

@[simp] theorem skeleton_holdoverBack (s : State) (l : LaneId) (p : Nat) :
    (State.holdoverBack s l p).skeleton = s.skeleton := by
  simp only [State.holdoverBack]
  all_goals simp

@[simp] theorem skeleton_hit (s : State) (l : LaneId) (p : Nat) :
    (State.hit s l p).skeleton = s.skeleton := by
  simp only [State.hit]
  repeat' split
  all_goals simp

@[simp] theorem skeleton_miss (s : State) (l : LaneId) (p : Nat) :
    (State.miss s l p).skeleton = s.skeleton := by
  simp only [State.miss]
  repeat' split
  all_goals simp

@[simp] theorem skeleton_periodTaken (s : State) (l : LaneId) (m : Nat) :
    (State.periodTaken s l m).skeleton = s.skeleton := by
  simp only [State.periodTaken]
  all_goals simp

@[simp] theorem skeleton_trigger (s : State) (l : LaneId) :
    (State.trigger s l).skeleton = s.skeleton := by
  simp only [State.trigger]
  repeat' split
  all_goals simp

@[simp] theorem skeleton_renewBid (s : State) (l : LaneId) :
    (State.renewBid s l).skeleton = s.skeleton := by
  simp only [State.renewBid]
  repeat' split
  all_goals simp

@[simp] theorem skeleton_clashTaken (s : State) (l : LaneId) :
    (State.clashTaken s l).skeleton = s.skeleton := by
  simp only [State.clashTaken]
  repeat' split
  all_goals simp

@[simp] theorem skeleton_periodClose (s : State) (l : LaneId) (m : Nat) :
    (State.periodClose s l m).skeleton = s.skeleton := by
  simp only [State.periodClose]
  repeat' split
  all_goals simp

@[simp] theorem skeleton_packetArrives (s : State) (l : LaneId) (p : Nat) (b : List Byte) (u : Bool) :
    (State.packetArrives s l p b u).skeleton = s.skeleton := by
  simp only [State.packetArrives]
  repeat' split
  all_goals simp

/-! ### Frames and timers that change no row -/

@[simp] theorem skeleton_restLane (l : LaneId) (s : State) : (State.restLane l s).skeleton = s.skeleton := by
  simp only [State.restLane]
  repeat' split
  all_goals simp

@[simp] theorem skeleton_enterResting (s : State) : s.enterResting.skeleton = s.skeleton := by
  rw [State.enterResting, skeleton_forLanes _ skeleton_restLane]
  simp

@[simp] theorem skeleton_ownBidAccepted (s : State) (l : LaneId) (k : Nat) (role : CarriageRole) :
    (State.ownBidAccepted s l k role).skeleton = s.skeleton := by
  simp only [State.ownBidAccepted]
  repeat' split
  all_goals simp

@[simp] theorem skeleton_ownBidIgnored (s : State) (l : LaneId) (k : Nat) (role : CarriageRole) (t : Term) :
    (State.ownBidIgnored s l k role t).skeleton = s.skeleton := by
  simp only [State.ownBidIgnored]
  repeat' split
  all_goals simp

@[simp] theorem skeleton_doneCarrier (s : State) (k : Nat) (l : LaneId) :
    (State.doneCarrier s k l).skeleton = s.skeleton := by
  simp only [State.doneCarrier]
  repeat' split
  all_goals simp

@[simp] theorem skeleton_doneStandby (s : State) (k : Nat) (l : LaneId) :
    (State.doneStandby s k l).skeleton = s.skeleton := by
  simp only [State.doneStandby]
  repeat' split
  all_goals simp

@[simp] theorem skeleton_dropStandby (s : State) (k : Nat) (l : LaneId) :
    (State.dropStandby s k l).skeleton = s.skeleton := by
  simp only [State.dropStandby]
  repeat' split
  all_goals simp

@[simp] theorem skeleton_resendVoid (s : State) (f : Frame) :
    (State.resendVoid s f).skeleton = s.skeleton := by
  simp only [State.resendVoid]
  repeat' split
  all_goals simp

@[simp] theorem skeleton_rollExpired (s : State) :
    (State.rollExpired s).skeleton = s.skeleton := by
  simp only [State.rollExpired]
  repeat' split
  all_goals simp

@[simp] theorem skeleton_bidDue (s : State) (k : Nat) :
    (State.bidDue s k).skeleton = s.skeleton := by
  simp only [State.bidDue]
  repeat' split
  all_goals simp

@[simp] theorem skeleton_standbyBidDue (s : State) (k : Nat) :
    (State.standbyBidDue s k).skeleton = s.skeleton := by
  simp only [State.standbyBidDue]
  repeat' split
  all_goals simp

@[simp] theorem skeleton_reclaimExpired (s : State) (k : Nat) :
    (State.reclaimExpired s k).skeleton = s.skeleton := by
  simp only [State.reclaimExpired]
  repeat' split
  all_goals simp

end Sys2Proof.Machine
end

