-- ==== Sys2Proof/Laws/Clocks.lean ====
section
/-! SUPPORT. Clocks.lean: what the clocks of a window say agrees with what the outlet port does with the whole window (R127, R208). -/

namespace Sys2Proof.Machine

/-- In every clock of a packet the lines carry its byte and its marks, in the last four clocks of the window nothing (R208). -/
theorem linesAt_data (d : Driven) {clock : Nat} (h : clock < 188) :
    d.linesAt clock = { data := d.packet.bytes.getD clock 0#8, valid := true, last := d.last } := if_pos h

theorem linesAt_tail (d : Driven) {clock : Nat} (h : 188 ≤ clock) : d.linesAt clock = .recessive :=
  if_neg (Nat.not_lt.2 h)

theorem combine_length_eq (as bs : List Byte) (h : as.length = bs.length) : (combine as bs).length = as.length := by
  induction as generalizing bs with
  | nil => cases bs with
    | nil => rfl
    | cons b bs => exact absurd h (by simp)
  | cons a as ih => cases bs with
    | nil => exact absurd h (by simp)
    | cons b bs => simp only [combine, List.length_cons, ih bs (by simpa using h)]

theorem combine_getD (as bs : List Byte) (h : as.length = bs.length) (k : Nat) :
    (combine as bs).getD k 0#8 = as.getD k 0#8 ||| bs.getD k 0#8 := by
  induction as generalizing bs k with
  | nil => cases bs with
    | nil => simp [combine]
    | cons b bs => exact absurd h (by simp)
  | cons a as ih => cases bs with
    | nil => exact absurd h (by simp)
    | cons b bs => cases k with
      | zero => rfl
      | succ k => simpa [combine] using ih bs (by simpa using h) k

/-- Two byte lists of one length are equal where they are equal in every place. -/
theorem eq_of_getD (as bs : List Byte) (h : as.length = bs.length) (hk : ∀ k, k < as.length → as.getD k 0#8 = bs.getD k 0#8) :
    as = bs := by
  refine List.ext_getElem h fun k h1 h2 => ?_
  have := hk k h1
  rwa [List.getD_eq_getElem _ _ h1, List.getD_eq_getElem _ _ h2] at this

/-- The read-back of a window differs exactly where some clock of its 188 reads something other than what the station drove in it
(R127, R208). -/
theorem readBackDiffers_clocks (d : Driven) (clocks : List BusLines) (hb : d.packet.bytes.length = 188)
    (hc : 188 ≤ clocks.length) :
    readBackDiffers d (windowOf clocks) = true
      ↔ ∃ k, k < 188 ∧ (d.linesAt k).join (clocks.getD k .recessive) ≠ d.linesAt k := by
  have hl : d.packet.bytes.length = ((clocks.take dataClocks).map BusLines.data).length := by
    simp [dataClocks, hb, hc]
  have hdata : ∀ k, k < 188 → ((clocks.take dataClocks).map BusLines.data).getD k 0#8
      = (clocks.getD k .recessive).data := by
    intro k hk
    have hk' : k < clocks.length := by omega
    simp [List.getD, dataClocks, hk, hk']
  have hjoin : ∀ k, k < 188 → ((d.linesAt k).join (clocks.getD k .recessive) ≠ d.linesAt k
      ↔ (combine d.packet.bytes ((clocks.take dataClocks).map BusLines.data)).getD k 0#8 ≠ d.packet.bytes.getD k 0#8
        ∨ ((clocks.getD k .recessive).last = true ∧ d.last = false)) := by
    intro k hk
    rw [linesAt_data d hk, combine_getD _ _ hl, hdata k hk]
    simp only [BusLines.join, Bool.true_or, ne_eq, BusLines.mk.injEq, true_and]
    cases d.last <;> cases (clocks.getD k .recessive).last <;> simp
  constructor
  · intro h
    simp only [readBackDiffers, windowOf, Bool.or_eq_true, bne_iff_ne, Bool.and_eq_true, Bool.not_eq_true'] at h
    rcases h with h | ⟨h, hlast⟩
    · refine Classical.byContradiction fun hno => h ?_
      refine eq_of_getD _ _ (combine_length_eq _ _ hl) fun k hk => ?_
      rw [combine_length_eq _ _ hl, hb] at hk
      exact Classical.byContradiction fun hne => hno ⟨k, hk, (hjoin k hk).2 (.inl hne)⟩
    · obtain ⟨x, hx, hxl⟩ := List.any_eq_true.1 h
      obtain ⟨k, hk, rfl⟩ := List.getElem_of_mem hx
      have hk2 : k < 188 ∧ k < clocks.length := by simpa [dataClocks] using hk
      refine ⟨k, hk2.1, (hjoin k hk2.1).2 (.inr ⟨?_, hlast⟩)⟩
      rw [List.getD_eq_getElem _ _ hk2.2]
      simpa using hxl
  · rintro ⟨k, hk, h⟩
    simp only [readBackDiffers, windowOf, Bool.or_eq_true, bne_iff_ne, Bool.and_eq_true, Bool.not_eq_true']
    rcases (hjoin k hk).1 h with h | ⟨h, hlast⟩
    · exact .inl fun he => h (by rw [he])
    · refine .inr ⟨List.any_eq_true.2 ?_, hlast⟩
      have hk' : k < clocks.length := by omega
      rw [List.getD_eq_getElem _ _ hk'] at h
      exact ⟨_, List.mem_take_iff_getElem.2 ⟨k, by simp [dataClocks]; omega, rfl⟩, h⟩

/-- A window that the station drove reads, clock by clock, what the outlet port takes at its end: the combined bytes, VALID, and LAST
where either placed it (R124, R131, R208). -/
theorem windowOf_driven (d : Driven) (clocks : List BusLines) (hb : d.packet.bytes.length = 188) (hc : clocks.length = 192) :
    let w := windowOf ((List.range 192).map fun k => (d.linesAt k).join (clocks.getD k .recessive))
    w.bytes = combine d.packet.bytes (windowOf clocks).bytes ∧ w.valid = true ∧ w.last = (d.last || (windowOf clocks).last) := by
  have ht : ((List.range 192).map fun k => (d.linesAt k).join (clocks.getD k .recessive)).take dataClocks
      = (List.range 188).map fun k => (d.linesAt k).join (clocks.getD k .recessive) := by
    rw [← List.map_take, List.take_range]; rfl
  have hl : d.packet.bytes.length = (windowOf clocks).bytes.length := by simp [windowOf, dataClocks, hb, hc]
  refine ⟨?_, ?_, ?_⟩
  · refine eq_of_getD _ _ (by rw [combine_length_eq _ _ hl, hb]; simp only [windowOf, ht]; simp) fun k hk => ?_
    have hk : k < 188 := by simp only [windowOf, ht] at hk; simpa using hk
    have hk' : k < clocks.length := by omega
    rw [combine_getD _ _ hl]
    simp only [windowOf, ht]
    simp [List.getD, hk, hk', linesAt_data d hk, BusLines.join, dataClocks]
  · simp only [windowOf, ht]; rfl
  · simp only [windowOf, ht]
    match clocks, hc with
    | c :: cs, _ => rfl

/-! ### The commands that the clocks bring keep the outlet port's place -/

theorem bp_homeAssignment (s : State) : s.homeAssignment.bp = s.bp := bp_of_skeleton (by simp)

theorem bp_markClash (s : State) (d : Driven) : (s.markClash d).bp = s.bp := by
  simp only [State.markClash]
  split
  · exact bp_homeAssignment _
  · rfl

theorem bp_countPlaced (s : State) (d : Driven) : (s.countPlaced d).bp = s.bp := by
  simp only [State.countPlaced]
  repeat' split
  all_goals first | rfl | exact bp_of_skeleton (by simp [State.sendOver])

theorem bp_placed (s : State) (d : Driven) (w : WindowLines) : (s.placed d w).bp = s.bp := by
  simp only [State.placed]
  split
  · rw [bp_markClash, bp_countPlaced]
  · exact bp_countPlaced s d

theorem bp_readWindow (s : State) (n : Nat) (r : LaneId × Nat) (bytes : List Byte) (valid last : Bool) :
    (s.readWindow n r bytes valid last).bp = s.bp := by
  simp only [State.readWindow]
  split
  · exact bp_of_skeleton (skeleton_traceArrival _ _ _)
  · rfl

/-- The end of a window leaves the outlet port before the next outlet, or waiting for a frame mark (R123). -/
theorem bp_windowEnds (s : State) (w : WindowLines) {n : Nat} (h : s.bp.pos = .inside n) :
    (s.windowEnds w).bp = { pos := if n < 19 then .between (n + 1) else .awaiting, driven := none, reader := none } := by
  simp only [State.windowEnds, h]
  cases s.bp.driven <;> cases s.bp.reader <;> simp [bp_placed, bp_readWindow]

theorem pos_startWindow (s : State) (n : Nat) : (s.startWindow n).bp.pos = .inside n := by
  simp only [State.startWindow]
  repeat' split
  all_goals rfl

/-- Where the outlet port stands after the command that a clock brings is where the clock has put it (R123, R208). -/
theorem pos_busClock (s : State) (clocks : List BusLines) (frameMark : Bool) (others : BusLines) :
    let r := busClock s.bp.pos clocks frameMark others
    (r.2.2 = [] → r.1 = s.bp.pos) ∧ ∀ c ∈ r.2.2, ∃ t, exec c s = .next t ∧ t.bp.pos = r.1 := by
  cases hp : s.bp.pos <;> cases frameMark
  case awaiting.false => simp [busClock]
  case awaiting.true =>
    simp only [busClock, List.mem_singleton, forall_eq]
    exact ⟨nofun, _, rfl, pos_startWindow s 0⟩
  case between.true n =>
    simp only [busClock, List.mem_singleton, forall_eq]
    exact ⟨nofun, _, rfl, pos_startWindow s 0⟩
  case between.false n =>
    simp only [busClock, List.mem_singleton, forall_eq]
    exact ⟨nofun, _, rfl, by simp [State.windowStarts, hp, pos_startWindow]⟩
  case inside.true n =>
    simp only [busClock, List.mem_singleton, forall_eq]
    exact ⟨nofun, _, rfl, by simp [State.cutShort, hp, pos_startWindow]⟩
  case inside.false n =>
    simp only [busClock]
    split
    · simp
    · simp only [List.mem_singleton, forall_eq]
      exact ⟨nofun, _, rfl, by rw [bp_windowEnds s _ hp]⟩

end Sys2Proof.Machine
end

