-- ==== Sys2Proof/Laws/Lanes.lean ====
section
/-! SUPPORT. Lanes.lean: an operation on one lane leaves the others, and settling leaves every lane that is in no trial, HELD for no
slot, in no swap and not available. -/

namespace Sys2Proof.Machine

open Sys2Proof.Safety

/-! ### One lane at a time -/

theorem lane_withdraw (s : State) (p : Frame → Bool) (m : LaneId) : (s.withdraw p).lane m = s.lane m := rfl
theorem lane_withdrawMoot (s : State) (m : LaneId) : s.withdrawMoot.lane m = s.lane m := rfl
theorem lane_send (s : State) (f : Frame) (m : LaneId) : (s.send f).lane m = s.lane m := rfl
theorem lane_setLoc (s : State) (k : Nat) (loc : RowLocal) (m : LaneId) : (s.setLoc k loc).lane m = s.lane m := rfl
theorem lane_setEntry (s : State) (k : Nat) (e : Entry) (m : LaneId) : (s.setEntry k e).lane m = s.lane m := rfl
theorem lane_sendCede (s : State) (k : Nat) (role : CarriageRole) (l : LaneId) (r : CedeReason) (m : LaneId) :
    (s.sendCede k role l r).lane m = s.lane m := rfl
theorem lane_requestRoll (s : State) (m : LaneId) : s.requestRoll.lane m = s.lane m := rfl

theorem lane_releaseLane_ne (s : State) {l m : LaneId} (h : m ≠ l) : (s.releaseLane l).lane m = s.lane m :=
  State.lane_modLane_ne s _ h
theorem lane_endCtx_ne (s : State) {l m : LaneId} (h : m ≠ l) : (s.endCtx l).lane m = s.lane m :=
  State.lane_modLane_ne s _ h
theorem lane_setCtx_ne (s : State) {l m : LaneId} (c : SwapCtx) (h : m ≠ l) : (s.setCtx l c).lane m = s.lane m :=
  State.lane_modLane_ne s _ h
theorem lane_bindLane_ne (s : State) {l m : LaneId} (k : Nat) (role : LaneRole) (mk : ClaimMark) (h : m ≠ l) :
    (s.bindLane l k role mk).lane m = s.lane m := State.lane_modLane_ne s _ h
theorem lane_dropTrial_ne (s : State) {l m : LaneId} (h : m ≠ l) : (s.dropTrial l).lane m = s.lane m :=
  State.lane_modLane_ne _ _ h
theorem lane_giveUp_ne (s : State) (k : Nat) (role : CarriageRole) {l m : LaneId} (r : CedeReason) (h : m ≠ l) :
    (s.giveUp k role l r).lane m = s.lane m := by
  rw [State.giveUp, lane_sendCede, lane_withdraw, lane_endCtx_ne _ h, lane_releaseLane_ne _ h]
theorem lane_offerSwap_ne (s : State) (k : Nat) {l m : LaneId} (h : m ≠ l) : (s.offerSwap k l).lane m = s.lane m := by
  rw [State.offerSwap, lane_send, State.lane_modLane_ne _ _ h]

theorem lane_drainLane_ne (s : State) (k : Nat) {l m : LaneId} (h : m ≠ l) : (s.drainLane k l).lane m = s.lane m := by
  rw [State.drainLane]
  split
  · split
    · exact lane_offerSwap_ne s k h
    · exact lane_giveUp_ne s k _ _ h
  · exact lane_giveUp_ne s k _ _ h
  · rfl

theorem lane_drainIfResting_ne (s : State) (k : Nat) {l m : LaneId} (h : m ≠ l) :
    (s.drainIfResting k l).lane m = s.lane m := by
  rw [State.drainIfResting]
  split
  · exact lane_drainLane_ne s k h
  · rfl

theorem lane_unheld_ne (s : State) {l m : LaneId} (k : Nat) (h : m ≠ l) : (s.unheld l k).lane m = s.lane m := by
  simp only [State.unheld]
  repeat' split
  all_goals
    first
    | exact lane_releaseLane_ne _ h
    | (rw [lane_drainIfResting_ne _ _ h]; exact State.lane_modLane_ne _ _ h)

theorem lane_settleHeldLane_ne (s : State) {l m : LaneId} (h : m ≠ l) :
    (State.settleHeldLane l s).lane m = s.lane m := by
  simp only [State.settleHeldLane]
  repeat' split
  all_goals first | rfl | (rw [lane_unheld_ne _ _ h, lane_withdraw])

theorem lane_settleTrial_ne (s : State) {l m : LaneId} (h : m ≠ l) : (State.settleTrial l s).lane m = s.lane m := by
  simp only [State.settleTrial]
  split
  · exact lane_dropTrial_ne s h
  · rfl

theorem lane_settleGiver_ne (s : State) {l m : LaneId} (k : Nat) (t : Term) (st : GiverStage) (h : m ≠ l) :
    (s.settleGiver l k t st).lane m = s.lane m := by
  have h1 : ((s.withdraw (isGiverFrame k)).endCtx l).lane m = s.lane m := lane_endCtx_ne _ h
  simp only [State.settleGiver]
  repeat' split
  · rfl
  · rfl
  · exact (lane_giveUp_ne _ _ _ _ h).trans h1
  · exact h1

theorem lane_settleTaker_ne (s : State) {l m : LaneId} (k : Nat) (t : Term) (st : TakerStage) (al : Option Nat)
    (h : m ≠ l) : (s.settleTaker l k t st al).lane m = s.lane m := by
  simp only [State.settleTaker]
  repeat' split
  · exact lane_setCtx_ne _ _ h
  · rfl
  · exact lane_endCtx_ne _ h

theorem lane_settleSwap_ne (s : State) {l m : LaneId} (h : m ≠ l) : (State.settleSwap l s).lane m = s.lane m := by
  rw [State.settleSwap]
  split
  · rfl
  · exact lane_settleGiver_ne s _ _ _ h
  · exact lane_settleTaker_ne s _ _ _ _ h

/-! ### Frames queued again change no lane -/

theorem lane_compareHold (s : State) (k : Nat) (t : Term) (w : Bool) (n : Nat) (m : LaneId) :
    (s.compareHold k t w n).lane m = s.lane m := by
  induction n generalizing s with
  | zero => rfl
  | succ n ih =>
    simp only [State.compareHold]
    repeat' split
    all_goals first | rfl | (rw [ih]; rfl)

theorem lane_holdCheck (s : State) (l m : LaneId) : (s.holdCheck l).lane m = s.lane m := by
  simp only [State.holdCheck]
  split
  · rw [lane_compareHold]; rfl
  · rfl

theorem lane_foldl {α : Type} (f : State → α → State) (m : LaneId) (h : ∀ s a, (f s a).lane m = s.lane m) (xs : List α)
    (s : State) : (xs.foldl f s).lane m = s.lane m := by
  induction xs generalizing s with
  | nil => rfl
  | cons x xs ih => rw [List.foldl_cons, ih, h]

/-- The comparison of R67 changes the link alone. -/
theorem lane_holdsAgain (s : State) (m : LaneId) : s.holdsAgain.lane m = s.lane m := by
  refine lane_foldl _ m (fun s l => ?_) _ s
  simp only [State.holdAgain]
  split
  · split
    · exact lane_holdCheck s l m
    · rfl
  · rfl

theorem lane_sendAgain (s : State) (q : QFrame) (m : LaneId) : (s.sendAgain q).lane m = s.lane m := by
  rw [State.sendAgain.eq_def]
  split
  · refine lane_foldl _ m (fun s l => ?_) _ s
    dsimp only
    split
    · exact lane_holdCheck s l m
    · rfl
  · split <;> rfl
  · rfl

theorem lane_sendDue (s : State) (m : LaneId) : s.sendDue.lane m = s.lane m := by
  rw [State.sendDue, lane_foldl _ m fun s q => lane_sendAgain s q m]
  rfl

theorem lane_enterJoined (s : State) (m : LaneId) : s.enterJoined.lane m = s.lane m := by
  rw [State.enterJoined, State.quietStale, lane_foldl]
  · rfl
  · intro s x
    split <;> rfl

/-! ### A settled lane -/

theorem lane_foldl_settled {α : Type} (f : State → α → State) (m : LaneId)
    (h : ∀ s a, Settled (s.lane m) → (f s a).lane m = s.lane m) (xs : List α) (s : State) (hs : Settled (s.lane m)) :
    (xs.foldl f s).lane m = s.lane m := by
  induction xs generalizing s with
  | nil => rfl
  | cons x xs ih =>
    rw [List.foldl_cons, ih _ (by rw [h s x hs]; exact hs), h s x hs]

theorem lane_settleTrial_settled (s : State) (l m : LaneId) (h : Settled (s.lane m)) :
    (State.settleTrial l s).lane m = s.lane m := by
  by_cases e : m = l
  · subst e
    simp [State.settleTrial, h.1]
  · exact lane_settleTrial_ne s e

theorem lane_settleHeldLane_settled (s : State) (l m : LaneId) (h : Settled (s.lane m)) :
    (State.settleHeldLane l s).lane m = s.lane m := by
  by_cases e : m = l
  · subst e
    simp only [State.settleHeldLane]
    split
    · rename_i hm _
      exact absurd h.2.1 (by rw [hm]; simp [ClaimMark.isHeld])
    · rfl
  · exact lane_settleHeldLane_ne s e

theorem lane_settleSwap_settled (s : State) (l m : LaneId) (h : Settled (s.lane m)) :
    (State.settleSwap l s).lane m = s.lane m := by
  by_cases e : m = l
  · subst e
    simp only [State.settleSwap, h.2.2.1]
  · exact lane_settleSwap_ne s e

theorem lane_replace_settled (s : State) (m : LaneId) (h : Settled (s.lane m)) : s.replace.lane m = s.lane m := by
  refine lane_foldl_settled _ m (fun s k hs => ?_) _ s h
  rw [State.replaceRow]
  refine lane_foldl_settled _ m (fun s l hs => ?_) _ _ hs
  by_cases e : m = l
  · subst e
    simp [hs.1]
  · dsimp only
    repeat' split
    all_goals first | rfl | exact lane_dropTrial_ne s e

theorem availableLane_available {s : State} {l : LaneId} (h : s.availableLane = some l) :
    (s.lane l).available = true := by
  simpa using List.find?_some h

theorem ne_of_availableLane {s : State} {l m : LaneId} (h : s.availableLane = some l) (hm : Settled (s.lane m)) :
    m ≠ l := by
  rintro rfl
  have := availableLane_available h
  rw [hm.2.2.2] at this
  exact absurd this (by simp)

theorem ne_of_yieldingTrial {s : State} {l m : LaneId} (h : s.yieldingTrial = some l) (hm : Settled (s.lane m)) :
    m ≠ l := by
  rintro rfl
  have := List.find?_some h
  simp [hm.1] at this

theorem lane_assignOne_settled (s : State) (m : LaneId) (h : Settled (s.lane m)) : s.assignOne.lane m = s.lane m := by
  simp only [State.assignOne]
  repeat' split
  · rfl
  · exact lane_bindLane_ne s _ _ _ (ne_of_availableLane ‹_› h)
  · rename_i hy
    rw [lane_bindLane_ne _ _ _ _ (ne_of_yieldingTrial hy h), lane_dropTrial_ne _ (ne_of_yieldingTrial hy h)]
  · rfl

theorem lane_assignStandbyOne_settled (s : State) (m : LaneId) (h : Settled (s.lane m)) :
    s.assignStandbyOne.lane m = s.lane m := by
  simp only [State.assignStandbyOne]
  split
  · exact lane_bindLane_ne s _ _ _ (ne_of_availableLane ‹_› h)
  · rfl

theorem lane_assignLanes_settled (s : State) (m : LaneId) (h : Settled (s.lane m)) :
    s.assignLanes.lane m = s.lane m := by
  rw [State.assignLanes]
  split
  · have a : ∀ {t : State}, t.lane m = s.lane m → t.assignOne.lane m = s.lane m := fun {t} ht => by
      rw [lane_assignOne_settled t m (by rw [ht]; exact h), ht]
    have b : ∀ {t : State}, t.lane m = s.lane m → t.assignStandbyOne.lane m = s.lane m := fun {t} ht => by
      rw [lane_assignStandbyOne_settled t m (by rw [ht]; exact h), ht]
    exact b (b (b (b (a (a (a (a rfl)))))))
  · rfl

theorem lane_homeAssignment_settled (s : State) (m : LaneId) (h : Settled (s.lane m)) :
    s.homeAssignment.lane m = s.lane m := by
  rw [State.homeAssignment]
  split
  · refine lane_foldl_settled _ m (fun s k hs => ?_) _ s h
    simp only [State.assignHome]
    repeat' split
    all_goals first | rfl | exact lane_bindLane_ne s _ _ _ (ne_of_availableLane ‹_› hs)
  · rfl

theorem lane_joinIfComplete (s : State) (m : LaneId) : s.joinIfComplete.lane m = s.lane m := by
  rw [State.joinIfComplete]
  split
  · exact lane_enterJoined s m
  · rfl

/-- Settling leaves a settled lane as it is. -/
theorem lane_settle_settled (s : State) (c : Bool) (m : LaneId) (h : Settled (s.lane m)) :
    (s.settle c).lane m = s.lane m := by
  simp only [State.settle]
  split
  · exact lane_homeAssignment_settled s m h
  · split
    · rfl
    · have step : ∀ {t u : State}, t.lane m = s.lane m → (Settled (t.lane m) → u.lane m = t.lane m) →
          u.lane m = s.lane m := fun {t u} ht hu => by rw [hu (by rw [ht]; exact h), ht]
      have loop : ∀ (f : LaneId → State → State),
          (∀ l u, Settled (u.lane m) → (f l u).lane m = u.lane m) → ∀ {t : State}, t.lane m = s.lane m →
            (t.forLanes f).lane m = s.lane m := fun f hf {t} ht =>
        step ht fun ht' => lane_foldl_settled _ m (fun u l hu => hf l u hu) _ t ht'
      have h1 : (s.joinIfComplete.withdraw fun f => isQuiet f && !s.joinIfComplete.wants f).lane m = s.lane m :=
        lane_joinIfComplete s m
      have h2 := step h1 (lane_replace_settled _ m)
      have h3 := loop State.settleTrial (fun l u hu => lane_settleTrial_settled u l m hu) h2
      have h4 := loop State.settleHeldLane (fun l u hu => lane_settleHeldLane_settled u l m hu) h3
      have h5 := loop State.settleSwap (fun l u hu => lane_settleSwap_settled u l m hu) h4
      have h5 := step h5 fun _ => lane_withdrawMoot _ m
      have h5 := step h5 fun _ => lane_holdsAgain _ m
      cases c with
      | false => exact step h5 (lane_assignLanes_settled _ m)
      | true =>
        have h6 := step h5 fun _ => lane_sendDue _ m
        have h6 := step h6 fun _ => lane_holdsAgain _ m
        have h7 := loop State.settleHeldLane (fun l u hu => lane_settleHeldLane_settled u l m hu) h6
        exact step h7 (lane_assignLanes_settled _ m)

/-! ### YIELD -/

/-- The outcome of YIELD for a lane that the row names (R199). -/
theorem yieldRole_outcome (s : State) (k : Nat) (role : CarriageRole) (l : LaneId) :
    (s.yieldRole k role l).2
      = if (s.lane l).plays k role = true then .done else if s.cedePends k l = true then .refusedBusy else .refusedState := by
  rw [State.yieldRole]
  repeat' split
  all_goals rfl

/-- YIELD for a lane leaves the other lanes alone. -/
theorem lane_yieldRole_ne (s : State) (k : Nat) (role : CarriageRole) {l m : LaneId} (h : m ≠ l) :
    (s.yieldRole k role l).1.lane m = s.lane m := by
  rw [State.yieldRole]
  repeat' split
  · exact lane_giveUp_ne s k role _ h
  all_goals rfl

end Sys2Proof.Machine
end

