-- ==== Sys2Proof/Laws/Lines.lean ====
section
/-! SUPPORT. Lines.lean: a link controller reads back the bytes of every frame that the line carries (R138), and the read of the
configuration port reads as many bytes as the loader then holds (R183). -/

namespace Sys2Proof.Machine

/-! ### The station link -/

theorem readLine_append (pos : LinePos) (xs ys : List Bool) :
    readLine pos (xs ++ ys)
      = ((readLine (readLine pos xs).1 ys).1, (readLine pos xs).2 ++ (readLine (readLine pos xs).1 ys).2) := by
  induction xs generalizing pos with
  | nil => rfl
  | cons x xs ih => simp only [List.cons_append, readLine, ih, List.append_assoc]

/-- A header's bits spell the byte. -/
theorem slotByteOf_header (b : Byte) : slotByteOf true (bitsMsbFirst b) = b := by
  have h : ∀ n : Fin 256, slotByteOf true (bitsMsbFirst (BitVec.ofFin n)) = BitVec.ofFin n := by decide +kernel
  exact h b.toFin

/-- Every other byte's bits spell the byte. -/
theorem slotByteOf_other (b : Byte) : slotByteOf false (bitsLsbFirst b) = b := by
  have h : ∀ n : Fin 256, slotByteOf false (bitsLsbFirst (BitVec.ofFin n)) = BitVec.ofFin n := by decide +kernel
  exact h b.toFin

/-- One byte slot after the header is read as its byte. -/
theorem readLine_byteSlot (got : List Byte) (bad : Bool) (b : Byte) (hne : got ≠ []) (hlen : got.length < 259) :
    readLine (.slot got bad []) (byteSlot (bitsLsbFirst b)) = (.slot (got ++ [b]) bad [], []) := by
  have hb : slotByteOf got.isEmpty (bitsLsbFirst b) = b := by
    rw [show got.isEmpty = false by simpa using hne]
    exact slotByteOf_other b
  simp only [bitsLsbFirst, List.map_cons, List.map_nil] at hb
  simp [byteSlot, bitsLsbFirst, readLine, readLineBit, readSlotBit, Nat.not_le.2 hlen]
  exact hb

/-- The header's slot starts the frame on an idle line. -/
theorem readLine_header (b : Byte) :
    readLine .idle (byteSlot (bitsMsbFirst b)) = (.slot [b] false [], []) := by
  have hb := slotByteOf_header b
  simp only [bitsMsbFirst, List.map_cons, List.map_nil] at hb
  simp [byteSlot, bitsMsbFirst, readLine, readLineBit, readSlotBit]
  exact hb

theorem readLine_byteSlots (got rest : List Byte) (hne : got ≠ []) (hlen : got.length + rest.length ≤ 259) :
    readLine (.slot got false []) (rest.map fun b => byteSlot (bitsLsbFirst b)).flatten
      = (.slot (got ++ rest) false [], []) := by
  induction rest generalizing got with
  | nil => simp [readLine]
  | cons b rest ih =>
    rw [List.length_cons] at hlen
    rw [List.map_cons, List.flatten_cons, readLine_append, readLine_byteSlot got false b hne (by omega),
      ih (got ++ [b]) (by simp) (by simp; omega)]
    simp

/-- On an idle line a link controller reads the bytes of a frame as they were sent, and a window in which nobody drives (R138). -/
theorem readLine_frameBits (header : Byte) (rest : List Byte) (h : rest.length ≤ 258) :
    readLine .idle (frameBits (header :: rest))
      = (.waiting 0, [.frameEnd (header :: rest) false false, .windowEnd false false]) := by
  rw [frameBits, readLine_append, readLine_append, readLine_header, readLine_byteSlots [header] rest (by simp) (by simp; omega)]
  rfl

/-! ### The configuration port -/

theorem readBytes_length (memory : List Byte) (i n : Nat) : (readBytes memory i n).length = n := by
  induction n generalizing i with
  | zero => rfl
  | succ n ih => rw [readBytes, List.length_cons, ih]

/-- The loader reads as many bytes on the port as it then holds (R183). -/
theorem bytesRead_imageRead (memory : List Byte) : bytesRead (imageRead memory) = (readImage memory).length := by
  rw [readImage, readBytes_length]
  simp only [imageRead]
  split
  · rename_i h
    have : 49 ≤ imageLength memory := by
      simp only [lengthPossible, Bool.and_eq_true, decide_eq_true_eq] at h
      exact h.1
    simp [bytesRead, List.countP_append, List.countP_replicate]
    omega
  · simp [bytesRead]

end Sys2Proof.Machine
end

