-- ==== Sys2Proof/Laws/Queue.lean ====
section
/-! SUPPORT. Queue.lean: every operation of the send queue keeps the queue's rules (R152), and a frame handed to the queue stays
with its owner (R147, R154). -/

namespace Sys2Proof.Machine

open Sys2Proof.Safety

/-! ### Joining and discarding -/

theorem insertEntry_perm (e : QEntry) (q : List QEntry) : (insertEntry e q).Perm (e :: q) := by
  induction q with
  | nil => exact List.Perm.refl _
  | cons x xs ih =>
    rw [insertEntry]
    split
    · exact List.Perm.refl _
    · exact (ih.cons x).trans (List.Perm.swap e x xs)

theorem insertEntry_length (e : QEntry) (q : List QEntry) : (insertEntry e q).length = q.length + 1 := by
  simpa using (insertEntry_perm e q).length_eq

theorem insertEntry_sorted (e : QEntry) (q : List QEntry)
    (h : q.Pairwise fun a b => QFrame.code a.frame ≤ QFrame.code b.frame) :
    (insertEntry e q).Pairwise fun a b => QFrame.code a.frame ≤ QFrame.code b.frame := by
  induction q with
  | nil => simp [insertEntry]
  | cons x xs ih =>
    rw [List.pairwise_cons] at h
    rw [insertEntry]
    split
    · rename_i hlt
      refine List.pairwise_cons.2 ⟨?_, List.pairwise_cons.2 h⟩
      intro y hy
      rcases List.mem_cons.1 hy with rfl | hy
      · exact Nat.le_of_lt hlt
      · exact Nat.le_trans (Nat.le_of_lt hlt) (h.1 y hy)
    · rename_i hge
      refine List.pairwise_cons.2 ⟨?_, ih h.2⟩
      intro y hy
      rcases List.mem_cons.1 ((insertEntry_perm e xs).subset hy) with rfl | hy
      · exact Nat.le_of_not_lt hge
      · exact h.1 y hy

theorem requests_insertEntry (r : QFrame) (e : QEntry) (q : List QEntry) :
    requests r (insertEntry e q) = requests r q + if e.frame == r then 1 else 0 := by
  rw [requests, (insertEntry_perm e q).countP_eq, List.countP_cons, requests]

theorem takeNewestIdle_perm (q : List QEntry) {rest : List QEntry} {e : QEntry}
    (h : takeNewestIdle q = some (rest, e)) : rest.Sublist q ∧ q.Perm (e :: rest) ∧ e.onLine = false := by
  induction q generalizing rest e with
  | nil => simp [takeNewestIdle] at h
  | cons x xs ih =>
    rw [takeNewestIdle] at h
    split at h
    · rename_i ys e' hx
      obtain ⟨rfl, rfl⟩ : x :: ys = rest ∧ e' = e := by simpa using h
      obtain ⟨h1, h2, h3⟩ := ih hx
      exact ⟨h1.cons_cons x, (h2.cons x).trans (List.Perm.swap _ _ _), h3⟩
    · split at h
      · exact absurd h (by simp)
      · rename_i hon
        obtain ⟨rfl, rfl⟩ : xs = rest ∧ x = e := by simpa using h
        exact ⟨List.sublist_cons_self _ _, List.Perm.refl _, by simpa using hon⟩

/-- The queue's rules pass to every part of a queue. -/
theorem queueOk_sublist {q q' : List QEntry} (hs : q'.Sublist q) (h : queueOk q) : queueOk q' :=
  ⟨Nat.le_trans hs.length_le h.1, h.2.1.sublist hs, Nat.le_trans hs.countP_le h.2.2.1, Nat.le_trans hs.countP_le h.2.2.2⟩

/-- An entry may join a queue with room for it that does not hold its request already. -/
theorem queueOk_insertEntry (e : QEntry) (q : List QEntry) (h : queueOk q) (hl : q.length < 8)
    (hr : e.frame = .roll → requests .roll q = 0) (hp : e.frame = .report → requests .report q = 0) :
    queueOk (insertEntry e q) := by
  refine ⟨by rw [insertEntry_length]; omega, insertEntry_sorted e q h.2.1, ?_, ?_⟩
  · rw [requests_insertEntry]
    split
    · rename_i he
      have := hr (beq_iff_eq.1 he); omega
    · exact h.2.2.1
  · rw [requests_insertEntry]
    split
    · rename_i he
      have := hp (beq_iff_eq.1 he); omega
    · exact h.2.2.2

theorem queueOk_arrive (f : QFrame) (q : List QEntry) (h : queueOk q) (hr : f = .roll → requests .roll q = 0)
    (hp : f = .report → requests .report q = 0) : queueOk (arrive f q).1 := by
  rw [arrive]
  split
  · exact queueOk_insertEntry _ q h ‹_› hr hp
  · split
    · exact h
    · rename_i rest victim hv
      obtain ⟨hs, hperm, _⟩ := takeNewestIdle_perm q hv
      split
      · have hlen := hperm.length_eq
        have h8 := h.1
        rw [List.length_cons] at hlen
        exact queueOk_insertEntry _ rest (queueOk_sublist hs h) (by omega)
          (fun e => Nat.le_zero.1 (hr e ▸ hs.countP_le)) fun e => Nat.le_zero.1 (hp e ▸ hs.countP_le)
      · exact h

theorem Link.discard_queue (l : Link) (q : Option QFrame) : (l.discard q).queue = l.queue := by
  rw [Link.discard.eq_def]
  split
  · rfl
  · split <;> rfl

theorem Link.join_queue (l : Link) (f : QFrame) : (l.join f).queue = (arrive f l.queue).1 := by
  rw [Link.join, Link.discard_queue]

/-- A frame that is not a request joins (R154). -/
theorem queueOk_join_fixed (l : Link) (f : Frame) (h : queueOk l.queue) : queueOk (l.join (.fixed f)).queue := by
  rw [Link.join_queue]
  exact queueOk_arrive _ _ h (fun e => nomatch e) fun e => nomatch e

/-! ### Requests (R155) -/

theorem requests_eq_zero (l : Link) (f : QFrame) (h1 : l.holds f false = false) (h2 : l.holds f true = false) :
    requests f l.queue = 0 := by
  rw [requests, List.countP_eq_zero]
  intro e he
  have a := List.any_eq_false.1 h1 e he
  have b := List.any_eq_false.1 h2 e he
  cases hon : e.onLine <;> simp_all

theorem queueOk_requestRoll (l : Link) (h : queueOk l.queue) : queueOk l.requestRoll.queue := by
  rw [Link.requestRoll]
  split
  · exact h
  · rename_i hi
    split
    · exact h
    · rename_i ho
      rw [Link.join_queue]
      exact queueOk_arrive _ _ h
        (fun _ => requests_eq_zero l _ (Bool.eq_false_iff.2 hi) (Bool.eq_false_iff.2 ho)) fun e => nomatch e

theorem queueOk_requestReport (l : Link) (h : queueOk l.queue) : queueOk l.requestReport.queue := by
  rw [Link.requestReport]
  split
  · exact h
  · rename_i hi
    split
    · exact h
    · rename_i ho
      rw [Link.join_queue]
      exact queueOk_arrive _ _ h (fun e => nomatch e)
        fun _ => requests_eq_zero l _ (Bool.eq_false_iff.2 hi) (Bool.eq_false_iff.2 ho)

/-! ### Leaving, staying, withdrawing, clearing -/

theorem queueOk_withdraw (l : Link) (p : Frame → Bool) (h : queueOk l.queue) : queueOk (l.withdraw p).queue :=
  queueOk_sublist List.filter_sublist h

theorem queueOk_clear (l : Link) : queueOk l.clear.queue := by simp [Link.clear, queueOk, requests]

theorem queueOk_clearToRoll (l : Link) (h : queueOk l.queue) : queueOk l.clearToRoll.queue :=
  queueOk_sublist List.filter_sublist h

/-- Marking entries as on or off the line keeps the queue's rules. -/
theorem queueOk_map (g : QEntry → QEntry) (hg : ∀ e, (g e).frame = e.frame) (q : List QEntry) (h : queueOk q) :
    queueOk (q.map g) := by
  have hc : ∀ f, requests f (q.map g) = requests f q := by
    intro f
    rw [requests, List.countP_map]
    exact congrArg (List.countP · q) (funext fun e => by simp [hg])
  refine ⟨by simpa using h.1, ?_, by rw [hc]; exact h.2.2.1, by rw [hc]; exact h.2.2.2⟩
  rw [List.pairwise_map]
  simpa [hg] using h.2.1

theorem queueOk_stayQueued (l : Link) (h : queueOk l.queue) : queueOk l.stayQueued.queue := by
  exact queueOk_map (fun e => { e with onLine := false }) (fun _ => rfl) _ h

/-- With one entry of a request on the line, the rest of the queue holds none. -/
theorem requests_rest_zero (l : Link) (f : QFrame) (h : requests f l.queue ≤ 1) (hon : l.holds f true = true) :
    requests f (l.queue.filter fun e => !e.onLine) = 0 := by
  obtain ⟨e, he, hb⟩ := List.any_eq_true.1 hon
  rw [Bool.and_eq_true, beq_iff_eq, beq_iff_eq] at hb
  rw [requests, List.countP_filter, List.countP_eq_zero]
  intro d hd hcon
  rw [Bool.and_eq_true, Bool.not_eq_true', beq_iff_eq] at hcon
  have two : 2 ≤ requests f l.queue := by
    rw [requests, List.countP_eq_length_filter]
    have me : e ∈ l.queue.filter (fun e => e.frame == f) := List.mem_filter.2 ⟨he, by simp [hb.1]⟩
    have md : d ∈ l.queue.filter (fun e => e.frame == f) := List.mem_filter.2 ⟨hd, by simp [hcon.1]⟩
    match hq : l.queue.filter (fun e => e.frame == f) with
    | [] => rw [hq] at me; exact absurd me (by simp)
    | [a] =>
      rw [hq] at me md
      have : e = d := (List.mem_singleton.1 me).trans (List.mem_singleton.1 md).symm
      rw [this, hcon.2] at hb
      exact absurd hb.2 (by simp)
    | a :: b :: rest => rw [hq]; simp
  omega

theorem queueOk_leaveLine (l : Link) (h : queueOk l.queue) : queueOk l.leaveLine.queue := by
  have hf : queueOk (l.queue.filter fun e => !e.onLine) := queueOk_sublist List.filter_sublist h
  rw [Link.leaveLine]
  dsimp only
  split
  · rename_i hc
    rw [Bool.and_eq_true] at hc
    rw [Link.join_queue]
    exact queueOk_arrive _ _ hf (fun _ => requests_rest_zero l _ h.2.2.1 hc.1) fun e => nomatch e
  · split
    · rename_i hc
      rw [Bool.and_eq_true] at hc
      rw [Link.join_queue]
      exact queueOk_arrive _ _ hf (fun e => nomatch e) fun _ => requests_rest_zero l _ h.2.2.2 hc.1
    · exact hf

/-- The start of sending marks the head alone. -/
theorem queueOk_start (l : Link) (c : QFrame → Frame) (h : queueOk l.queue) : queueOk (l.start c).queue := by
  rw [Link.start]
  split
  · exact h
  · rename_i e rest he
    rw [he] at h
    dsimp only
    refine ⟨by simpa using h.1, ?_, ?_, ?_⟩
    · exact List.pairwise_cons.2 (List.pairwise_cons.1 h.2.1)
    · simpa [requests, List.countP_cons] using h.2.2.1
    · simpa [requests, List.countP_cons] using h.2.2.2

/-! ### A frame handed over is queued, on the line, or owed -/

theorem mem_arrive (f : QFrame) (q : List QEntry) :
    { frame := f, onLine := false } ∈ (arrive f q).1 ∨ (arrive f q).2 = some f := by
  rw [arrive]
  split
  · exact .inl ((insertEntry_perm _ q).symm.subset (by simp))
  · split
    · exact .inr rfl
    · split
      · exact .inl ((insertEntry_perm _ _).symm.subset (by simp))
      · exact .inr rfl

/-- A frame that its owner queues again is held after it has been handed over: queued or owed (R64, R147). -/
theorem heldFrame_join (l : Link) (f : Frame) (p : Frame → Bool) (hp : p f = true) (ho : isOwed (.fixed f) = true) :
    (l.join (.fixed f)).heldFrame p = true := by
  rw [Link.heldFrame, Bool.or_eq_true, Bool.or_eq_true]
  refine .inl ?_
  rcases mem_arrive (.fixed f) l.queue with h | h
  · left
    rw [Link.queued, Link.join_queue]
    exact List.any_eq_true.2 ⟨_, h, hp⟩
  · right
    rw [Link.join, h, Link.discard, if_pos ho]
    exact List.any_eq_true.2 ⟨.fixed f, by simp, hp⟩

end Sys2Proof.Machine
end

