-- ==== Sys2Proof/Laws/Rows.lean ====
section
/-! SUPPORT. Rows.lean: what the changes of a row do to it, what they leave of the other rows, and what the carriage frames leave
of the station. -/

namespace Sys2Proof.Machine

open Sys2Proof.Safety

/-- The skeleton without the rows; the number of rows stays. -/
def State.base (s : State) : State := { s.skeleton with table := s.table.map fun _ => Entry.unknown }

theorem base_of_skeleton {s t : State} (h : t.skeleton = s.skeleton) : t.base = s.base := by
  have e : t.table.map (fun _ => Entry.unknown) = s.table.map fun _ => Entry.unknown := by
    rw [List.map_const', List.map_const', length_of_skeleton h]
  rw [State.base, State.base, e, h]

/-! ### What equal bases share -/

section
variable {s t : State} (h : t.base = s.base)
include h

theorem plan_of_base : t.plan = s.plan := (congrArg State.plan h :)
theorem number_of_base : t.number = s.number := (congrArg State.number h :)
theorem dir_of_base : t.dir = s.dir := (congrArg State.dir h :)
theorem sel_of_base : t.sel = s.sel := (congrArg State.sel h :)
theorem bp_of_base : t.bp = s.bp := (congrArg State.bp h :)
theorem pending_of_base : t.pending = s.pending := (congrArg State.pending h :)
theorem loader_of_base : t.loader = s.loader := (congrArg State.loader h :)
theorem lineFound_of_base : t.lineFound = s.lineFound := (congrArg State.lineFound h :)
theorem inReset_of_base : t.inReset = s.inReset := (congrArg State.inReset h :)
theorem barredCause_of_base : t.barredCause = s.barredCause := (congrArg State.barredCause h :)
theorem resetCause_of_base : t.resetCause = s.resetCause := (congrArg State.resetCause h :)
theorem clashBarred_of_base : t.clashBarred = s.clashBarred := (congrArg State.clashBarred h :)
theorem echoPointer_of_base : t.echoPointer = s.echoPointer := (congrArg State.echoPointer h :)

theorem wires_of_base : t.link.wires = s.link.wires := (congrArg State.link h :)

theorem length_of_base : t.table.length = s.table.length := by
  have := congrArg (fun x : State => x.table.length) h
  simpa [State.base] using this

end

@[simp] theorem base_setEntry (s : State) (k : Nat) (e : Entry) : (s.setEntry k e).base = s.base := by
  have h : (s.setEntry k e).table.map (fun _ => Entry.unknown) = s.table.map fun _ => Entry.unknown := by
    rw [List.map_const', List.map_const', State.length_setEntry]
  rw [State.base, h]
  rfl

@[simp] theorem base_putRow (s : State) (k : Nat) (r : Row) : (s.putRow k r).base = s.base := base_setEntry s k _

@[simp] theorem base_send (s : State) (f : Frame) : (s.send f).base = s.base := base_of_skeleton (by simp)
@[simp] theorem base_withdraw (s : State) (p : Frame → Bool) : (s.withdraw p).base = s.base := rfl
@[simp] theorem base_modLane (s : State) (l : LaneId) (f : Lane → Lane) : (s.modLane l f).base = s.base := rfl
@[simp] theorem base_unnamed (s : State) (k : Nat) (l : LaneId) (role : CarriageRole) :
    (s.unnamed k l role).base = s.base := base_of_skeleton (by simp)
@[simp] theorem base_namedByCut (s : State) (k : Nat) (l : LaneId) (b : Bool) : (s.namedByCut k l b).base = s.base :=
  base_of_skeleton (by simp)
@[simp] theorem base_namedInVain (s : State) (k : Nat) (l : LaneId) (role : CarriageRole) (r : CedeReason) (a : Bool) :
    (s.namedInVain k l role r a).base = s.base := base_of_skeleton (by simp)
@[simp] theorem base_giverKept (s : State) (k : Nat) (p : Pair) (a b : Bool) : (s.giverKept k p a b).base = s.base :=
  base_of_skeleton (by simp)
@[simp] theorem base_drainIfResting (s : State) (k : Nat) (l : LaneId) : (s.drainIfResting k l).base = s.base :=
  base_of_skeleton (by simp)
@[simp] theorem base_giverBack (s : State) (k : Nat) (l : LaneId) (a b : Bool) : (s.giverBack k l a b).base = s.base :=
  base_of_skeleton (by simp)

theorem base_foldl {α : Type} (f : State → α → State) (h : ∀ s a, (f s a).base = s.base) (xs : List α) (s : State) :
    (xs.foldl f s).base = s.base := by
  induction xs generalizing s with
  | nil => rfl
  | cons x xs ih => rw [List.foldl_cons, ih, h]

/-! ### Rows through the operations that keep the skeleton -/

theorem row_unnamed (s : State) (k : Nat) (l : LaneId) (role : CarriageRole) (j : Nat) :
    (s.unnamed k l role).row j = s.row j := row_of_skeleton (by simp) j
theorem row_namedByCut (s : State) (k : Nat) (l : LaneId) (b : Bool) (j : Nat) :
    (s.namedByCut k l b).row j = s.row j := row_of_skeleton (by simp) j
theorem row_giverKept (s : State) (k : Nat) (p : Pair) (a b : Bool) (j : Nat) :
    (s.giverKept k p a b).row j = s.row j := row_of_skeleton (by simp) j
theorem row_settle (s : State) (c : Bool) (j : Nat) : (s.settle c).row j = s.row j := row_of_skeleton (by simp) j

/-! ### A carrier or a standby leaves a row -/

theorem row_cutRow (s : State) {k : Nat} (t : Term) (x : Station) (sb : Pair) (sw : Bool) (h : s.row k ≠ .unknown) :
    (s.cutRow k t x sb sw).row k
      = if t = 0xFFFF#16 then .opened t (some x) 0 else .carried (t + 1#16) sb none (some x) := by
  have hk := s.lt_length_of_row h
  rw [State.cutRow]
  split
  · dsimp only
    split
    · rw [row_unnamed, State.row_putRow_self _ _ hk]
    · rw [State.row_putRow_self _ _ hk]
  · dsimp only
    split
    · rw [row_namedByCut, State.row_putRow_self _ _ hk]
    · rw [State.row_putRow_self _ _ hk]

theorem row_cutRow_ne (s : State) {k j : Nat} (t : Term) (x : Station) (sb : Pair) (sw : Bool) (hj : j ≠ k) :
    (s.cutRow k t x sb sw).row j = s.row j := by
  rw [State.cutRow]
  split
  · dsimp only
    split
    · rw [row_unnamed, State.row_putRow_ne _ _ hj]
    · rw [State.row_putRow_ne _ _ hj]
  · dsimp only
    split
    · rw [row_namedByCut, State.row_putRow_ne _ _ hj]
    · rw [State.row_putRow_ne _ _ hj]

@[simp] theorem base_cutRow (s : State) (k : Nat) (t : Term) (x : Station) (sb : Pair) (sw : Bool) :
    (s.cutRow k t x sb sw).base = s.base := by
  simp only [State.cutRow]
  repeat' split
  all_goals simp

theorem row_carrierLeaves (s : State) (k : Nat) : (s.carrierLeaves k).row k = carrierLeft (s.row k) := by
  rw [State.carrierLeaves]
  split
  · rename_i h
    rw [State.row_putRow_self _ _ (s.lt_length_of_row (by rw [h]; simp)), h]; rfl
  · rename_i h
    rw [row_cutRow _ _ _ _ _ (by rw [h]; simp), h]; rfl
  · rename_i h
    rw [row_cutRow _ _ _ _ _ (by rw [h]; simp), h]; rfl
  · rename_i h1 h2 h3
    cases hr : s.row k with
    | unknown => rfl
    | opened => rfl
    | carried t c sb lc =>
      cases sb with
      | none => exact absurd hr (h1 _ _ _)
      | some p => exact absurd hr (h2 _ _ _ _)
    | swapping => exact absurd hr (h3 _ _ _ _ _)

theorem row_carrierLeaves_ne (s : State) {k j : Nat} (hj : j ≠ k) : (s.carrierLeaves k).row j = s.row j := by
  rw [State.carrierLeaves]
  split
  · exact State.row_putRow_ne _ _ hj
  · exact row_cutRow_ne _ _ _ _ _ hj
  · exact row_cutRow_ne _ _ _ _ _ hj
  · rfl

@[simp] theorem base_carrierLeaves (s : State) (k : Nat) : (s.carrierLeaves k).base = s.base := by
  rw [State.carrierLeaves]
  split <;> simp

theorem row_standbyLeaves (s : State) (k : Nat) (d : Bool) : (s.standbyLeaves k d).row k = standbyLeft (s.row k) := by
  rw [State.standbyLeaves]
  split
  · rename_i h
    rw [State.row_putRow_self _ _ (s.lt_length_of_row (by rw [h]; simp)), h]; rfl
  · rename_i h
    rw [row_giverKept, State.row_putRow_self _ _ (s.lt_length_of_row (by rw [h]; simp)), h]; rfl
  · rename_i h1 h2
    cases hr : s.row k with
    | unknown => rfl
    | opened => rfl
    | carried t c sb lc =>
      cases sb with
      | none => rfl
      | some p => exact absurd hr (h1 _ _ _ _)
    | swapping => exact absurd hr (h2 _ _ _ _ _)

theorem row_standbyLeaves_ne (s : State) {k j : Nat} (d : Bool) (hj : j ≠ k) :
    (s.standbyLeaves k d).row j = s.row j := by
  rw [State.standbyLeaves]
  split
  · exact State.row_putRow_ne _ _ hj
  · rw [row_giverKept]; exact State.row_putRow_ne _ _ hj
  · rfl

@[simp] theorem base_standbyLeaves (s : State) (k : Nat) (d : Bool) : (s.standbyLeaves k d).base = s.base := by
  rw [State.standbyLeaves]
  split <;> simp

/-! ### Removal (R18) -/

theorem row_removeFromRow (x : Station) (k : Nat) (s : State) :
    (State.removeFromRow x k s).row k = removed x (s.row k) := by
  rw [State.removeFromRow, removed]
  split
  · exact row_carrierLeaves s k
  · split
    · exact row_standbyLeaves s k false
    · rfl

theorem row_removeFromRow_ne (x : Station) {k j : Nat} (s : State) (hj : j ≠ k) :
    (State.removeFromRow x k s).row j = s.row j := by
  rw [State.removeFromRow]
  split
  · exact row_carrierLeaves_ne s hj
  · split
    · exact row_standbyLeaves_ne s false hj
    · rfl

@[simp] theorem base_removeFromRow (x : Station) (k : Nat) (s : State) : (State.removeFromRow x k s).base = s.base := by
  rw [State.removeFromRow]
  split
  · simp
  · split <;> simp

@[simp] theorem base_removeStation (s : State) (x : Station) : (s.removeStation x).base = s.base :=
  base_foldl _ (fun s k => base_removeFromRow x k s) _ s

theorem row_removeSlots (x : Station) (ks : List Nat) (hks : ks.Nodup) (s : State) (j : Nat) :
    (ks.foldl (fun s k => State.removeFromRow x k s) s).row j
      = if j ∈ ks then removed x (s.row j) else s.row j := by
  induction ks generalizing s with
  | nil => simp
  | cons k ks ih =>
    rw [List.nodup_cons] at hks
    rw [List.foldl_cons, ih hks.2]
    by_cases hj : j = k
    · subst hj
      rw [if_neg hks.1, row_removeFromRow, if_pos (List.mem_cons_self ..)]
    · rw [row_removeFromRow_ne x s hj]
      simp [hj]

/-- Removal changes every row by itself (R18). -/
theorem row_removeStation (s : State) (x : Station) (k : Nat) : (s.removeStation x).row k = removed x (s.row k) := by
  rw [State.removeStation, row_removeSlots x _ List.nodup_range]
  split
  · rfl
  · rename_i h
    rw [s.row_of_length_le (by simpa using h)]
    rfl

/-! ### The carriage frames leave the base -/

@[simp] theorem base_countReclaim (s : State) (k : Nat) : (s.countReclaim k).base = s.base := by
  simp only [State.countReclaim]
  repeat' split
  all_goals simp

theorem row_countReclaim (s : State) (k : Nat) : (s.countReclaim k).row k = reclaimCounted (s.row k) := by
  rw [State.countReclaim]
  split
  · rename_i h
    rw [h, reclaimCounted]
    split
    · rw [State.row_setEntry_self _ _ (s.lt_length_of_row (by rw [h]; simp))]
    · exact h
  · rename_i h
    cases hr : s.row k <;> simp_all [reclaimCounted]

theorem row_countReclaim_ne (s : State) {k j : Nat} (hj : j ≠ k) : (s.countReclaim k).row j = s.row j := by
  rw [State.countReclaim]
  split
  · split
    · exact State.row_setEntry_ne _ _ hj
    · rfl
  · rfl

@[simp] theorem base_applyBid (s : State) (x : Station) (l : LaneId) (k : Nat) (role : CarriageRole) (t : Term) :
    (s.applyBid x l k role t).base = s.base := by
  rw [State.applyBid.eq_def]
  split <;> simp

@[simp] theorem base_takeBid (s : State) (sender : BitVec 4) (slot role : Byte) (t : Term) (lane : Byte) :
    (s.takeBid sender slot role t lane).base = s.base := by
  have h1 : ∀ (s : State) l k role, (s.ownBidAccepted l k role).base = s.base := fun s l k role =>
    base_of_skeleton (by simp)
  have h2 : ∀ (s : State) l k role t, (s.ownBidIgnored l k role t).base = s.base := fun s l k role t =>
    base_of_skeleton (by simp)
  simp only [State.takeBid]
  repeat' split
  all_goals simp [h1, h2]

@[simp] theorem base_takeCede (s : State) (sender : BitVec 4) (slot role : Byte) (t : Term) (lane : Byte)
    (reason : CedeReason) : (s.takeCede sender slot role t lane reason).base = s.base := by
  have h1 : ∀ (s : State) l k role, (s.reclaimDone l k role).base = s.base := fun s l k role =>
    base_of_skeleton (by simp)
  have h2 : ∀ (u : State) (c : Bool) (ρ : CarriageRole) (k : Nat), u.base = s.base →
      (if c = true then (match ρ with | .carrier => u.carrierLeaves k | .standby => u.standbyLeaves k true) else u).base
        = s.base := fun u c ρ k h => by cases c <;> cases ρ <;> simp [h]
  have h3 : ∀ (u : State) (c : Bool) (fs : Option Nat), u.base = s.base →
      (match fs with | some f => if c = true then u.countReclaim f else u | none => u).base = s.base :=
    fun u c fs h => by cases c <;> cases fs <;> simp [h]
  have h4 : ∀ (c : Prop) [Decidable c] (u v : State), u.base = s.base → v.base = s.base →
      (if c then u else v).base = s.base := fun c _ u v hu hv => by split <;> assumption
  unfold State.takeCede
  split
  · refine h4 _ _ _ ?_ ?_
    · rw [h1]; exact h3 _ _ _ (h2 _ _ _ _ rfl)
    · exact h3 _ _ _ (h2 _ _ _ _ rfl)
  · rfl

@[simp] theorem base_takeOffer (s : State) (sender : BitVec 4) (slot : Byte) (t : Term) :
    (s.takeOffer sender slot t).base = s.base := by
  simp only [State.takeOffer]
  repeat' split
  all_goals simp

@[simp] theorem base_setCtx (s : State) (l : LaneId) (c : SwapCtx) : (s.setCtx l c).base = s.base := rfl

@[simp] theorem base_takeReady (s : State) (sender : BitVec 4) (slot : Byte) (t : Term) :
    (s.takeReady sender slot t).base = s.base := by
  simp only [State.takeReady]
  repeat' split
  all_goals simp

@[simp] theorem base_takerGo (s : State) (l : LaneId) : (s.takerGo l).base = s.base := base_of_skeleton (by simp)
@[simp] theorem base_holdCheck (s : State) (l : LaneId) : (s.holdCheck l).base = s.base := base_of_skeleton (by simp)
@[simp] theorem base_doneCarrier (s : State) (k : Nat) (l : LaneId) : (s.doneCarrier k l).base = s.base :=
  base_of_skeleton (by simp)
@[simp] theorem base_doneStandby (s : State) (k : Nat) (l : LaneId) : (s.doneStandby k l).base = s.base :=
  base_of_skeleton (by simp)
@[simp] theorem base_dropStandby (s : State) (k : Nat) (l : LaneId) : (s.dropStandby k l).base = s.base :=
  base_of_skeleton (by simp)

@[simp] theorem base_takeGo (s : State) (sender : BitVec 4) (slot : Byte) (t : Term) (dc : Byte) :
    (s.takeGo sender slot t dc).base = s.base := by
  simp only [State.takeGo]
  repeat' split
  all_goals simp

@[simp] theorem base_takeHold (s : State) (sender : BitVec 4) (slot : Byte) (t : Term) (hold : Byte) :
    (s.takeHold sender slot t hold).base = s.base := by
  have h1 : ∀ (p : Nat) (s : State),
      (s.forLanes fun l s => if (s.lane l).ctx.isTaker p then s.holdCheck l else s).base = s.base := by
    intro p s
    refine base_foldl _ (fun s l => ?_) _ s
    dsimp only
    split <;> simp
  simp only [State.takeHold]
  repeat' split
  all_goals simp [h1]

@[simp] theorem base_takeDone (s : State) (sender : BitVec 4) (slot : Byte) (t : Term) (lane : Byte) :
    (s.takeDone sender slot t lane).base = s.base := by
  simp only [State.takeDone]
  repeat' split
  all_goals simp

@[simp] theorem base_takeDrop (s : State) (sender : BitVec 4) (slot : Byte) (t : Term) (reason : Byte) :
    (s.takeDrop sender slot t reason).base = s.base := by
  simp only [State.takeDrop]
  repeat' split
  all_goals simp

/-! ### Echoes -/

@[simp] theorem base_adoptRow (s : State) (k : Nat) (r : Row) : (s.adoptRow k r).base = s.base := by
  have h1 : ∀ (s : State) k a b role, (s.adoptUnnames k a b role).base = s.base := by
    intro s k a b role
    simp only [State.adoptUnnames]
    repeat' split
    all_goals simp
  have h2 : ∀ (s : State) k b role, (s.adoptNames k b role).base = s.base := by
    intro s k b role
    simp only [State.adoptNames]
    repeat' split
    all_goals simp
  simp [State.adoptRow, h1, h2]

@[simp] theorem base_takeEcho (s : State) (e : RowRecord) : (s.takeEcho e).base = s.base := by
  simp only [State.takeEcho]
  repeat' split
  all_goals simp

@[simp] theorem base_takeEchoes (s : State) (es : List RowRecord) : (s.takeEchoes es).base = s.base := by
  rw [State.takeEchoes.eq_def]
  split
  · split <;> simp
  · exact base_foldl _ base_takeEcho _ s

theorem row_adoptRow (s : State) {k : Nat} (r : Row) (h : k < s.table.length) : (s.adoptRow k r).row k = r := by
  have h1 : ∀ (s : State) k a b role j, (s.adoptUnnames k a b role).row j = s.row j := by
    intro s k a b role j
    simp only [State.adoptUnnames]
    repeat' split
    all_goals simp [row_unnamed]
  have h2 : ∀ (s : State) k b role j, (s.adoptNames k b role).row j = s.row j := by
    intro s k b role j
    refine row_of_skeleton ?_ j
    simp only [State.adoptNames]
    repeat' split
    all_goals simp
  rw [State.adoptRow]
  simp only [h1, h2]
  exact State.row_putRow_self _ _ h

theorem row_adoptRow_ne (s : State) {k j : Nat} (r : Row) (h : j ≠ k) : (s.adoptRow k r).row j = s.row j := by
  have h1 : ∀ (s : State) k a b role j, (s.adoptUnnames k a b role).row j = s.row j := by
    intro s k a b role j
    simp only [State.adoptUnnames]
    repeat' split
    all_goals simp [row_unnamed]
  have h2 : ∀ (s : State) k b role j, (s.adoptNames k b role).row j = s.row j := by
    intro s k b role j
    refine row_of_skeleton ?_ j
    simp only [State.adoptNames]
    repeat' split
    all_goals simp
  rw [State.adoptRow]
  simp only [h1, h2]
  exact State.row_putRow_ne _ _ h

/-! ### An ignored BID of this station -/

theorem row_markTried (s : State) (k j : Nat) : (s.markTried k).row j = s.row j := by
  rw [State.markTried]
  split <;> simp

/-- The slot joins the tried set where its row is OPEN. -/
theorem tried_markTried (s : State) (k : Nat) :
    ((s.markTried k).loc k).tried = ((s.row k).isOpen || (s.loc k).tried) := by
  rw [State.markTried]
  split
  · rename_i h
    rw [State.setLoc_eq, State.loc_setEntry_self _ _ (s.lt_length_of_row fun e => by simp [e, Row.isOpen] at h), h]
    rfl
  · simp_all

@[simp] theorem row_ownBidIgnored (s : State) (l : LaneId) (k : Nat) (role : CarriageRole) (t : Term) (j : Nat) :
    (s.ownBidIgnored l k role t).row j = s.row j := row_of_skeleton (by simp) j

/-- Whatever the lane of an ignored carrier BID has become, the slot joins the tried set where its row is OPEN (R41). -/
theorem tried_ownBidIgnored (s : State) (l : LaneId) (k : Nat) (t : Term) :
    ((s.ownBidIgnored l k .carrier t).loc k).tried = ((s.row k).isOpen || (s.loc k).tried) := by
  rw [State.ownBidIgnored.eq_def]
  dsimp only
  rw [tried_markTried]
  split <;> rfl

/-- The same for a standby BID and the standby-tried mark of its row (R47). -/
theorem standbyTried_ownBidIgnored (s : State) (l : LaneId) (k : Nat) (t : Term) :
    ((s.ownBidIgnored l k .standby t).loc k).standbyTried
      = ((s.row k).lacksStandby && s.termOf k == t || (s.loc k).standbyTried) := by
  have mark : ∀ u : State, u.row k = s.row k → u.loc k = s.loc k →
      ((if (u.row k).lacksStandby = true ∧ u.termOf k = t then u.markStandbyTried k else u).loc k).standbyTried
        = ((s.row k).lacksStandby && s.termOf k == t || (s.loc k).standbyTried) := by
    intro u hr hl
    have ht : u.termOf k = s.termOf k := by simp only [State.termOf, hr]
    rw [hr, ht]
    split
    · rename_i h
      have hk : k < u.table.length := u.lt_length_of_row fun e => by simp [← hr, e, Row.lacksStandby] at h
      rw [State.markStandbyTried, State.setLoc_eq, State.loc_setEntry_self _ _ hk]
      simp [h]
    · rename_i h
      rw [hl]
      simp only [not_and] at h
      cases hs : (s.row k).lacksStandby <;> simp_all
  rw [State.ownBidIgnored.eq_def]
  dsimp only
  split <;> exact mark _ rfl rfl

/-- A lane that has stopped the trial stays as it is (log 39). -/
theorem lane_ownBidIgnored (s : State) (l : LaneId) (k : Nat) (role : CarriageRole) (t : Term) (m : LaneId)
    (h : (s.lane l).tries k role = false) : (s.ownBidIgnored l k role t).lane m = s.lane m := by
  rw [State.ownBidIgnored.eq_def, h, if_neg Bool.false_ne_true]
  cases role with
  | carrier =>
    show (s.markTried k).lane m = s.lane m
    rw [State.markTried]
    split <;> rfl
  | standby => dsimp only; split <;> rfl

end Sys2Proof.Machine
end

