-- ==== Sys2Proof/Tests/Slice0.lean ====
section
/-! SUPPORT. Tests/Slice0.lean: commands that the well-formedness check refuses, and for every statement with hypotheses
small states that meet them, each with what the command does there; bits of the link, lines of the port, clocks of the
backplane, and when a discarded frame is queued again. -/

namespace Sys2Proof.Tests

open Sys2Proof.Machine Sys2Proof.Safety

set_option Elab.async false

/-! ### Commands that are not well formed -/

def demoRow : RowRecord :=
  { slot := 0#8, state := .swapping, termReclaims := some (7#16, 0#8), carrier := some 0x10#8, standby := some 0x21#8,
    lastCarrier := none, phaseHold := some 0x82#8, drainCount := none }

def demoSummary : LaneSummary := { state := 5#8, role := 2#8, slot := 0#8, margin := 20#8 }

def demoRoll : RollBody :=
  { number := 9#8, mode := .joined, digest := 0xBEEF#16, lanes := Vector.replicate 4 demoSummary, echoes := [demoRow] }

def demoRx : Rx := { sender := 1#4, seen := true, fresh := true }

def demoLines : WindowLines := { bytes := List.replicate 188 0#8, valid := false, last := false, validAny := false, lastAny := false }

def demoBytes : List Byte := 0x47#8 :: List.replicate 187 0x11#8

/-- A port on which so many reads of CFGD in a row find it low. -/
def answers (lowReads : Nat) : PortAnswer := { lowReads := lowReads, moments := 0, memory := [], canStop := false }

theorem test_wf_accepts : [Instr.resetEnd 5#3 (answers 10), .frameCheckFailed ⟨List.replicate 259 0#8, false, true, true⟩,
    .roll demoRx demoRoll, .directiveUnknownAction demoRx 0#8 5#8 0#8, .bidClockDue 19, .qualityPeriodClose 3 63,
    .windowEnd demoLines, .packetArrival 0 0 demoBytes false].all Instr.wf = true := by decide +kernel
theorem test_wf_reset_reads : (Instr.resetEnd 5#3 (answers 11)).wf = false := by decide +kernel
theorem test_wf_retry_reads : (Instr.loadRetryWaitExpiry (answers 11)).wf = false := by decide +kernel
theorem test_wf_raw_length : (Instr.frameCheckFailed ⟨List.replicate 260 0#8, false, true, true⟩).wf = false := by decide +kernel
theorem test_wf_raw_streak : (Instr.badReceiveStreakLimit ⟨List.replicate 260 0#8, false, true, true⟩).wf = false := by decide +kernel
theorem test_wf_roll_no_echo : (Instr.roll demoRx { demoRoll with echoes := [] }).wf = false := by decide +kernel
theorem test_wf_roll_joining_echo : (Instr.roll demoRx { demoRoll with mode := .joining }).wf = false := by decide +kernel
theorem test_wf_roll_phase :
    (Instr.roll demoRx { demoRoll with echoes := [{ demoRow with phaseHold := some 3#8 }] }).wf = false := by decide +kernel
theorem test_wf_report_phase : (Instr.report demoRx
    { index := 0#8, refused := false, outcome := 0#8, record := .row { demoRow with phaseHold := some 3#8 } }).wf = false := by
  decide +kernel
theorem test_wf_action : (Instr.directiveUnknownAction demoRx 0#8 4#8 0#8).wf = false := by decide +kernel
theorem test_wf_slots : [Instr.bidClockDue 20, .standbyBidClockDue 20, .reclaimWaitExpiry 20].any Instr.wf = false := by decide +kernel
theorem test_wf_margins : [Instr.qualityPeriodClose 0 64, .steadyRunComplete 0 64, .qualityTrigger 0 64,
    .clashStreakLimit 0 64].any Instr.wf = false := by decide +kernel
theorem test_wf_packet : [Instr.packetArrival 0 0 (demoBytes ++ [0#8]) false,
    .packetArrival 0 0 (0x46#8 :: demoBytes.drop 1) false].any Instr.wf = false := by decide +kernel
theorem test_wf_lines : [WindowLines.mk (0#8 :: demoLines.bytes) false false false false, { demoLines with valid := true },
    { demoLines with last := true }].any (fun w => Instr.wf (.windowEnd w)) = false := by decide +kernel
theorem test_wf_lines_of_limits : (Instr.overrunLimit { demoLines with last := true }).wf = false
    ∧ (Instr.drainCountdownEnd false { demoLines with valid := true }).wf = false := by decide +kernel

/-! ### Small states -/

def demoSlot (outlet : Nat) : SlotRec :=
  { freq := 474000, bandwidth := .mhz8, input := .either, profile := .fixed, rank := 2, outlet := outlet, home := 0,
    mask := 0xFF#8, rotate := false, standbyWanted := true }

def demoPlan : Plan :=
  { number := 3#16, drainCount := 16, retry := .limited,
    windows := Vector.replicate 8 ({ valid := false, value := 0#5, mask := 0#5 }, { valid := false, value := 0#5, mask := 0#5 }),
    slots := [demoSlot 0, demoSlot 1], digest := 0xBEEF#16 }

/-- A PRESENT, JOINED peer with the same plan. -/
def demoPeer : PeerRec :=
  { state := .present, mode := some .joined, lastRoll := some 5#8, digest := some 0xBEEF#16, lanes := none,
    staleTimer := some 750, staleMark := false }

/-- Station 0 with peers 1 and 2, two slots, in a mode, with the rows given. -/
def demo (mode : Mode) (rows : List Row) : State :=
  { State.reset with
    inReset := false, lineFound := true, mode := mode, plan := some demoPlan,
    table := rows.map fun r => { row := r, loc := .reset },
    dir := ((State.reset.dir.set 0 { PeerRec.absent with state := .self, mode := some .joined }).set 1 demoPeer).set 2 demoPeer,
    rollTimer := some 250 }

/-- A locked lane with a role for a slot. -/
def demoLane (role : LaneRole) (slot : Nat) : Lane :=
  { Lane.reset with
    state := .locked, role := role, slot := some slot, lockClock := some 0, periodClock := some 100,
    gate := role.mayOpen && !(role == .taker),
    sync := { synced := true, boundary := some 188, lockHit := none, hits := 5, misses := 0, qualified := false } }

/-- What a command leads to. -/
def after (c : Instr) (s : State) : State :=
  match exec c s with
  | .next t => t
  | _ => s

/-- A frame of a station, seen. -/
def rxOf (x : Station) : Rx := { sender := BitVec.ofNat 4 x.val, seen := true, fresh := true }

/-- The state with a frame of its own on the line. -/
def onLine (s : State) (f : Frame) : State :=
  { s with link := { s.link with onAir := some f, queue := [{ frame := .fixed f, onLine := true }] } }

theorem rows_of_table {P : Row → Prop} {s : State} (h : ∀ e ∈ s.table, P e.row) (hu : P .unknown) (k : Nat) : P (s.row k) := by
  unfold State.row
  split
  · exact hu
  · next e he => exact h e (List.mem_of_getElem? he)

/-- The invariants of a lane that its own events ask for, as a test. -/
def stands (s : State) (l : LaneId) : Bool :=
  let x := s.lane l
  (x.role != .trial || s.trialStands x
      && x.slot.all (fun k => s.placeNow k == (s.loc k).place && s.standbyPlaceNow k == (s.loc k).standbyPlace)
      && (!x.mark.bidsStandby || s.table.all fun e => !e.row.isOpen))
    && (match x.mark with
      | .held fs _ => s.mode != .joining && (s.row fs).isOpen && s.link.queued (isReclaimCedeOf l)
      | _ => true)
    && (match x.ctx with
      | .none => true
      | .taker k t _ _ => s.swappingAt k t (fun _ => true)
      | .giver k t stage _ _ => s.swappingAt k t (fun _ => true)
          || (stage == .offering && s.link.heldFrame (isOfferFrame k) && s.wants (.swapOffer (byteOf k) t)
            && allLanes.all fun i => i == l || ((s.lane i).ctx == .none && !(s.lane i).mark.isHeld)))

theorem mem_allLanes : ∀ i : LaneId, i ∈ allLanes := by decide

theorem stands_of {s : State} {l : LaneId} (h : stands s l = true) : TrialStands s l ∧ HeldStands s l ∧ SwapStands s l := by
  simp only [stands, Bool.and_eq_true, Bool.or_eq_true] at h
  obtain ⟨⟨ht, hh⟩, hc⟩ := h
  refine ⟨fun hr => ?_, fun fs r hm => ?_, ?_⟩
  · rcases ht with ht | ⟨⟨h1, h2⟩, h3⟩
    · simp [hr] at ht
    · refine ⟨h1, fun k hk => ?_, ?_⟩
      · simpa [hk] using h2
      · rintro ⟨t, hm⟩ j
        have hall : ∀ e ∈ s.table, e.row.isOpen = false := fun e he => by
          rcases h3 with h3 | h3
          · rw [hm] at h3
            nomatch h3
          · exact (Bool.not_eq_true' _).mp (List.all_eq_true.1 h3 e he)
        exact rows_of_table (s := s) (P := fun r => r.isOpen = false) hall rfl j
  · simpa [hm, and_assoc] using hh
  · unfold SwapStands
    split
    · trivial
    · next hx => simpa [hx] using hc
    · next hx =>
      simp only [hx, Bool.or_eq_true, Bool.and_eq_true, beq_iff_eq, List.all_eq_true] at hc
      refine hc.imp id fun h => ⟨h.1.1.1, h.1.1.2, h.1.2, fun i hi => ?_⟩
      have := h.2 i (mem_allLanes i)
      simpa [hi] using this

/-! ### The machine -/

theorem test_O2 : State.reset.pending = [] ∧ (demo .joined []).pending = []
    ∧ ({ demo .joined [] with rollTimer := some 1 } : State).rollTimer = some 1
    ∧ (State.tick { demo .joined [] with rollTimer := some 1 }).pending = [.rollTimerExpiry] := by decide +kernel

theorem test_O4 : exec .rollTimerExpiry (demo .joined []) = .next (after .rollTimerExpiry (demo .joined []))
    ∧ Instr.rollTimerExpiry ≠ .powerOnReset ∧ (after .rollTimerExpiry (demo .joined [])).plan = some demoPlan :=
  ⟨rfl, by decide +kernel, by decide +kernel⟩

/-! ### Invariants -/

def rowsCarried (t : Term) : List Row := [.carried t ⟨1, 0⟩ (some ⟨2, 3⟩) none, .opened 4#16 none 3]

theorem test_O5 : ((demo .joined (rowsCarried 0xFFFE#16)).row 0).term = some 0xFFFE#16
    ∧ ((after (.cedeCarrier (rxOf 1) 0#8 0xFFFE#16 0#8 .lost) (demo .joined (rowsCarried 0xFFFE#16))).row 0)
      = .carried 0xFFFF#16 ⟨2, 3⟩ none (some 1)
    ∧ ((after (.cedeCarrier (rxOf 1) 0#8 0xFFFF#16 0#8 .lost) (demo .joined (rowsCarried 0xFFFF#16))).row 0)
      = .opened 0xFFFF#16 (some 1) 0 := by decide +kernel

theorem test_O6 : tableOk (demo .joined (rowsCarried 5#16)) := by
  refine ⟨rows_of_table ?_ trivial, ?_⟩
  · intro e he
    simp only [demo, rowsCarried, List.map, List.mem_cons, List.not_mem_nil, or_false] at he
    rcases he with rfl | rfl
    · intro p hp; cases hp; decide
    · exact Nat.le_refl 3
  · rintro (_ | _ | j) (_ | _ | k) p <;> simp [State.row, demo, rowsCarried, Row.names, Row.carrier, Row.standby]

/-- A TAKER whose buffer and trace are full. -/
def fullTaker : Lane :=
  { demoLane .taker 0 with
    gate := true, buffer := List.replicate 32 (packetRecOf [0x47#8, 0#8, 1#8, 0#8] false),
    taker := some { trace := List.replicate 8 { signature := 1#16, last := false }, aligned := false, feeding := true },
    ctx := .taker 0 5#16 .draining none }

theorem test_O7 : ∀ l, gateOk (((demo .joined []).setLane 3 fullTaker).lane l) := by
  simp only [gateOk]; decide +kernel

def fullQueue : List QEntry :=
  [⟨.fixed (.quiet 1#8 5#8), true⟩, ⟨.fixed (.bid 0#8 0#8 5#16 0#8 20#8), false⟩, ⟨.fixed (.bid 0#8 1#8 5#16 1#8 20#8), false⟩,
    ⟨.fixed (.bid 1#8 0#8 5#16 2#8 20#8), false⟩, ⟨.fixed (.bid 1#8 1#8 5#16 3#8 20#8), false⟩,
    ⟨.fixed (.directive 1#8 0#8 0#8), false⟩, ⟨.report, false⟩, ⟨.roll, false⟩]

theorem test_O8 : queueOk fullQueue ∧ queueOk (Link.requestRoll { Link.reset with queue := fullQueue }).queue
    ∧ queueOk (Link.join { Link.reset with queue := fullQueue } (.fixed (.swapOffer 0#8 5#16))).queue := by
  simp only [queueOk, requests]; decide +kernel

theorem boundsOk_of_all {x : Lane} (h : x.buffer.length ≤ 32 ∧ x.taker.all (fun t => decide (t.trace.length ≤ 8)) = true) :
    boundsOk x := by
  refine ⟨h.1, fun t ht => ?_⟩
  have := h.2
  simpa [ht] using this

theorem test_O9 : ∀ l, boundsOk (((demo .joined []).setLane 3 fullTaker).lane l) :=
  fun l => boundsOk_of_all (by revert l; decide +kernel)

theorem test_O9_table : (demo .joined (List.replicate 20 .unknown)).table.length ≤ 20 := by decide +kernel

/-! ### Frames as bytes -/

def demoFrames : List Frame :=
  [.quiet 7#8 255#8, .cede 0#8 0#8 5#16 3#8 (.reclaimed 19#8), .cede 0#8 1#8 5#16 3#8 .resting, .swapDrop 0#8 5#16 3#8,
    .swapDone 0#8 6#16 3#8, .swapGo 0#8 5#16 16#8, .swapHold 0#8 5#16 1#8, .swapReady 0#8 5#16, .swapOffer 0#8 5#16,
    .bid 0#8 1#8 5#16 3#8 63#8, .directive 0#8 5#8 0#8, .query 0#8 4#8 19#8,
    .report { index := 19#8, refused := true, outcome := 5#8, record := .row { demoRow with drainCount := some 255#8 } },
    .roll { demoRoll with echoes := [demoRow, { demoRow with slot := 1#8, state := .unknown }] },
    .roll { demoRoll with mode := .isolated, echoes := [] }]

theorem test_O11 : demoFrames.all Frame.wf = true ∧ demoFrames.all (fun f =>
    receiveCheck { bytes := encodeFrame 7#4 f, badStop := false, endless := false, fresh := true } == some (7#4, f)) = true := by
  decide +kernel

/-- Each failure of the check, on a frame that is otherwise whole. -/
theorem test_O12 :
    (let good := encodeFrame 1#4 (.quiet 1#8 2#8)
     let raw : RawFrame := { bytes := good, badStop := false, endless := false, fresh := true }
     receiveCheck raw = some (1#4, .quiet 1#8 2#8)
     ∧ receiveCheck { raw with badStop := true } = none ∧ receiveCheck { raw with endless := true } = none
     ∧ receiveCheck { raw with bytes := good.take 3 } = none ∧ receiveCheck { raw with bytes := good.take 5 } = none
     ∧ receiveCheck { raw with bytes := good.set 2 9#8 } = none
     ∧ receiveCheck { raw with bytes := [0xD1#8, 0#8] ++ wordBytes (checkSequence [0xD1#8, 0#8]) } = none) := by decide +kernel

theorem test_O13 : arbitrationLost 0x81#8 [0x90#8, 0x80#8] = true ∧ arbitrationLost 0x81#8 [0x81#8, 0x90#8] = false
    ∧ 15 < 16 ∧ (headerByte 15#4 0).toNat < (headerByte 0#4 15).toNat := by decide +kernel

/-- A frame as the line carries it; a dominant stop bit; a start bit after the longest frame; marks in the window; when the line
is idle. -/
theorem test_readLine :
    (let bytes := encodeFrame 1#4 (.quiet 1#8 2#8)
     readLine .idle (frameBits bytes) = (.waiting 0, [.frameEnd bytes false false, .windowEnd false false])
     ∧ (readLine .idle ((frameBits bytes).set 9 false)).2 = [.frameEnd bytes true false, .windowEnd false false]
     ∧ (frameBits bytes).take 10 = [false, false, false, false, false, false, false, false, true, true]
     ∧ readLineBit (.slot (List.replicate 259 0#8) false []) false
       = (.waiting 0, some (.frameEnd (List.replicate 259 0#8) false true))
     ∧ readLine .spoilBit [false, true] = (.waiting 0, [.windowEnd true false])
     ∧ readLine .spoilBit [true, false] = (.waiting 0, [.windowEnd false true])
     ∧ (readLine .reset (List.replicate 10 true)).1 = .waiting 10 ∧ (readLine .reset (List.replicate 11 true)).1 = .idle
     ∧ (readLine .reset (List.replicate 10 true ++ [false])).1 = .waiting 0
     ∧ lineLevel [true, false, true] = false ∧ lineLevel [true, true] = true) := by decide +kernel

/-! ### Resets and the plan -/

/-- An image of a plan with `n` slots, its check sequence as it should be. -/
def demoImage (n : Nat) : List Byte :=
  let covered := wordBytes (BitVec.ofNat 16 (41 + 8 * n)) ++ [0#8, 3#8, byteOf n, 16#8, 0#8] ++ List.replicate 32 0#8
    ++ ((List.range n).map fun k => [0x07#8, 0x3B#8, 0x90#8, 0x48#8, 2#8, byteOf k, 0#8, 0xFF#8]).flatten
  covered ++ wordBytes (checkSequence covered)

set_option maxRecDepth 100000 in
theorem test_O14 : ((judgeImage (demoImage 1)).map fun p => p.slots.length) = some 1
    ∧ ((judgeImage (demoImage 20)).map fun p => p.slots.length) = some 20
    ∧ judgeImage ((demoImage 1).set 5 15#8) = none := by decide +kernel

/-- A station that is reset: its lines are held. -/
def held : State := { State.reset with resetCause := .pin }

/-- A station that loads, after the given number of attempts without an answer. -/
def loading (attempts : Nat) (phase : LoaderPhase) : State :=
  { State.reset with inReset := false, number := 7, loader := { Loader.reset with phase := phase, attempts := attempts } }

theorem test_O16 : held.inReset = true ∧ (after (.resetEnd 7#3 (answers 9)) held).loader.phase = .reading
    ∧ (after (.resetEnd 7#3 (answers 9)) held).number = 7 ∧ (after (.resetEnd 7#3 (answers 10)) held).loader.wait = some 20
    ∧ (after (.resetEnd 7#3 (answers 10)) held).loader.attempts = 1
    ∧ (after (.resetEnd 7#3 (answers 10)) held).portDriven
      = (List.replicate 9 [⟨true, false⟩, ⟨false, false⟩]).flatten ++ [.undriven]
    ∧ (after (.resetEnd 7#3 (answers 9)) held).portDriven
      = (List.replicate 9 [⟨true, false⟩, ⟨false, false⟩]).flatten ++ stopLines false ++ [.undriven] := by decide +kernel

/-- A station that reads, and abandons the attempt after so many moments if it gets no answer. -/
def leaving (attempts moments : Nat) (canStop : Bool) : State :=
  { loading attempts .reading with
    loader := { (loading attempts .reading).loader with answer := { answers 0 with moments := moments, canStop := canStop } } }

/-- An attempt abandoned at an address that the memory does not acknowledge is ended with a stop condition, one in which CFGC is held
low is not; a bus that stays low ends the last attempt. -/
theorem test_O17 : (leaving 1 34 true).loader.phase = .reading ∧ (leaving 1 34 true).loader.attempts < 2
    ∧ (after .loadNoAnswer (leaving 1 34 true)).loader.attempts = 2 ∧ 2 ≤ (leaving 2 6 true).loader.attempts
    ∧ (after .clockHoldTimeout (leaving 2 6 true)).barredCause = .planBad
    ∧ (loading 2 .waiting).loader.phase = .waiting
    ∧ (after (.loadRetryWaitExpiry (answers 9)) (loading 2 .waiting)).loader.pulses = 9
    ∧ (after (.loadRetryWaitExpiry (answers 9)) (loading 2 .waiting)).loader.port = portLines (busClear 9)
    ∧ (after (.loadRetryWaitExpiry (answers 10)) (loading 1 .waiting)).loader.wait = some 20
    ∧ (after (.loadRetryWaitExpiry (answers 10)) (loading 2 .waiting)).mode = .barred
    ∧ (after .loadNoAnswer (leaving 1 34 true)).portDriven
      = portLines [.stop, .start, .send 0xA8#8] ++ stopLines false ++ [.undriven]
    ∧ (after .clockHoldTimeout (leaving 2 6 true)).portDriven
      = portLines [.stop] ++ [⟨false, false⟩, ⟨false, true⟩, .undriven]
    ∧ abandonedLines [⟨true, true⟩] 1 true = [⟨true, true⟩, ⟨true, true⟩, ⟨true, true⟩, ⟨false, true⟩, .undriven]
    ∧ abandonedLines [⟨true, true⟩] 0 false = [] := by decide +kernel

set_option maxRecDepth 100000 in
theorem test_O18 : (loading 0 .reading).loader.phase = .reading
    ∧ (judgeImage (readImage (demoImage 2 ++ [1#8]))).isSome = true
    ∧ (after (.loadAttemptComplete (demoImage 2 ++ [1#8])) (loading 0 .reading)).mode = .joining
    ∧ (after (.loadAttemptComplete (demoImage 2)) (loading 0 .reading)).loader.port = attemptLines 0 (demoImage 2)
    ∧ judgeImage (readImage ((demoImage 2).set 7 0x20#8)) = none
    ∧ (after (.loadAttemptComplete ((demoImage 2).set 7 0x20#8)) (loading 0 .reading)).mode = .barred := by decide +kernel

/-- The configuration port: addresses, the bus clear, the sequential read, and the lines through a start, bits and a stop. -/
theorem test_port : addressByte false = 0xA8#8 ∧ addressByte true = 0xA9#8
    ∧ busClear 0 = [.stop] ∧ busClear 9 = List.replicate 9 .pulse ++ [.stop] ∧ busClear 10 = List.replicate 9 .pulse
    ∧ State.reset.portDriven = [.undriven]
    ∧ (imageRead (demoImage 1)).take 6 = [.start, .send 0xA8#8, .send 0#8, .send 0#8, .restart, .send 0xA9#8]
    ∧ bytesRead (imageRead (demoImage 1)) = 49 ∧ (imageRead (demoImage 1)).drop 54 = [.read false, .stop]
    ∧ bytesRead (imageRead (demoImage 21)) = 39
    ∧ PortOp.lines .start = [⟨false, false⟩, ⟨false, true⟩, ⟨true, true⟩]
    ∧ (PortOp.lines (.send 0x7F#8)).take 3 = [⟨true, true⟩, ⟨false, true⟩, ⟨true, true⟩]
    ∧ (PortOp.lines (.send 0#8)).drop 24 = [⟨true, false⟩, ⟨false, false⟩, ⟨true, false⟩]
    ∧ PortOp.lines .stop = [⟨true, false⟩, ⟨true, true⟩, ⟨false, true⟩, ⟨false, false⟩] := by decide +kernel

/-! ### The station link -/

def withQueue (s : State) (q : List QFrame) : State :=
  { s with link := { s.link with queue := q.map fun f => { frame := f, onLine := false } } }

theorem test_O19 : (demo .joined []).mode.onLink = true
    ∧ (withQueue (demo .joined []) [.roll]).link.onAir = none
    ∧ (withQueue (demo .joined []) [.roll]).link.queue = ⟨.roll, false⟩ :: []
    ∧ arbitrationLost (headerByte (demo .joined []).sender (QFrame.code .roll)) [0xC1#8] = false
    ∧ arbitrationLost (headerByte (demo .joined []).sender (QFrame.code .roll)) [0xBF#8] = true
    ∧ (after (.frameSendStart [0xC1#8]) (withQueue (demo .joined []) [.roll])).link.onAir
      = some (.roll (demo .joined []).rollBody)
    ∧ (demo .joined []).lineFound = true
    ∧ (let s : State := { withQueue (demo .joined []) [.roll] with lineFound := false }
       s.lineFound = false ∧ after (.frameSendStart []) s = s)
    ∧ (let s := onLine (demo .joined []) (.quiet 1#8 5#8)
       s.link.onAir.isSome = true ∧ after (.frameSendStart []) s = s) := by decide +kernel

theorem test_O20 : (onLine (demo .joined []) (.quiet 1#8 5#8)).link.onAir.isSome = true
    ∧ (after .duplicateSendMismatch (onLine (demo .joined []) (.quiet 1#8 5#8))).barredCause = .duplicate
    ∧ (demo .isolated []).mode.onLink = true ∧ (demo .isolated []).link.onAir = none
    ∧ (after (.frameOwnNumberReceived true) (demo .isolated [])).mode = .barred := by decide +kernel

def badRaw : RawFrame := { bytes := [], badStop := false, endless := true, fresh := true }

def withStreaks (s : State) (spoil unseen badRx : Nat) : State :=
  { s with link := { s.link with spoil := spoil, unseen := unseen, badRx := badRx } }

theorem test_O21 : (demo .joined []).mode.onLink = true ∧ badRaw.fresh = true ∧ receiveCheck badRaw = none
    ∧ (withStreaks (demo .joined []) 0 0 6).link.badRx < 7
    ∧ (after (.frameCheckFailed badRaw) (withStreaks (demo .joined []) 0 0 6)).link.badRx = 7
    ∧ 7 ≤ (withStreaks (demo .joined []) 0 0 7).link.badRx
    ∧ (after (.badReceiveStreakLimit badRaw) (withStreaks (demo .joined []) 0 0 7)).mode = .isolated
    ∧ (1#4 : BitVec 4) ≠ (demo .joined []).sender
    ∧ (after (.frameSpoiled 1#4 true) (withStreaks (demo .joining []) 0 0 7)).link.badRx = 0
    ∧ (after (.frameSpoiled 9#4 true) (demo .isolated [])).resetCause = .isolationEnd := by decide +kernel

theorem test_O22 : (onLine (withStreaks (demo .joined []) 6 0 0) (.quiet 1#8 5#8)).link.spoil < 7
    ∧ (after .ownFrameSpoiled (onLine (withStreaks (demo .joined []) 6 0 0) (.quiet 1#8 5#8))).link.spoil = 7
    ∧ (after .ownFrameSpoiled (onLine (withStreaks (demo .joined []) 6 0 0) (.quiet 1#8 5#8))).link.queue
      = [⟨.fixed (.quiet 1#8 5#8), false⟩]
    ∧ (after .spoilStreakLimit (onLine (withStreaks (demo .joined []) 7 0 0) (.quiet 1#8 5#8))).mode = .mute := by
  decide +kernel

theorem test_O23 : (onLine (withStreaks (demo .joined []) 0 6 0) (.quiet 1#8 5#8)).presentPeer = true
    ∧ (demo .joined []).mode.appliesFrames = true
    ∧ (after .ownFrameVoid (onLine (withStreaks (demo .joined []) 3 6 0) (.quiet 1#8 5#8))).link.unseen = 7
    ∧ (after .unseenStreakLimit (onLine (withStreaks (demo .resting []) 0 7 0) (.quiet 1#8 5#8))).mode = .isolated := by
  decide +kernel

/-! ### Frames that change the table -/

/-- A QUIET about its own sender: removed from the rows, and PRESENT again (log 51). -/
theorem test_quiet_about_its_sender :
    (let t := after (.quiet (rxOf 1) 1#8 5#8) (demo .joined (rowsCarried 5#16))
     t.row 0 = .carried 6#16 ⟨2, 3⟩ none (some 1) ∧ t.peer 1 = demoPeer) := by decide +kernel

/-- The QUIET of station 1 and this station's own QUIET about station 2. -/
theorem test_O24 :
    (let s := demo .joined (rowsCarried 5#16)
     Applies s (rxOf 1) (.quiet 2#8 5#8) 1 ∧ stationOf 2#8 = some 2 ∧ (2 : Station) ≠ s.number ∧ (s.peer 2).state = .present
     ∧ (s.peer 2).lastRoll = some 5#8
     ∧ (after (.quiet (rxOf 1) 2#8 5#8) s).row 0 = .carried 5#16 ⟨1, 0⟩ none none
     ∧ ((after (.quiet (rxOf 1) 2#8 5#8) s).peer 2).state = .silent
     ∧ Applies s (rxOf 1) (.quiet 2#8 6#8) 1 ∧ (s.peer 2).lastRoll ≠ some 6#8
     ∧ (after (.quiet (rxOf 1) 2#8 6#8) s).row 0 = s.row 0
     ∧ Applies (onLine s (.quiet 1#8 5#8)) (rxOf 0) (.quiet 1#8 5#8) 0
     ∧ (after (.quiet (rxOf 0) 1#8 5#8) (onLine s (.quiet 1#8 5#8))).row 0 = .carried 6#16 ⟨2, 3⟩ none (some 1)) := by
  decide +kernel

theorem test_O25 :
    (let s := demo .resting (rowsCarried 5#16)
     (1 : Station) ≠ s.number ∧ Applies s (rxOf 1) (.quiet (byteOf s.number.val) 0#8) 1 ∧ 0#8 = s.link.lastRoll
     ∧ (after (.quietAboutSelf (rxOf 1) 0#8) s).resetCause = .quieted
     ∧ Applies s (rxOf 1) (.quiet (byteOf s.number.val) 1#8) 1 ∧ 1#8 ≠ s.link.lastRoll
     ∧ (after (.quietAboutSelf (rxOf 1) 1#8) s).mode = .resting) := by decide +kernel

def rowsForReclaim : List Row := [.carried 5#16 ⟨1, 0⟩ (some ⟨2, 3⟩) none, .opened 4#16 none 2]

theorem test_O26 :
    (let s := demo .joined rowsForReclaim
     Applies s (rxOf 1) (.cede 0#8 0#8 5#16 0#8 (.reclaimed 1#8)) 1 ∧ (1#8 : Byte).toNat < s.slotCount
     ∧ laneOf 0#8 = some 0 ∧ (s.row 0).term = some 5#16 ∧ (s.row 0).carrier = some ⟨1, 0⟩
     ∧ (after (.cedeCarrier (rxOf 1) 0#8 5#16 0#8 (.reclaimed 1#8)) s).row 0 = .carried 6#16 ⟨2, 3⟩ none (some 1)
     ∧ (after (.cedeCarrier (rxOf 1) 0#8 5#16 0#8 (.reclaimed 1#8)) s).row 1 = .opened 4#16 none 3
     ∧ ¬ (2#8 : Byte).toNat < s.slotCount
     ∧ (after (.cedeCarrier (rxOf 1) 0#8 5#16 0#8 (.reclaimed 2#8)) s).row 0 = s.row 0
     ∧ Applies s (rxOf 2) (.cede 0#8 1#8 5#16 3#8 .lost) 2 ∧ laneOf 3#8 = some 3 ∧ (s.row 0).standby = some ⟨2, 3⟩
     ∧ (after (.cedeStandby (rxOf 2) 0#8 5#16 3#8 .lost) s).row 0 = .carried 5#16 ⟨1, 0⟩ none none
     ∧ (after (.cedeStandby (rxOf 2) 0#8 6#16 3#8 .lost) s).row 0 = s.row 0) := by decide +kernel

/-- Slot 1 OPEN with a count, slot 0 carried by station 1 with lane 2 of this station, in a role, as its standby. -/
def standing (mode : Mode) (role : LaneRole) (t : Term) : State :=
  (demo mode [if role = .taker then .swapping t ⟨1, 0⟩ ⟨0, 2⟩ none .offered else .carried t ⟨1, 0⟩ (some ⟨0, 2⟩) none,
    .opened 4#16 none 3]).setLane 2 { demoLane role 0 with
      buffer := [packetRecOf [0x47#8] false], ctx := if role = .taker then .taker 0 t .seeking (some 9) else .none,
      taker := if role = .taker then some { trace := [], aligned := true, feeding := true } else none }

/-- The for-slot at its edges: the CEDE's own slot, whose row it opens (log 37), and a row that counts 3 already. -/
theorem test_O26_own_slot :
    (let cede := fun (k : Byte) s => after (.cedeCarrier (rxOf 1) 0#8 5#16 0#8 (.reclaimed k)) s
     let s := demo .joined [.carried 5#16 ⟨1, 0⟩ none none, .opened 4#16 none 3]
     Applies s (rxOf 1) (.cede 0#8 0#8 5#16 0#8 (.reclaimed 0#8)) 1 ∧ (0#8 : Byte).toNat < s.slotCount
     ∧ (cede 0#8 s).row 0 = .opened 5#16 (some 1) 1 ∧ (cede 1#8 s).row 0 = .opened 5#16 (some 1) 0
     ∧ (cede 1#8 s).row 1 = .opened 4#16 none 3) := by decide +kernel

/-- A cut of this station's own STANDBY or TAKER: the lane carries on, cedes again in RESTING, is released at term 65535. -/
theorem test_O26_cut :
    ([LaneRole.standby, .taker].all fun role =>
      let cut := fun m t => after (.cedeCarrier (rxOf 1) 0#8 t 0#8 .yielded) (standing m role t)
      let s := standing .joined role 5#16
      decide (Applies s (rxOf 1) (.cede 0#8 0#8 5#16 0#8 .yielded) 1) && (s.lane 2).standsBy 0
        && !(s.lane 2).mark.isHeld && (s.row 0).standby == some ⟨0, 2⟩
        && ((cut .joined 5#16).lane 2).role == .carrier && ((cut .joined 5#16).lane 2).gate
        && ((cut .joined 5#16).lane 2).buffer == (s.lane 2).buffer && ((cut .joined 5#16).lane 2).ctx == .none
        && ((cut .joined 0xFFFE#16).lane 2).role == .carrier
        && ((cut .resting 5#16).lane 2).role == .free
        && (cut .resting 5#16).link.queue == [⟨.fixed (.cede 0#8 0#8 6#16 2#8 .resting), false⟩]
        && ((cut .joined 0xFFFF#16).lane 2).role == .free && ((cut .joined 0xFFFF#16).lane 2).slot == none
        && ((cut .resting 0xFFFF#16).lane 2).role == .free && (cut .resting 0xFFFF#16).link.queue == []) = true := by decide +kernel

/-- A cut names a lane that gave up STANDBY before: its CEDE queued, or on the line, which the new one then waits behind. -/
theorem test_O26_in_vain :
    (let cut := fun s => after (.cedeCarrier (rxOf 1) 0#8 5#16 0#8 .lost) s
     let old : QFrame := .fixed (.cede 0#8 1#8 5#16 2#8 .lost)
     let s := withQueue ((standing .joined .standby 5#16).setLane 2 Lane.reset) [old]
     let o := { s with link := { s.link with queue := [⟨old, true⟩] } }
     Applies s (rxOf 1) (.cede 0#8 0#8 5#16 0#8 .lost) 1 ∧ (s.row 0).standby = some ⟨0, 2⟩
     ∧ (s.lane 2).standsBy 0 = false ∧ (s.lane 2).mark.isHeld = false ∧ (s.lane 2).role = .free ∧ (s.lane 2).gate = false
     ∧ (cut s).row 0 = .carried 6#16 ⟨0, 2⟩ none (some 1) ∧ ((cut s).lane 2).role = .free
     ∧ (cut s).link.queue = [⟨.fixed (.cede 0#8 0#8 6#16 2#8 .lost), false⟩]
     ∧ (cut o).link.queue = [⟨old, true⟩] ∧ (cut o).link.owed = [.fixed (.cede 0#8 0#8 6#16 2#8 .lost)]) := by decide +kernel

/-- A HELD lane at the completion of its own CEDE, accepted and ignored: the for-slot row OPEN, the claim unit inactive, the row
carried. -/
theorem test_O26_reclaimed :
    (let done := fun t s => after (.cedeStandby (rxOf 0) 0#8 t 2#8 (.reclaimed 1#8)) s
     let held := fun m t => onLine ((standing m .standby 5#16).setLane 2 { demoLane .free 0 with mark := .held 1 .standby })
       (.cede 0#8 1#8 t 2#8 (.reclaimed 1#8))
     let s := held .joined 5#16
     let c := s.setEntry 1 ⟨.carried 4#16 ⟨1, 1⟩ (some ⟨2, 1⟩) none, .reset⟩
     Applies s (rxOf 0) (.cede 0#8 1#8 5#16 2#8 (.reclaimed 1#8)) 0 ∧ (s.lane 2).mark = .held (1#8 : Byte).toNat .standby
     ∧ (s.lane 2).ctx = .none ∧ s.claimActive = true ∧ ((done 5#16 s).row 1).isOpen = true
     ∧ ((done 5#16 s).lane 2).role = .trial ∧ ((done 5#16 s).lane 2).mark = .reclaim
     ∧ ((done 5#16 s).lane 2).slot = some 1 ∧ ((done 5#16 s).lane 2).state = .tune
     ∧ ((done 4#16 (held .joined 4#16)).row 0).standby = some ⟨0, 2⟩
     ∧ ((done 4#16 (held .joined 4#16)).lane 2).mark = .reclaim
     ∧ (held .resting 5#16).claimActive = false ∧ ((done 5#16 (held .resting 5#16)).lane 2).slot = none
     ∧ ((done 5#16 c).row 1).isOpen = false ∧ ((done 5#16 c).lane 2).role = .free ∧ ((done 5#16 c).lane 2).slot = none) := by
  decide +kernel

def rowsOpen (t : Term) : List Row := [.carried 5#16 ⟨1, 0⟩ none none, .opened t (some 2) 0]

theorem test_O27 : (∀ j, ((demo .joined (rowsOpen 0xFFFE#16)).row j).names ⟨2, 3⟩ = false)
    ∧ (let s := demo .joined (rowsOpen 0xFFFE#16)
       Applies s (rxOf 2) (.bid 1#8 0#8 0xFFFF#16 3#8 0#8) 2 ∧ TakesBids s ∧ laneOf 3#8 = some 3
       ∧ (s.peer 2).state = .present ∧ (s.peer 2).mode = some .joined ∧ s.inMask 1 2 = true
       ∧ (after (.bidCarrier (rxOf 2) 1#8 0xFFFF#16 3#8 0#8) s).row 1 = .carried 0xFFFF#16 ⟨2, 3⟩ none (some 2)
       ∧ (after (.bidCarrier (rxOf 2) 1#8 0xFFFE#16 3#8 0#8) s).row 1 = s.row 1
       ∧ (after (.bidCarrier (rxOf 2) 1#8 0#16 3#8 0#8) (demo .joined (rowsOpen 0xFFFF#16))).row 1
         = .opened 0xFFFF#16 (some 2) 0) :=
  ⟨rows_of_table (P := fun r => r.names ⟨2, 3⟩ = false) (by decide +kernel) rfl, by decide +kernel⟩

theorem test_O28 : (∀ j, ((demo .joining (rowsOpen 4#16)).row j).names ⟨2, 3⟩ = false)
    ∧ (let s := demo .joining (rowsOpen 4#16)
       Applies s (rxOf 2) (.bid 0#8 1#8 5#16 3#8 0#8) 2 ∧ TakesBids s ∧ laneOf 3#8 = some 3
       ∧ s.row 0 = .carried 5#16 ⟨1, 0⟩ none none ∧ s.standbyWanted 0 = true ∧ s.inMask 0 2 = true
       ∧ (s.peer 2).state = .present ∧ (s.peer 2).mode = some .joined
       ∧ (after (.bidStandby (rxOf 2) 0#8 5#16 3#8 0#8) s).row 0 = .carried 5#16 ⟨1, 0⟩ (some ⟨2, 3⟩) none
       ∧ (after (.bidStandby (rxOf 2) 0#8 6#16 3#8 0#8) s).row 0 = s.row 0) :=
  ⟨rows_of_table (P := fun r => r.names ⟨2, 3⟩ = false) (by decide +kernel) rfl, by decide +kernel⟩

/-- A station that has yet to learn row 0 applies no BID; a lane above 3 names no lane. -/
theorem test_O27_unlearnt :
    (let s := demo .joining [.unknown, .opened 4#16 none 0]
     Applies s (rxOf 2) (.bid 1#8 0#8 5#16 3#8 0#8) 2 ∧ ¬TakesBids s
     ∧ (after (.bidCarrier (rxOf 2) 1#8 5#16 3#8 0#8) s).row 1 = .unknown
     ∧ (after (.bidCarrier (rxOf 2) 1#8 5#16 4#8 0#8) s).row 1 = .opened 4#16 none 0)
    ∧ (let s := demo .joining [.unknown, .carried 5#16 ⟨1, 0⟩ none none]
       Applies s (rxOf 2) (.bid 1#8 1#8 5#16 3#8 0#8) 2 ∧ ¬TakesBids s
       ∧ (after (.bidStandby (rxOf 2) 1#8 5#16 3#8 0#8) s).row 1 = .unknown
       ∧ (after (.bidStandby (rxOf 2) 1#8 5#16 4#8 0#8) s).row 1 = .carried 5#16 ⟨1, 0⟩ none none) := by decide +kernel

def trialLane (slot : Nat) (mark : ClaimMark) (term : Term) : Lane :=
  { demoLane .trial slot with mark := mark, bidTerm := some term }

theorem test_O29 :
    (let s := onLine ((demo .joined (rowsOpen 4#16)).setLane 3 (trialLane 1 .ordinary 5#16)) (.bid 1#8 0#8 5#16 3#8 9#8)
     Applies s (rxOf 0) (.bid 1#8 0#8 5#16 (byteOf 3) 9#8) s.number ∧ (s.lane 3).role = .trial ∧ (s.lane 3).slot = some 1
     ∧ (s.lane 3).ctx = .none ∧ (s.lane 3).mark = .ordinary ∧ s.bidAccepted s.number 3 1 5#16 = true
     ∧ ((after (.bidCarrier (rxOf 0) 1#8 5#16 3#8 9#8) s).lane 3).role = .carrier
     ∧ ((after (.bidCarrier (rxOf 0) 1#8 5#16 3#8 9#8) s).lane 3).gate = true)
    ∧ (let s := onLine ((demo .joined (rowsOpen 4#16)).setLane 3 (trialLane 1 .ordinary 4#16)) (.bid 1#8 0#8 4#16 3#8 9#8)
       s.bidAccepted s.number 3 1 4#16 = false
       ∧ ((after (.bidCarrier (rxOf 0) 1#8 4#16 3#8 9#8) s).lane 3).slot ≠ some 1
       ∧ ((after (.bidCarrier (rxOf 0) 1#8 4#16 3#8 9#8) s).loc 1).tried = true)
    ∧ (let s := onLine ((demo .joined (rowsOpen 4#16)).setLane 3 (trialLane 0 (.standby 5#16) 5#16)) (.bid 0#8 1#8 5#16 3#8 9#8)
       s.standbyBidAccepted s.number 3 0 5#16 = true
       ∧ ((after (.bidStandby (rxOf 0) 0#8 5#16 3#8 9#8) s).lane 3).role = .standby) := by decide +kernel

/-- The other claim marks: RECLAIM and LATE trials accepted, a BID on a row no longer OPEN, a LATE one ignored on an OPEN row,
standby BIDs ignored with the row still to be had, and with its term gone by. -/
theorem test_O29_marks :
    ([ClaimMark.reclaim, .late false].all fun m =>
      let s := onLine ((demo .joined (rowsOpen 4#16)).setLane 3 { trialLane 1 m 5#16 with retryCount := 7 })
        (.bid 1#8 0#8 5#16 3#8 9#8)
      s.bidAccepted s.number 3 1 5#16
        && ((after (.bidCarrier (rxOf 0) 1#8 5#16 3#8 9#8) s).lane 3).retryCount == 7
        && ((after (.bidCarrier (rxOf 0) 1#8 5#16 3#8 9#8) s).lane 3).role == .carrier) = true
    ∧ (let s := onLine ((demo .joined (rowsOpen 4#16)).setLane 3 (trialLane 0 (.late false) 5#16)) (.bid 0#8 0#8 5#16 3#8 9#8)
       let t := after (.bidCarrier (rxOf 0) 0#8 5#16 3#8 9#8) s
       (s.row 0).isOpen = false ∧ s.bidAccepted s.number 3 0 5#16 = false
       ∧ (t.lane 3).role = .free ∧ (t.lane 3).slot = none ∧ (t.loc 0).tried = false)
    ∧ (let s := onLine ((demo .joined (rowsOpen 4#16)).setLane 3 (trialLane 1 (.late false) 4#16)) (.bid 1#8 0#8 4#16 3#8 9#8)
       let t := after (.bidCarrier (rxOf 0) 1#8 4#16 3#8 9#8) s
       (s.row 1).isOpen = true ∧ s.bidAccepted s.number 3 1 4#16 = false ∧ (t.loc 1).tried = true ∧ (t.lane 3).slot ≠ some 1)
    ∧ (let s := onLine ((demo .joined (rowsOpen 4#16)).setLane 3 (trialLane 0 (.late true) 5#16)) (.bid 0#8 1#8 5#16 3#8 9#8)
       ((after (.bidStandby (rxOf 0) 0#8 5#16 3#8 9#8) s).lane 3).role = .standby)
    ∧ (let s := onLine ((demo .joined [.carried 5#16 ⟨1, 0⟩ none none, .carried 4#16 ⟨0, 3⟩ none none]).setLane 3
         (trialLane 0 (.standby 5#16) 5#16)) (.bid 0#8 1#8 5#16 3#8 9#8)
       let t := after (.bidStandby (rxOf 0) 0#8 5#16 3#8 9#8) s
       s.standbyBidAccepted s.number 3 0 5#16 = false ∧ s.row 0 = .carried 5#16 ⟨1, 0⟩ none none
       ∧ (t.loc 0).standbyTried = true ∧ (t.lane 3).role = .free)
    ∧ (let s := onLine ((demo .joined [.carried 6#16 ⟨1, 0⟩ none none]).setLane 3 (trialLane 0 (.standby 5#16) 5#16))
         (.bid 0#8 1#8 5#16 3#8 9#8)
       s.standbyBidAccepted s.number 3 0 5#16 = false
       ∧ ((after (.bidStandby (rxOf 0) 0#8 5#16 3#8 9#8) s).loc 0).standbyTried = false) := by decide +kernel

/-- A BID whose lane has stopped the trial: lost as a LATE trial, or released by REST. Accepted, it is ceded again (R42); ignored, the
slot is marked all the same (R41, R47). -/
theorem test_O29_lane_past_its_trial :
    (let waits := fun k => { demoLane .free k with state := .retryWait, stateTimer := some 500, retryCount := 2 }
     let s := fun m f x => onLine ((demo m (rowsOpen 4#16)).setLane 3 x) f
     let carrier := fun t s => after (.bidCarrier (rxOf 0) 1#8 t 3#8 9#8) s
     let standby := fun t s => after (.bidStandby (rxOf 0) 0#8 t 3#8 9#8) s
     let late := s .joined (.bid 1#8 0#8 4#16 3#8 9#8) (waits 1)
     let rest := s .resting (.bid 1#8 0#8 4#16 3#8 9#8) Lane.reset
     let won := s .joined (.bid 1#8 0#8 5#16 3#8 9#8) (waits 1)
     let restWon := s .resting (.bid 0#8 1#8 5#16 3#8 9#8) Lane.reset
     let b := onLine ((demo .joined [.carried 5#16 ⟨1, 0⟩ none none, .carried 4#16 ⟨0, 3⟩ none none]).setLane 3 (waits 0))
       (.bid 0#8 1#8 5#16 3#8 9#8)
     Settled (late.lane 3) ∧ late.bidAccepted 0 3 1 4#16 = false ∧ (late.row 1).isOpen = true
     ∧ ((carrier 4#16 late).loc 1).tried = true ∧ (carrier 4#16 late).lane 3 = late.lane 3
     ∧ rest.bidAccepted 0 3 1 4#16 = false ∧ ((carrier 4#16 rest).loc 1).tried = true ∧ (carrier 4#16 rest).lane 3 = Lane.reset
     ∧ won.bidAccepted 0 3 1 5#16 = true ∧ (carrier 5#16 won).lane 3 = won.lane 3
     ∧ (carrier 5#16 won).link.queue = [⟨.fixed (.cede 1#8 0#8 5#16 3#8 .lost), false⟩]
     ∧ restWon.standbyBidAccepted 0 3 0 5#16 = true ∧ ((standby 5#16 restWon).lane 3).role = .free
     ∧ (standby 5#16 restWon).link.queue = [⟨.fixed (.cede 0#8 1#8 5#16 3#8 .resting), false⟩]
     ∧ b.standbyBidAccepted 0 3 0 5#16 = false ∧ ((standby 5#16 b).loc 0).standbyTried = true
     ∧ (standby 5#16 b).lane 3 = b.lane 3) := by decide +kernel

/-- Slot 0 carried by station 1 with lane 2 of this station as standby, or the other way round. -/
def rowsSwap (ownCarries : Bool) : Option SwapPhase → List Row
  | none => [if ownCarries then .carried 5#16 ⟨0, 2⟩ (some ⟨1, 0⟩) none else .carried 5#16 ⟨1, 0⟩ (some ⟨0, 2⟩) none]
  | some p => [if ownCarries then .swapping 5#16 ⟨0, 2⟩ ⟨1, 0⟩ none p else .swapping 5#16 ⟨1, 0⟩ ⟨0, 2⟩ none p]

def swapState (mode : Mode) (ownCarries : Bool) (p : Option SwapPhase) (role : LaneRole) (ctx : SwapCtx) : State :=
  (demo mode (rowsSwap ownCarries p)).setLane 2 { demoLane role 0 with
    ctx := ctx, taker := if role = .taker then some { trace := [], aligned := true, feeding := true } else none }

/-- No other lane is in a swap. -/
theorem noSwapBeside_of {s : State} {l : LaneId} (slot : Byte) (h : ∀ i, i ≠ l → (s.lane i).ctx = .none) :
    NoSwapBeside s slot l := by
  intro i j hi hj
  simp [h i hi, SwapCtx.slot] at hj

theorem test_O30 :
    (let s := swapState .joined false none .standby .none
     Applies s (rxOf 1) (.swapOffer 0#8 5#16) 1 ∧ s.row 0 = .carried 5#16 ⟨1, 0⟩ (some ⟨0, 2⟩) none
     ∧ (s.lane 2).role = .standby ∧ (s.lane 2).slot = some 0
     ∧ (after (.swapOffer (rxOf 1) 0#8 5#16) s).row 0 = .swapping 5#16 ⟨1, 0⟩ ⟨0, 2⟩ none .offered
     ∧ ((after (.swapOffer (rxOf 1) 0#8 5#16) s).lane 2).role = .taker
     ∧ (after (.swapOffer (rxOf 1) 0#8 4#16) s).row 0 = s.row 0)
    ∧ (let s := swapState .joined true (some .offered) .carrier (.giver 0 5#16 .offering 0 0)
       Applies s (rxOf 1) (.swapReady 0#8 5#16) 1 ∧ s.row 0 = .swapping 5#16 ⟨0, 2⟩ ⟨1, 0⟩ none .offered
       ∧ (after (.swapReady (rxOf 1) 0#8 5#16) s).row 0 = .swapping 5#16 ⟨0, 2⟩ ⟨1, 0⟩ none .ready
       ∧ ((after (.swapReady (rxOf 1) 0#8 5#16) s).lane 2).ctx = .giver 0 5#16 .going 0 0
       ∧ (s.lane 2).role = .carrier ∧ (s.lane 2).slot = some 0 ∧ s.table.length ≤ 20
       ∧ (after (.swapReady (rxOf 1) 0#8 5#16) s).link.queue = [⟨.fixed (.swapGo 0#8 5#16 16#8), false⟩]) := by decide +kernel

theorem test_O30_beside : NoSwapBeside (swapState .joined true (some .offered) .carrier (.giver 0 5#16 .offering 0 0)) 0#8 2 :=
  noSwapBeside_of 0#8 (by decide +kernel)

theorem test_O31 :
    (let s := onLine (swapState .joined true (some .ready) .carrier (.giver 0 5#16 .going 0 0)) (.swapGo 0#8 5#16 16#8)
     Applies s (rxOf 0) (.swapGo 0#8 5#16 16#8) 0 ∧ s.row 0 = .swapping 5#16 ⟨0, 2⟩ ⟨1, 0⟩ none .ready
     ∧ 16 ≤ (16#8 : Byte).toNat ∧ (s.lane 2).role = .carrier ∧ (s.lane 2).ctx.isGiver 0 = true
     ∧ (after (.swapGo (rxOf 0) 0#8 5#16 16#8) s).row 0 = .swapping 5#16 ⟨0, 2⟩ ⟨1, 0⟩ none (.draining false 16)
     ∧ ((after (.swapGo (rxOf 0) 0#8 5#16 16#8) s).lane 2).ctx = .giver 0 5#16 .draining 16 0)
    ∧ (let s := swapState .joined false (some .ready) .taker (.taker 0 5#16 .readied (some 900))
       Applies s (rxOf 1) (.swapGo 0#8 5#16 15#8) 1 ∧ (after (.swapGo (rxOf 1) 0#8 5#16 15#8) s).row 0 = s.row 0)
    ∧ (let s := swapState .joined true (some (.draining false 16)) .giver (.giver 0 5#16 .draining 3 0)
       Applies s (rxOf 1) (.swapHold 0#8 5#16 1#8) 1
       ∧ (after (.swapHold (rxOf 1) 0#8 5#16 1#8) s).row 0 = .swapping 5#16 ⟨0, 2⟩ ⟨1, 0⟩ none (.draining true 16)
       ∧ (after (.swapHold (rxOf 1) 0#8 5#16 0#8) s).row 0 = s.row 0) := by decide +kernel

/-- A taker as SWAP-GO finds it: its stage, whether it is ALIGNED, the entries of its trace. -/
def takerAt (stage : TakerStage) (aligned : Bool) (trace : List TraceEntry) : State :=
  (swapState .joined false (some .ready) .taker .none).setLane 2 { demoLane .taker 0 with
    ctx := .taker 0 5#16 stage none, taker := some { trace := trace, aligned := aligned, feeding := true } }

theorem test_O31_beside : NoSwapBeside (takerAt .readied true []) 0#8 2 := noSwapBeside_of 0#8 (by decide +kernel)

/-- The taker at SWAP-GO: ALIGNED, UNALIGNED, UNALIGNED with the entry marked LAST, DROPPING with its SWAP-DROP queued and on the
line; and a hold code that is not defined. -/
theorem test_O31_taker :
    (let go := fun s => after (.swapGo (rxOf 1) 0#8 5#16 16#8) s
     let s := takerAt .readied true []
     let u := takerAt .readied false []
     let r := takerAt .readied false [⟨7#16, true⟩]
     let d := withQueue (takerAt (.dropping .alignTimeout) true []) [.fixed (.swapDrop 0#8 5#16 0#8)]
     let o := { d with link := { d.link with queue := [⟨.fixed (.swapDrop 0#8 5#16 0#8), true⟩] } }
     Applies s (rxOf 1) (.swapGo 0#8 5#16 16#8) 1 ∧ s.row 0 = .swapping 5#16 ⟨1, 0⟩ ⟨0, 2⟩ none .ready
     ∧ (s.lane 2).role = .taker ∧ (s.lane 2).slot = some 0 ∧ (s.lane 2).mark.isHeld = false
     ∧ s.table.length ≤ 20 ∧ s.link.heldFrame (isHoldFrame 0) = false
     ∧ ((go s).lane 2).ctx = .taker 0 5#16 .draining none ∧ (go s).link.queue = []
     ∧ ((go u).lane 2).ctx = .taker 0 5#16 .draining none ∧ (go u).link.queue = [⟨.fixed (.swapHold 0#8 5#16 1#8), false⟩]
     ∧ ((go r).lane 2).ctx = .taker 0 5#16 .opened none ∧ ((go r).lane 2).gate = true
     ∧ (go r).link.queue = [⟨.fixed (.swapDone 0#8 6#16 2#8), false⟩]
     ∧ d.link.onLineFrame (isDropFrame 0) = false ∧ ((go d).lane 2).ctx = .taker 0 5#16 .draining none
     ∧ (go d).link.queue = []
     ∧ o.link.onLineFrame (isDropFrame 0) = true ∧ ((go o).lane 2).ctx = (o.lane 2).ctx)
    ∧ (let s := swapState .joined true (some (.draining false 16)) .giver (.giver 0 5#16 .draining 3 0)
       (after (.swapHold (rxOf 1) 0#8 5#16 2#8) s).row 0 = s.row 0) := by decide +kernel

theorem test_O32 :
    (let s := onLine (swapState .joined false (some (.draining true 16)) .taker (.taker 0 5#16 .opened none))
       (.swapDone 0#8 6#16 2#8)
     Applies s (rxOf 0) (.swapDone 0#8 6#16 2#8) 0 ∧ s.row 0 = .swapping 5#16 ⟨1, 0⟩ ⟨0, 2⟩ none (.draining true 16)
     ∧ laneOf 2#8 = some 2 ∧ (s.lane 2).role = .taker ∧ (s.lane 2).slot = some 0
     ∧ (after (.swapDone (rxOf 0) 0#8 6#16 2#8) s).row 0 = .carried 6#16 ⟨0, 2⟩ (some ⟨1, 0⟩) (some 1)
     ∧ ((after (.swapDone (rxOf 0) 0#8 6#16 2#8) s).lane 2).role = .carrier)
    ∧ (let s := swapState .joined true (some (.draining false 16)) .giver (.giver 0 5#16 .closed 0 0)
       Applies s (rxOf 1) (.swapDone 0#8 6#16 0#8) 1 ∧ (s.lane 2).role = .giver
       ∧ ((after (.swapDone (rxOf 1) 0#8 6#16 0#8) s).lane 2).role = .standby
       ∧ ((after (.swapDone (rxOf 1) 0#8 6#16 0#8) s).lane 2).gate = false
       ∧ (after (.swapDone (rxOf 1) 0#8 6#16 1#8) s).row 0 = s.row 0) := by decide +kernel

theorem test_O33 :
    (let s := swapState .joined true (some (.draining false 16)) .giver (.giver 0 5#16 .draining 9 0)
     Applies s (rxOf 1) (.swapDrop 0#8 5#16 3#8) 1 ∧ (s.lane 2).carries 0 = true
     ∧ (after (.swapDrop (rxOf 1) 0#8 5#16 3#8) s).row 0 = .carried 5#16 ⟨0, 2⟩ none none
     ∧ ((after (.swapDrop (rxOf 1) 0#8 5#16 3#8) s).lane 2).role = .carrier
     ∧ ((after (.swapDrop (rxOf 1) 0#8 5#16 3#8) s).lane 2).gate = true
     ∧ (after (.swapDrop (rxOf 1) 0#8 5#16 4#8) s).row 0 = s.row 0)
    ∧ (let s := swapState .joined false (some .offered) .taker (.taker 0 5#16 .seeking (some 1))
       Applies s (rxOf 1) (.swapDrop 0#8 5#16 2#8) 1
       ∧ (after (.swapDrop (rxOf 1) 0#8 5#16 2#8) s).row 0 = .carried 5#16 ⟨1, 0⟩ (some ⟨0, 2⟩) none
       ∧ ((after (.swapDrop (rxOf 1) 0#8 5#16 2#8) s).lane 2).role = .standby) := by decide +kernel

/-- A RESTING station's taker whose SWAP-DONE is on the line. -/
def restingTaker (t : Term) : State :=
  { onLine (standing .resting .taker t) (.swapDone 0#8 (t + 1#16) 2#8) with
    table := [⟨.swapping t ⟨1, 0⟩ ⟨0, 2⟩ none (.draining false 16), .reset⟩] }

theorem test_O32_beside : NoSwapBeside (restingTaker 5#16) 0#8 2 := noSwapBeside_of 0#8 (by decide +kernel)

/-- The end of a swap at a RESTING station: its taker offers the swap back, below the last term, or cedes; its giver cedes. -/
theorem test_O32_resting :
    (let taker := restingTaker
     let done := fun t => after (.swapDone (rxOf 0) 0#8 (t + 1#16) 2#8) (taker t)
     Applies (taker 5#16) (rxOf 0) (.swapDone 0#8 6#16 2#8) 0 ∧ ((taker 5#16).lane 2).role = .taker
     ∧ ((taker 5#16).lane 2).mark.isHeld = false ∧ (taker 5#16).table.length ≤ 20
     ∧ ((done 5#16).lane 2).role = .carrier ∧ ((done 5#16).lane 2).ctx = .giver 0 6#16 .offering 0 0
     ∧ (done 5#16).link.queue = [⟨.fixed (.swapOffer 0#8 6#16), false⟩]
     ∧ (done 0xFFFE#16).row 0 = .carried 0xFFFF#16 ⟨0, 2⟩ (some ⟨1, 0⟩) (some 1)
     ∧ GaveUp ((done 0xFFFE#16).lane 2)
     ∧ (done 0xFFFE#16).link.queue = [⟨.fixed (.cede 0#8 0#8 0xFFFF#16 2#8 .resting), false⟩])
    ∧ (let s := swapState .resting true (some (.draining false 16)) .giver (.giver 0 5#16 .closed 0 0)
       let t := after (.swapDone (rxOf 1) 0#8 6#16 0#8) s
       Applies s (rxOf 1) (.swapDone 0#8 6#16 0#8) 1 ∧ (s.lane 2).role = .giver ∧ GaveUp (t.lane 2)
       ∧ t.link.queue = [⟨.fixed (.cede 0#8 1#8 6#16 2#8 .resting), false⟩]) := by decide +kernel

/-- A swap that ends with a lane that gave up its role before: no role, and a CEDE for the one that the row names. -/
theorem test_O32_given_up :
    (let s := onLine ((swapState .joined false (some (.draining true 16)) .taker .none).setLane 2 Lane.reset)
       (.swapDone 0#8 6#16 2#8)
     let t := after (.swapDone (rxOf 0) 0#8 6#16 2#8) s
     Applies s (rxOf 0) (.swapDone 0#8 6#16 2#8) 0 ∧ (s.lane 2).role = .free ∧ (s.lane 2).gate = false
     ∧ t.row 0 = .carried 6#16 ⟨0, 2⟩ (some ⟨1, 0⟩) (some 1) ∧ (t.lane 2).role ≠ .carrier
     ∧ t.link.queue = [⟨.fixed (.cede 0#8 0#8 6#16 2#8 .lost), false⟩])
    ∧ (let s := (swapState .resting true (some (.draining false 16)) .giver .none).setLane 2 Lane.reset
       let t := after (.swapDone (rxOf 1) 0#8 6#16 0#8) s
       Applies s (rxOf 1) (.swapDone 0#8 6#16 0#8) 1 ∧ (t.lane 2).role = .free
       ∧ t.link.queue = [⟨.fixed (.cede 0#8 1#8 6#16 2#8 .resting), false⟩]) := by decide +kernel

/-- SWAP-DROP at a RESTING station. -/
theorem test_O33_resting :
    (let drop := fun (r : Byte) s => after (.swapDrop (rxOf 1) 0#8 5#16 r) s
     let g := swapState .resting true (some (.draining false 16)) .giver (.giver 0 5#16 .draining 9 0)
     let k := swapState .resting false (some .offered) .taker (.taker 0 5#16 .seeking (some 1))
     Applies g (rxOf 1) (.swapDrop 0#8 5#16 3#8) 1 ∧ (g.lane 2).carries 0 = true ∧ GaveUp ((drop 3#8 g).lane 2)
     ∧ (drop 3#8 g).link.queue = [⟨.fixed (.cede 0#8 0#8 5#16 2#8 .resting), false⟩]
     ∧ Applies k (rxOf 1) (.swapDrop 0#8 5#16 2#8) 1 ∧ (k.lane 2).role = .taker ∧ GaveUp ((drop 2#8 k).lane 2)
     ∧ (drop 2#8 k).link.queue = [⟨.fixed (.cede 0#8 1#8 5#16 2#8 .resting), false⟩]) := by decide +kernel

/-- SWAP-DROP for a lane that gave up its role before. -/
theorem test_O33_given_up :
    (let drop := fun s => after (.swapDrop (rxOf 1) 0#8 5#16 0#8) s
     let v := (swapState .joined true (some .ready) .carrier .none).setLane 2 Lane.reset
     let w := (swapState .joined false (some .ready) .taker .none).setLane 2 Lane.reset
     Applies v (rxOf 1) (.swapDrop 0#8 5#16 0#8) 1 ∧ (v.lane 2).carries 0 = false ∧ ((drop v).lane 2).role ≠ .carrier
     ∧ (drop v).link.queue = [⟨.fixed (.cede 0#8 0#8 5#16 2#8 .lost), false⟩]
     ∧ Applies w (rxOf 1) (.swapDrop 0#8 5#16 0#8) 1 ∧ (w.lane 2).role ≠ .taker ∧ ((drop w).lane 2).role ≠ .standby
     ∧ (drop w).link.queue = [⟨.fixed (.cede 0#8 1#8 5#16 2#8 .lost), false⟩]) := by decide +kernel

theorem test_O34 :
    (let s := demo .joined (rowsCarried 5#16)
     Hears s (rxOf 2) ∧ (rxOf 2).sender = BitVec.ofNat 4 (2 : Station).val ∧ s.digest = demoRoll.digest
     ∧ ((after (.roll (rxOf 2) { demoRoll with mode := .isolated, echoes := [] }) s).peer 2).lastRoll = some 9#8
     ∧ (after (.roll (rxOf 2) { demoRoll with mode := .isolated, echoes := [] }) s).row 0 = .carried 5#16 ⟨1, 0⟩ none none
     ∧ ((after (.roll (rxOf 2) { demoRoll with digest := 1#16 }) s).peer 2).state = .alien
     ∧ (after (.roll (rxOf 2) { demoRoll with digest := 1#16 }) s).row 0 = s.row 0) := by decide +kernel

/-- The frame that ends ISOLATED; this station's own ROLLs: the one that joins, the one that activates the claim unit, and one in
ISOLATED with nobody to see it. -/
theorem test_O34_own :
    (let s := demo .isolated []
     let t := after (.roll (rxOf 2) { demoRoll with digest := 1#16 }) s
     t.mode = .joining ∧ t.resetCause = .isolationEnd ∧ t.peer 2 = rollHeard s.digest { demoRoll with digest := 1#16 })
    ∧ (let b := { demoRoll with mode := .joining, echoes := [] }
       let s := onLine (demo .joining [.opened 4#16 none 0, .carried 5#16 ⟨0, 0⟩ none none]) (.roll b)
       let t := after (.roll (rxOf 0) b) s
       s.mode.onLink = true ∧ OwnCompletes s (rxOf 0) (.roll b) ∧ t.joinMark = true ∧ t.mode = .joined
       ∧ t.row 1 = .opened 5#16 (some 0) 0 ∧ t.link.lastRoll = 9#8
       ∧ (let u := onLine (demo .joining [.unknown]) (.roll b)
          (after (.roll (rxOf 0) b) u).mode = .joining ∧ (after (.roll (rxOf 0) b) u).joinMark = true))
    ∧ (let s := onLine ((demo .joined [.opened 4#16 none 0, .carried 5#16 ⟨1, 0⟩ none none]).setPeer 0
         { demoPeer with state := .self, mode := some .joining, staleTimer := none }) (.roll demoRoll)
       let t := after (.roll (rxOf 0) demoRoll) s
       OwnCompletes s (rxOf 0) (.roll demoRoll) ∧ demoRoll.mode = .joined ∧ (s.peer s.number).mode ≠ some .joined
       ∧ s.slotCount ≠ 0 ∧ t.echoPointer = 1 ∧ t.claimActive = true ∧ (t.loc 0).bidClock = some 0
       ∧ (t.loc 0).reclaimWait = some 3000 ∧ (s.row 1).lacksStandby = true ∧ s.standbyWanted 1 = true
       ∧ (t.loc 1).standbyClock = some 0 ∧ (t.peer 0).lastRoll = some 9#8)
    ∧ (let b := { demoRoll with mode := .isolated, echoes := [] }
       let s := withStreaks (onLine { demo .isolated [] with dir := State.reset.dir } (.roll b)) 3 2 0
       let t := after (.roll { rxOf 0 with seen := false } b) s
       OwnCompletes s { rxOf 0 with seen := false } (.roll b) ∧ t.mode = .isolated ∧ t.link.unseen = 2 ∧ t.link.spoil = 0) := by
  decide +kernel

def rowsEcho (t : Term) : List Row := [.carried t ⟨1, 0⟩ none none, .opened 4#16 none 3]

def openEcho : RowRecord :=
  { slot := 1#8, state := .opened, termReclaims := some (9#16, 1#8), carrier := none, standby := none, lastCarrier := none,
    phaseHold := none, drainCount := none }

/-- One echo: of a higher term, on an UNKNOWN row, of a lower term, of an equal one with and without a lost peer, conflicting,
malformed. Two echoes: of two slots, where the second conflicts with the first, of one slot. -/
theorem test_O35 :
    (let s := demo .joined (rowsEcho 6#16)
     let new : Row := .swapping 7#16 ⟨1, 0⟩ ⟨2, 1⟩ none (.draining true 16)
     let takes := fun (es : List RowRecord) (m : Mode) (rows : List Row) =>
       let t := after (.roll (rxOf 1) { demoRoll with echoes := es }) (demo m rows)
       [t.row 0, t.row 1]
     let row1 : Row := .opened 4#16 none 3
     Hears s (rxOf 1) ∧ (rxOf 1).sender = BitVec.ofNat 4 (1 : Station).val ∧ demoRoll.mode = .joined
     ∧ demoRoll.digest = s.digest ∧ s.table.length = s.slotCount ∧ echoRow s.drainCount demoRow = some new
     ∧ demoRow.slot.toNat < s.slotCount
     ∧ takes [demoRow] .joined (rowsEcho 6#16) = [new, row1]
     ∧ takes [demoRow] .joining [.unknown, row1] = [new, row1]
     ∧ takes [demoRow] .joined (rowsEcho 8#16) = rowsEcho 8#16
     ∧ takes [demoRow] .joined [.carried 7#16 ⟨3, 0⟩ none none, row1] = [new, row1]
     ∧ takes [demoRow] .joined [.carried 7#16 ⟨2, 0⟩ none none, row1] = [.carried 7#16 ⟨2, 0⟩ none none, row1]
     ∧ takes [demoRow] .joined [.opened 6#16 none 0, .carried 4#16 ⟨1, 0⟩ none none]
       = [.opened 6#16 none 0, .carried 4#16 ⟨1, 0⟩ none none]
     ∧ takes [{ demoRow with standby := some 0x11#8 }] .joined (rowsEcho 6#16) = rowsEcho 6#16
     ∧ takes [{ demoRow with standby := none }] .joined (rowsEcho 6#16) = rowsEcho 6#16
     ∧ takes [{ demoRow with slot := 2#8 }] .joined (rowsEcho 6#16) = rowsEcho 6#16
     ∧ takes [openEcho, demoRow] .joined (rowsEcho 6#16) = [new, .opened 9#16 none 1]
     ∧ takes [demoRow, { demoRow with slot := 1#8 }] .joined (rowsEcho 6#16) = [new, row1]
     ∧ takes [demoRow, demoRow] .joined (rowsEcho 6#16) = rowsEcho 6#16) := by decide +kernel

/-- An echo of equal term that drops a lost standby ends the own carrier's offer; a RESTING carrier gives up its role (log 50). -/
theorem test_equal_term_adoption :
    (let e : RowRecord :=
       { openEcho with slot := 0#8, state := .carried, termReclaims := some (5#16, 0#8), carrier := some 0x02#8 }
     let own : Lane := { demoLane .carrier 0 with ctx := .giver 0 5#16 .offering 0 0 }
     let s := fun m => withQueue ((demo m [.carried 5#16 ⟨0, 2⟩ (some ⟨3, 0⟩) none]).setLane 2 own) [.fixed (.swapOffer 0#8 5#16)]
     let t := fun m => after (.roll (rxOf 1) { demoRoll with echoes := [e] }) (s m)
     (t .joined).row 0 = .carried 5#16 ⟨0, 2⟩ none none ∧ ((t .joined).lane 2).ctx = .none
     ∧ ((t .joined).lane 2).role = .carrier ∧ (t .joined).link.queue = []
     ∧ ((t .resting).lane 2).role = .free
     ∧ (t .resting).link.queue = [⟨.fixed (.cede 0#8 0#8 5#16 2#8 .resting), false⟩]) := by decide +kernel

theorem test_O36 :
    (let s := (demo .joined (rowsCarried 5#16)).setPeer 1 { demoPeer with state := .alien, digest := some 1#16 }
     Hears s { rxOf 1 with sender := 8#4 } ∧ senderStation 8#4 = none
     ∧ Hears s (rxOf 1) ∧ senderStation (rxOf 1).sender = some 1 ∧ (s.peer 1).state = .alien
     ∧ (after (.cedeCarrier (rxOf 1) 0#8 5#16 0#8 .lost) s).row 0 = s.row 0
     ∧ (after (.quiet { rxOf 1 with sender := 8#4 } 2#8 5#8) s).row 0 = s.row 0) := by decide +kernel

theorem test_O37 :
    (let s := withStreaks (demo .joined (rowsCarried 5#16)) 3 2 7
     (1 : Station) ≠ s.number ∧ (rxOf 1).sender = BitVec.ofNat 4 (1 : Station).val ∧ Hears s (rxOf 1)
     ∧ (after (.cedeCarrier (rxOf 1) 0#8 5#16 0#8 .lost) s).link.badRx = 0
     ∧ (after (.cedeCarrier (rxOf 1) 0#8 5#16 0#8 .lost) s).link.spoil = 3) := by decide +kernel

/-- The sender's record after a carriage frame: ABSENT, PRESENT, ALIEN; and after the frame that ends ISOLATED. -/
theorem test_O37_records :
    (let s := (demo .joined (rowsCarried 5#16)).setPeer 4 { demoPeer with state := .alien }
     let heard := fun x => (after (.swapHold (rxOf x) 0#8 5#16 1#8) s).peer x
     (heard 3).state = .present ∧ (heard 3).staleTimer = some 750 ∧ heard 1 = heardFrom demoPeer
     ∧ heard 4 = { demoPeer with state := .alien })
    ∧ (let s := (demo .isolated []).setPeer 4 { demoPeer with state := .alien }
       let t := fun x => after (.query (rxOf x) 1#8 0#8 0#8) s
       s.mode = .isolated ∧ (rxOf 3).fresh = true ∧ (rxOf 3).sender ≠ s.sender ∧ (t 3).mode = .joining
       ∧ ((t 3).peer 3).state = .present ∧ ((t 4).peer 4).state = .alien ∧ (t 3).sel = s.sel) := by decide +kernel

/-! ### Frames that are queued again (R29, R64, R147, R156) -/

/-- Every peer is stale, and its QUIET is queued, with a SWAP-OFFER of lane 3 behind them; lane 2 gave up its role in a swap. -/
def crowded : State :=
  let s := ((demo .joined [.swapping 5#16 ⟨1, 0⟩ ⟨0, 2⟩ none .ready, .carried 5#16 ⟨0, 3⟩ (some ⟨1, 1⟩) none]).setLane 3
    { demoLane .carrier 1 with ctx := .giver 1 5#16 .offering 0 0 })
  let s := { s with dir := (Vector.replicate 8 { demoPeer with staleMark := true }).set 0 (s.peer 0) }
  withQueue s ([1#8, 2#8, 3#8, 4#8, 5#8, 6#8, 7#8].map (fun x => .fixed (.quiet x 5#8)) ++ [.fixed (.swapOffer 1#8 5#16)])

/-- A frame that is discarded while a completed frame is handled is queued again at the next one, though that same frame frees a
place. -/
theorem test_owed_until_the_next_frame :
    (let s := after (.swapDrop (rxOf 1) 0#8 5#16 0#8) crowded
     let t := after (.query (rxOf 9) 7#8 0#8 0#8) s
     crowded.link.queue.length = 8 ∧ s.link.queue.length = 7 ∧ s.link.queued (isCedeOf 0 2) = true
     ∧ s.link.queued isQuiet = true ∧ s.link.owed = [.fixed (.swapOffer 1#8 5#16)] ∧ s.link.due = []
     ∧ t.link.queue.length = 8 ∧ t.link.queued (isOfferFrame 1) = true ∧ t.link.owed = []) := by
  decide +kernel

/-- A cut names a lane whose old CEDE is on the line: the new CEDE waits through other frames until the old one has completed. -/
theorem test_cede_behind_the_old_one :
    (let s := onLine (demo .joined [.carried 5#16 ⟨1, 0⟩ (some ⟨0, 2⟩) none]) (.cede 0#8 1#8 5#16 2#8 .lost)
     let cut := after (.cedeCarrier (rxOf 1) 0#8 5#16 0#8 .lost) s
     let other := after (.query (rxOf 9) 7#8 0#8 0#8) cut
     let done := after (.cedeStandby (rxOf 0) 0#8 5#16 2#8 .lost) other
     let new : Frame := .cede 0#8 0#8 6#16 2#8 .lost
     cut.row 0 = .carried 6#16 ⟨0, 2⟩ none (some 1) ∧ cut.link.queue = s.link.queue ∧ cut.link.owed = [.fixed new]
     ∧ other.link.queue = s.link.queue ∧ other.link.owed = [.fixed new]
     ∧ done.row 0 = cut.row 0 ∧ done.link.queue = [⟨.fixed new, false⟩] ∧ done.link.owed = []) := by
  decide +kernel

/-- A void CEDE with reason RECLAIMED is queued again beside the newer CEDE of its lane, which is no moot one. -/
theorem test_void_beside_the_newer_cede :
    (let old : Frame := .cede 0#8 1#8 5#16 2#8 (.reclaimed 1#8)
     let new : Frame := .cede 0#8 1#8 6#16 2#8 .lost
     let s := (demo .joined [.carried 6#16 ⟨1, 0⟩ (some ⟨0, 2⟩) none, .opened 4#16 none 0]).setLane 2
       { demoLane .free 0 with mark := .held 1 .standby }
     let s := { s with link := { s.link with onAir := some old, queue := [⟨.fixed old, true⟩, ⟨.fixed new, false⟩] } }
     let t := after .ownFrameVoid s
     t.link.queue = [⟨.fixed new, false⟩, ⟨.fixed old, false⟩] ∧ (t.lane 2).mark = .held 1 .standby) := by decide +kernel

/-! ### The report selector -/

theorem test_O38 :
    (let s := demo .joining []
     let sel := fun (kind index : Byte) => (after (.query (rxOf 1) 0#8 kind index) s).sel
     Hears s (rxOf 1) ∧ (0#8 : Byte).toNat = s.number.val ∧ s.slotCount = 2
     ∧ [sel 0#8 0#8, sel 1#8 3#8, sel 2#8 1#8, sel 3#8 7#8, sel 4#8 1#8].map (fun x => (x.refused, x.index))
       = [(false, 0), (false, 3), (false, 1), (false, 7), (false, 1)]
     ∧ [sel 0#8 1#8, sel 1#8 4#8, sel 2#8 2#8, sel 3#8 8#8, sel 4#8 2#8, sel 5#8 0#8].all (·.refused) = true
     ∧ (1#8 : Byte).toNat ≠ s.number.val ∧ (after (.query (rxOf 1) 1#8 1#8 3#8) s).sel = s.sel
     ∧ (after (.report (rxOf 1) { index := 0#8, refused := false, outcome := 0#8, record := .row demoRow }) s).sel = s.sel) := by
  decide +kernel

/-- The REPORT a QUERY asks for: joins, stands already, is noted; the senders' records. -/
theorem test_O38_request :
    (let ask := fun s => after (.query (rxOf 3) 0#8 5#8 0#8) s
     let s := demo .joined []
     let q := withQueue s [.report]
     let o : State := { s with link := { s.link with queue := [⟨.report, true⟩] } }
     Undisturbed s ∧ s.link.holds .report true = false ∧ s.link.queue.length < 8 ∧ (ask s).link.queue = [⟨.report, false⟩]
     ∧ Undisturbed q ∧ q.link.holds .report false = true ∧ (ask q).link.queue = q.link.queue
     ∧ Undisturbed o ∧ o.link.holds .report false = false ∧ o.link.holds .report true = true
     ∧ (ask o).link.notedReport = true ∧ ((ask s).peer 3).state = .present
     ∧ ((after (.report (rxOf 3) { index := 0#8, refused := false, outcome := 0#8, record := .row demoRow }) s).peer 3).staleTimer
       = some 750) := by decide +kernel

def directed : State :=
  ((demo .joined [.carried 5#16 ⟨0, 0⟩ (some ⟨1, 0⟩) none, .carried 5#16 ⟨1, 1⟩ (some ⟨0, 1⟩) none]).setLane 0
    { demoLane .carrier 0 with retryCount := 9 }).setLane 1 (demoLane .standby 1)

theorem test_O39 :
    (let s := directed.setLane 3 { Lane.reset with state := .spent, retryCount := 15 }
     Hears s (rxOf 1) ∧ (0#8 : Byte).toNat = s.number.val ∧ s.mode = .joined ∧ laneOf 3#8 = some 3
     ∧ ((after (.directiveClear (rxOf 1) 0#8 3#8) s).lane 3).state = .idle
     ∧ (after (.directiveClear (rxOf 1) 0#8 3#8) s).sel.outcome = .done
     ∧ Settled (s.lane 0) ∧ (after (.directiveClear (rxOf 1) 0#8 0#8) s).lane 0 = { s.lane 0 with retryCount := 0 }
     ∧ (after (.directiveClear (rxOf 1) 0#8 4#8) s).sel.outcome = .unknownAction) := by decide +kernel

theorem test_O40 :
    (let s := directed
     let out := fun (s : State) (k : Byte) => (after (.directiveYield (rxOf 1) 0#8 k) s).sel.outcome
     Hears s (rxOf 1) ∧ (0#8 : Byte).toNat = s.number.val ∧ s.mode = .joined
     ∧ s.slotCount ≤ (2#8 : Byte).toNat ∧ out s 2#8 = .unknownSlot
     ∧ (s.lane 0).carries 0 = true ∧ out s 0#8 = .done
     ∧ (after (.directiveYield (rxOf 1) 0#8 0#8) s).link.queue = [⟨.fixed (.cede 0#8 0#8 5#16 0#8 .yielded), false⟩,
         ⟨.report, false⟩]
     ∧ (s.lane 1).standsBy 1 = true ∧ out s 1#8 = .done
     ∧ out (withQueue (s.setLane 0 Lane.reset) [.fixed (.cede 0#8 0#8 5#16 0#8 .lost)]) 0#8 = .refusedBusy
     ∧ out (withQueue (s.setLane 1 Lane.reset) [.fixed (.cede 1#8 1#8 5#16 1#8 (.reclaimed 0#8))]) 1#8 = .refusedBusy
     ∧ out (s.setLane 0 Lane.reset) 0#8 = .refusedState ∧ out (s.setLane 1 Lane.reset) 1#8 = .refusedState
     ∧ out (swapState .joined true (some .offered) .carrier .none) 0#8 = .refusedBusy
     ∧ out (demo .joined (rowsCarried 5#16)) 0#8 = .refusedState ∧ out (demo .joined (rowsCarried 5#16)) 1#8 = .refusedState) := by
  decide +kernel

theorem test_O41 :
    (let s := directed
     let out := fun (s : State) (k : Byte) => (after (.directiveSwap (rxOf 1) 0#8 k) s).sel.outcome
     Hears s (rxOf 1) ∧ s.mode = .joined ∧ out s 2#8 = .unknownSlot ∧ out s 1#8 = .refusedState
     ∧ (s.lane 0).carries 0 = true ∧ (s.lane 0).role = .carrier ∧ (s.lane 0).ctx = .none ∧ out s 0#8 = .done
     ∧ ((after (.directiveSwap (rxOf 1) 0#8 0#8) s).lane 0).ctx = .giver 0 5#16 .offering 0 0
     ∧ (s.lane 0).slot = some 0
     ∧ (after (.directiveSwap (rxOf 1) 0#8 0#8) s).link.queue = [⟨.fixed (.swapOffer 0#8 5#16), false⟩, ⟨.report, false⟩]
     ∧ out (withQueue (s.setLane 0 Lane.reset) [.fixed (.cede 0#8 0#8 5#16 0#8 .lost)]) 0#8 = .refusedBusy
     ∧ out (s.setLane 0 Lane.reset) 0#8 = .done
     ∧ (after (.directiveSwap (rxOf 1) 0#8 0#8) (s.setLane 0 Lane.reset)).link.queue = [⟨.report, false⟩]
     ∧ out (demo .joined [.carried 5#16 ⟨0, 0⟩ none none]) 0#8 = .refusedState
     ∧ out (swapState .joined true (some .offered) .carrier .none) 0#8 = .refusedBusy
     ∧ out ((demo .joined [.carried 0xFFFF#16 ⟨0, 0⟩ (some ⟨1, 0⟩) none]).setLane 0 (demoLane .carrier 0)) 0#8 = .refusedState
     ∧ out ((demo .joined [.carried 5#16 ⟨0, 0⟩ none none]).setLane 0 (demoLane .carrier 0)) 0#8 = .refusedState
     ∧ out (demo .joined [.opened 5#16 none 0]) 0#8 = .refusedState) := by decide +kernel

theorem test_O42 :
    (let s := (directed.setLane 2 (trialLane 1 (.late true) 5#16)).setEntry 0 ⟨.carried 5#16 ⟨0, 0⟩ none none, .reset⟩
     let t := after (.directiveRest (rxOf 1) 0#8 0#8) s
     Hears s (rxOf 1) ∧ s.mode = .joined ∧ (s.lane 0).role = .carrier ∧ (s.row 0).standby = none
     ∧ (s.lane 1).role = .standby ∧ (s.lane 2).role = .trial
     ∧ t.mode = .resting ∧ (t.lane 0).role = .free ∧ (t.lane 1).role = .free ∧ (t.lane 2).role = .free)
    ∧ (let s := demo .resting []
       let r := s.setPeer 0 { s.peer 0 with mode := some .resting }
       (r.peer r.number).mode = some .resting ∧ (after (.directiveResume (rxOf 1) 0#8 0#8) r).mode = .joined
       ∧ (s.peer s.number).mode ≠ some .resting ∧ (after (.directiveResume (rxOf 1) 0#8 0#8) s).sel.outcome = .refusedBusy) := by
  decide +kernel

theorem test_O43 :
    (let out := fun (m : Mode) (c : Instr) => (after c (demo m [])).sel.outcome
     Hears (demo .joining []) (rxOf 1) ∧ 5 ≤ (5#8 : Byte).toNat
     ∧ [Mode.joining, .joined, .resting].all (fun m => out m (.directiveUnknownAction (rxOf 1) 0#8 5#8 0#8) == .unknownAction)
       = true
     ∧ out .joining (.directiveClear (rxOf 1) 0#8 0#8) = .refusedState
     ∧ out .resting (.directiveYield (rxOf 1) 0#8 0#8) = .refusedState
     ∧ out .joined (.directiveResume (rxOf 1) 0#8 0#8) = .refusedState) := by decide +kernel

/-! ### Timers -/

theorem test_O44 :
    (demo .joined []).rollTimer.isSome = true
    ∧ (after .rollTimerExpiry (demo .joined [])).link.queue = [⟨.roll, false⟩]
    ∧ (let s : State := { demo .mute [] with muteRest := some 0 }
       s.muteRest.isSome = true ∧ (after .muteRestExpiry s).resetCause = .muteEnd)
    ∧ (let s : State := { demo .joining [.unknown, .opened 4#16 none 3] with joinQuiet := some 0, joinMark := true }
       s.joinQuiet.isSome = true ∧ s.mode = .joining ∧ (after .joinQuietExpiry s).row 0 = .opened 0#16 none 0
       ∧ (after .joinQuietExpiry s).row 1 = .opened 4#16 none 3 ∧ (after .joinQuietExpiry s).mode = .joined) := by
  decide +kernel

theorem test_O45 :
    (let s := demo .joined []
     (s.peer 1).staleTimer.isSome = true ∧ (s.peer 1).lastRoll = some 5#8 ∧ (s.peer 1).state = .present
     ∧ (after (.staleTimerExpiry 1) s).link.queue = [⟨.fixed (.quiet 1#8 5#8), false⟩])
    ∧ (let s := (demo .joined []).setPeer 7 { demoPeer with lastRoll := none }
       (s.peer 7).lastRoll = none ∧ ((after (.staleTimerExpiry 7) s).peer 7).state = .absent) := by decide +kernel

theorem test_O46 : (∀ j, j ≠ 1 → ((demo .joined (rowsOpen 4#16)).row j).isOpen = false)
    ∧ (∀ j, j ≠ 0 → ((demo .joined (rowsOpen 4#16)).row j).lacksStandby = false)
    ∧ (let s := (demo .joined (rowsOpen 4#16)).setLoc 1 { RowLocal.reset with bidClock := some 0, place := some 0 }
       s.claimActive = true ∧ (s.lane 0).available = true ∧ s.slotBound 1 = false ∧ s.placeNow 1 = some 0 ∧ s.termOf 1 = 4#16
       ∧ ((after (.bidClockDue 1) s).lane 0).role = .trial ∧ ((after (.bidClockDue 1) s).lane 0).slot = some 1)
    ∧ (let s := (demo .joined [.carried 5#16 ⟨1, 0⟩ none none]).setLoc 0
         { RowLocal.reset with standbyClock := some 0, standbyPlace := some 1 }
       s.claimActive = true ∧ s.standbyPlaceNow 0 = some 1 ∧ (s.row 0).lacksStandby = true
       ∧ ((after (.standbyBidClockDue 0) s).lane 0).mark = .standby 5#16) := by
  refine ⟨?_, ?_, by decide +kernel, by decide +kernel⟩ <;>
    · rintro (_ | _ | j) <;> simp [State.row, demo, rowsOpen, Row.isOpen, Row.lacksStandby]

/-- Entries into TUNE set the tuner to the slot's record: a due row, a second attempt, an end of a retry wait; a release leaves it. -/
theorem test_tuner :
    (let set : Tuner := { freq := 474000, bandwidth := .mhz8 }
     let due := (demo .joined (rowsOpen 4#16)).setLoc 1 { RowLocal.reset with bidClock := some 0, place := some 0 }
     let trial := (demo .joined (rowsOpen 4#16)).setLane 0 { trialLane 1 .ordinary 5#16 with state := .acq1 }
     let again := trial.setLoc 1 { RowLocal.reset with place := some 0 }
     let home := (demo .isolated [.unknown]).setLane 0 { Lane.reset with state := .retryWait, role := .home, slot := some 0 }
     (due.lane 0).tuner ≠ set ∧ ((after (.bidClockDue 1) due).lane 0).tuner = set
     ∧ ((after (.stageWindowExpiry 0 .acq1) again).lane 0).tuner = set
     ∧ ((after (.retryPeriodEnd 0) home).lane 0).tuner = set
     ∧ (Lane.release { trial.lane 0 with tuner := set }).tuner = set) := by decide +kernel

theorem test_O47 :
    (let s := ((demo .joined [.carried 5#16 ⟨1, 0⟩ (some ⟨0, 3⟩) none, .opened 4#16 none 2]).setLane 3 (demoLane .standby 0)).setLoc
       1 { RowLocal.reset with reclaimWait := some 0 }
     (s.loc 1).reclaimWait.isSome = true ∧ s.row 1 = .opened 4#16 none 2 ∧ s.claimActive = true
     ∧ s.number = 0 ∧ (s.lane 3).plays 0 .standby = true
     ∧ (∀ i, (s.lane i).mark.isHeld = false) ∧ s.link.queue.length < 8
     ∧ ((after (.reclaimWaitExpiry 1) s).lane 3).mark = .held 1 .standby
     ∧ (after (.reclaimWaitExpiry 1) s).link.queue = [⟨.fixed (.cede 0#8 1#8 5#16 3#8 (.reclaimed 1#8)), false⟩]) := by
  decide +kernel

/-- The plan with ranks, and with a pin window of this station that pins slot 0 alone where the flag is set. -/
def ranked (pin : Bool) (rows : List Row) : State :=
  let w : PinWindow := { valid := pin, value := 0#5, mask := 0x1F#5 }
  { demo .joined rows with
    plan := some { demoPlan with
      windows := demoPlan.windows.set 0 (w, w),
      slots := [demoSlot 0, { demoSlot 1 with rank := 1 }, { demoSlot 2 with rank := 1 }] } }

/-- The own carrier of slot 0 is of the higher rank number than the OPEN slot 1: the victim, unless it is pinned and another own
lane is not. -/
def reclaiming (pin : Bool) (third : Row) : State :=
  ((((ranked pin [.carried 5#16 ⟨0, 3⟩ none none, .opened 4#16 none 0, third]).setLane 3 (demoLane .carrier 0)).setLane 2
    (demoLane .carrier 2)).setLoc 1 { RowLocal.reset with reclaimWait := some 0 })

theorem carried_of_eligible {s : State} {k j : Nat} {p : Pair} :
    (standbyEligible s k j p → (s.row j).standby = some p) ∧ (carrierEligible s k j p → (s.row j).carrier = some p) := by
  refine ⟨?_, ?_⟩
  · rintro ⟨t, c, lc, h, _⟩; rw [h]; rfl
  · rintro ⟨t, sb, lc, h, _⟩; rw [h]; rfl

theorem test_O47_standby : isVictim ((demo .joined [.carried 5#16 ⟨1, 0⟩ (some ⟨0, 3⟩) none, .opened 4#16 none 2]).setLane 3
    (demoLane .standby 0)) 1 0 ⟨0, 3⟩ .standby := by
  refine ⟨⟨_, _, _, rfl, by decide +kernel⟩, ?_⟩
  rintro (_ | _ | i) q hq
  · exact .inr ⟨rfl, Nat.le_refl 0⟩
  · nomatch carried_of_eligible.1 hq
  · nomatch carried_of_eligible.1 hq

theorem test_O47_carrier : isVictim (reclaiming false .unknown) 1 0 ⟨0, 3⟩ .carrier
    ∧ ((reclaiming false .unknown).lane 3).plays 0 .carrier = true
    ∧ ((after (.reclaimWaitExpiry 1) (reclaiming false .unknown)).lane 3).mark = .held 1 .carrier := by
  refine ⟨⟨?_, ⟨_, _, _, rfl, by decide +kernel, by decide +kernel, ?_⟩, ?_⟩, by decide +kernel, by decide +kernel⟩
  · rintro (_ | _ | _ | i) q hq <;> nomatch carried_of_eligible.1 hq
  · rintro ⟨p, w, hp, rfl | rfl, hv, _⟩ <;> cases hp <;> nomatch hv
  · rintro (_ | _ | _ | i) q hq
    · exact .inr ⟨rfl, Nat.le_refl 0⟩
    all_goals nomatch carried_of_eligible.2 hq

/-- Slot 0 is pinned and slot 2 is not: no own lane is the victim. With slot 0 the only own lane its pin is void. -/
theorem test_O47_pinned :
    (∀ j l role, ¬isVictim (reclaiming true (.carried 5#16 ⟨0, 2⟩ none none)) 1 j ⟨0, l⟩ role)
    ∧ (after (.reclaimWaitExpiry 1) (reclaiming true (.carried 5#16 ⟨0, 2⟩ none none))).link.queue = []
    ∧ ((after (.reclaimWaitExpiry 1) (reclaiming true .unknown)).lane 3).mark = .held 1 .carrier := by
  refine ⟨?_, by decide +kernel, by decide +kernel⟩
  rintro j l (_ | _) h
  · obtain ⟨-, h, -⟩ := h
    match j, h with
    | 0, ⟨_, _, _, hrow, _, _, hpin⟩ =>
      cases hrow
      have hp : pins (reclaiming true (.carried 5#16 ⟨0, 2⟩ none none)) 0 0 :=
        ⟨_, _, rfl, .inl rfl, by decide +kernel, by decide +kernel⟩
      obtain ⟨p, w, hp, rfl | rfl, hv, hw⟩ := (hpin hp 2 ⟨0, 2⟩ (by decide +kernel) rfl).2 <;> cases hp <;>
        exact absurd (hw 1 (by decide) (by decide +kernel)) (by decide +kernel)
    | 1, ⟨_, _, _, hrow, _⟩ => nomatch hrow
    | 2, ⟨_, _, _, hrow, _, hr, _⟩ => exact absurd hr (by decide +kernel)
    | j + 3, ⟨_, _, _, hrow, _⟩ => nomatch hrow
  · obtain ⟨⟨_, _, _, hrow, _⟩, -⟩ := h
    match j, hrow with
    | 0, hrow => nomatch hrow
    | 1, hrow => nomatch hrow
    | 2, hrow => nomatch hrow
    | j + 3, hrow => nomatch hrow

theorem test_O48 :
    (let s := swapState .joined false (some .offered) .taker (.taker 0 5#16 .seeking (some 0))
     (s.lane 2).ctx = .taker 0 5#16 .seeking (some 0)
     ∧ (after (.alignTimerExpiry 2) s).link.queue = [⟨.fixed (.swapDrop 0#8 5#16 0#8), false⟩])
    ∧ (let s := withQueue (swapState .joined false (some .offered) .taker (.taker 0 5#16 .readied (some 0)))
         [.fixed (.swapReady 0#8 5#16)]
       (s.lane 2).ctx = .taker 0 5#16 .readied (some 0)
       ∧ (after (.alignTimerExpiry 2) s).link.queue = [⟨.fixed (.swapDrop 0#8 5#16 0#8), false⟩]) := by decide +kernel

/-! ### Lanes -/

def withLane (x : Lane) : State := (demo .joined (rowsOpen 4#16)).setLane 0 x

theorem test_O49 :
    (withLane { demoLane .carrier 0 with state := .tune }).lane 0 = { demoLane .carrier 0 with state := .tune }
    ∧ ((after (.tuneTimeEnd 0) (withLane { demoLane .carrier 0 with state := .tune })).lane 0).stateTimer = some 100
    ∧ ((after (.guardDetected 0) (withLane { demoLane .carrier 0 with state := .acq1 })).lane 0).stateTimer = some 200
    ∧ (demoLane .carrier 0).state = .locked ∧ (demoLane .carrier 0).lockClock.isSome = true
    ∧ ((after (.lockClock60s 0) (withLane { demoLane .carrier 0 with retryCount := 4 })).lane 0).retryCount = 0 := by
  decide +kernel

theorem test_O50 :
    (let x := { trialLane 1 .ordinary 5#16 with state := .acq1 }
     let s := withLane x
     (s.lane 0).inStage .acq1 = true ∧ (s.lane 0).role = .trial ∧ s.mode.holdsRoles = true
     ∧ s.slotInput (s.lane 0).slot = .either ∧ (s.lane 0).input = .a
     ∧ ((s.acquisitionFails 0).lane 0).input = .b ∧ ((after (.stageWindowExpiry 0 .acq1) s).lane 0).state = .tune)
    ∧ (let s := withLane { trialLane 1 .ordinary 5#16 with state := .acq3, input := .b }
       (s.row 1).isOpen = true ∧ ((after (.stageWindowExpiry 0 .acq3) s).loc 1).tried = true)
    ∧ (let s := withLane { trialLane 0 (.standby 5#16) 5#16 with state := .acq2, input := .b }
       0 < s.table.length ∧ ((after (.stageWindowExpiry 0 .acq2) s).loc 0).standbyTried = true)
    ∧ (let s := withLane { trialLane 0 (.late true) 5#16 with state := .acq2, retryCount := 13 }
       (s.lane 0).ctx = .none ∧ ((after (.stageWindowExpiry 0 .acq2) s).lane 0).stateTimer = some 4000)
    ∧ (let s := withLane { demoLane .home 0 with state := .acq2, retryCount := 14 }
       (s.lane 0).mark = .none ∧ ((after (.stageWindowExpiry 0 .acq2) s).lane 0).state = .spent) := by decide +kernel

/-- A first attempt on input A, where the trial stands, is followed by one on input B. -/
theorem test_O50_again :
    (let s := (withLane { trialLane 1 .ordinary 5#16 with state := .acq1 }).setLoc 1 { RowLocal.reset with place := some 0 }
     TrialStands s 0 ∧ (s.lane 0).inStage .acq1 = true ∧ (s.lane 0).role = .trial ∧ (s.lane 0).input = .a
     ∧ s.slotInput (s.lane 0).slot = .either ∧ (s.lane 0).ctx = .none ∧ (s.lane 0).mark = .ordinary
     ∧ ((after (.stageWindowExpiry 0 .acq1) s).lane 0).input = .b
     ∧ ((after (.stageWindowExpiry 0 .acq1) s).lane 0).stateTimer = some 20
     ∧ ((after (.stageWindowExpiry 0 .acq1) s).lane 0).mark = .ordinary) := by
  exact ⟨(stands_of (by decide +kernel)).1, by decide +kernel⟩

theorem test_O51 :
    (let s := withLane { demoLane .carrier 0 with settings := .recovery, steadyRun := 29, periodErrors := 2 }
     (s.lane 0).state.sampled = true ∧ stands s 0 = true ∧ (s.lane 0).clashLimit = false ∧ s.triggersAt 0 8 = false
     ∧ s.steadyCompletes 0 8 = true ∧ ((after (.steadyRunComplete 0 8) s).lane 0).settings = .steady
     ∧ s.steadyCompletes 0 7 = false ∧ ((after (.qualityPeriodClose 0 7) s).lane 0).steadyRun = 0
     ∧ ((after (.qualityPeriodClose 0 64) s).lane 0).margin = 63 ∧ ((after (.qualityPeriodClose 0 7) s).lane 0).residual = 2) := by
  decide +kernel

/-- Lanes at the edges of the ladder and of lock: what a period close with margin `m` makes of them. -/
theorem test_O51_edges :
    (let close := fun (x : Lane) (m : Nat) => (after (.qualityPeriodClose 0 m) (withLane x)).lane 0
     let trial := { demoLane .carrier 0 with state := .acq2, stateTimer := some 7 }
     let low := demoLane .carrier 0
     let hold := { low with state := .holdover, stateTimer := some 9, sync := { Sync.reset with hits := 2 } }
     let able := { hold with sync := { hold.sync with qualified := true } }
     [trial, low, hold, able].all (fun x => stands (withLane x) 0 && !(withLane x).triggersAt 0 11) = true
     ∧ (close trial 10).state = .acq3 ∧ (close trial 10).stateTimer = some 300
     ∧ (close trial 9).state = .acq2 ∧ (close trial 9).stateTimer = some 7
     ∧ (close low 5).lowPeriods = 1 ∧ (close low 5).state = .locked ∧ (close low 6).lowPeriods = 0
     ∧ (close { low with lowPeriods := 1 } 5).state = .holdover ∧ (close { low with lowPeriods := 1 } 5).stateTimer = some 400
     ∧ (close hold 4).sync.qualified = true ∧ (close hold 4).sync.hits = 0
     ∧ (close able 4).sync.hits = 2 ∧ (close able 3).sync.qualified = false ∧ (close able 3).sync.hits = 2
     ∧ (close low 11).qualityStreak = 1 ∧ (close { low with qualityStreak := 3 } 12).qualityStreak = 0
     ∧ (close { low with periodErrors := 1 } 12).qualityStreak = 1
     ∧ (close { low with clashSeen := true, clashStreak := 2, state := .acq1 } 40).clashStreak = 3
     ∧ (close { low with state := .acq1 } 40).margin = 0) := by decide +kernel

/-- A giver in stage CLOSED whose period saw a clash raises its streak, and reaches the limit (log 55). -/
theorem test_closed_giver_clash :
    (let s := fun n => (swapState .joined true (some (.draining false 16)) .giver .none).setLane 2 { demoLane .giver 0 with
       gate := false, ctx := .giver 0 5#16 .closed 0 0, clashSeen := true, clashStreak := n }
     ((after (.qualityPeriodClose 2 30) (s 3)).lane 2).clashStreak = 4 ∧ (s 4).clashLimitAt 2 = true
     ∧ (after (.clashStreakLimit 2 30) (s 4)).link.queue = [⟨.fixed (.cede 0#8 0#8 5#16 2#8 .clash), false⟩]) := by
  decide +kernel

/-- A trial, a HELD lane, a taker, a giver and a carrier with its SWAP-OFFER queued, each with its rows as they should be. -/
theorem test_O51_stands :
    (let trial := (withLane { trialLane 1 .ordinary 5#16 with state := .acq2 }).setLoc 1 { RowLocal.reset with place := some 0 }
     let standing := ((demo .joined [.carried 5#16 ⟨1, 0⟩ none none]).setLane 0
       { trialLane 0 (.standby 5#16) 5#16 with state := .acq2 }).setLoc 0 { RowLocal.reset with standbyPlace := some 1 }
     let held := withQueue (withLane { demoLane .free 0 with mark := .held 1 .standby })
       [.fixed (.cede 0#8 1#8 5#16 0#8 (.reclaimed 1#8))]
     let taker := swapState .joined false (some .offered) .taker (.taker 0 5#16 .seeking (some 9))
     let giver := swapState .joined true (some (.draining false 16)) .giver (.giver 0 5#16 .draining 3 0)
     let offer := withQueue (swapState .joined true none .carrier (.giver 0 5#16 .offering 0 0)) [.fixed (.swapOffer 0#8 5#16)]
     stands trial 0 = true ∧ ((after (.qualityPeriodClose 0 10) trial).lane 0).state = .acq3
     ∧ stands standing 0 = true ∧ ((after (.qualityPeriodClose 0 10) standing).lane 0).role = .trial
     ∧ stands held 0 = true ∧ ((after (.qualityPeriodClose 0 30) held).lane 0).mark = .held 1 .standby
     ∧ [taker, giver, offer].all (fun s => stands s 2 && ((after (.qualityPeriodClose 2 30) s).lane 2).margin == 30
       && ((after (.qualityPeriodClose 2 30) s).lane 2).ctx == (s.lane 2).ctx) = true) := by decide +kernel

def hunting (role : LaneRole) (state : LaneState) (slot hits : Nat) : Lane :=
  { demoLane role slot with
    state := state, gate := false, margin := 30, lockClock := none,
    sync := { synced := false, boundary := some 9, lockHit := none, hits := hits, misses := 0, qualified := state == .holdover } }

theorem test_O52 :
    (let s := withLane { hunting .trial .acq3 1 4 with mark := .ordinary }
     (s.lane 0).sync.isHit 9 = true ∧ syncHitsK (s.profile (s.lane 0).slot) ≤ (s.lane 0).sync.hits + 1
     ∧ (s.row 1).isOpen = true ∧ s.link.queue.length < 8
     ∧ (after (.acq3SyncLock 0 9) s).link.queue = [⟨.fixed (.bid 1#8 0#8 5#16 0#8 30#8), false⟩])
    ∧ ((after (.acq3SyncLock 0 9) (withLane (hunting .home .acq3 1 4))).lane 0).gate = true
    ∧ ((after (.holdoverReturn 0 9) (withLane (hunting .carrier .holdover 0 4))).lane 0).state = .locked := by decide +kernel

/-- The BID of a standby trial, LATE or not. -/
theorem test_O52_standby : ([ClaimMark.standby 5#16, .late true].all fun m =>
    let s := withLane { hunting .trial .acq3 0 4 with mark := m }
    (s.row 0).lacksStandby && s.termOf 0 == 5#16
      && (after (.syncHit 0 9) s).link.queue == [⟨.fixed (.bid 0#8 1#8 5#16 0#8 30#8), false⟩]) = true := by decide +kernel

theorem test_O53 :
    (let s := withLane (hunting .carrier .holdover 0 3)
     (s.lane 0).sync.isHit 9 = true ∧ s.locksAt 0 9 = false ∧ s.returnsAt 0 9 = false
     ∧ ((after (.syncHit 0 9) s).lane 0).sync.hits = 4 ∧ ((after (.syncMiss 0 9) s).lane 0).sync.boundary = none)
    ∧ (let s := withLane { demoLane .carrier 0 with sync := { (demoLane .carrier 0).sync with misses := 1 } }
       (s.lane 0).sync.boundary = some 188 ∧ (s.lane 0).sync.misses + 1 < syncMissM (s.lane 0).settings
       ∧ ((after (.syncMiss 0 188) s).lane 0).sync.misses = 2)
    ∧ (let s := withLane { demoLane .carrier 0 with sync := { (demoLane .carrier 0).sync with misses := 2 } }
       syncMissM (s.lane 0).settings ≤ (s.lane 0).sync.misses + 1
       ∧ ((after (.syncMissLimit 0 188) s).lane 0).stateTimer = some 400) := by decide +kernel

theorem test_O54 :
    (let s := directed.setLane 0 { demoLane .carrier 0 with state := .holdover, retryCount := 14 }
     (s.lane 0).state = .holdover ∧ (s.lane 0).slot = some 0 ∧ (s.lane 0).ctx = .none ∧ (s.lane 0).mark = .none
     ∧ s.retryMode = .limited ∧ 14 ≤ (s.lane 0).retryCount
     ∧ (after (.retryLimitSpent 0) s).alert = true ∧ ((after (.retryLimitSpent 0) s).lane 0).slot = none)
    ∧ (let s := directed.setLane 1 { demoLane .standby 1 with state := .holdover, retryCount := 13 }
       ((after (.holdoverWindowExpiry 1) s).lane 1).state = .retryWait
       ∧ (after (.holdoverWindowExpiry 1) s).link.queue = [⟨.fixed (.cede 1#8 1#8 5#16 1#8 .lost), false⟩]) := by
  decide +kernel

/-- A TAKER in HOLDOVER, one loss before its last. -/
def lostTaker : State :=
  (swapState .joined false (some .offered) .taker .none).setLane 2
    { fullTaker with state := .holdover, gate := false, ctx := .taker 0 5#16 .seeking (some 9), retryCount := 14 }

theorem test_O54_beside : NoSwapBeside lostTaker (byteOf 0) 2 := noSwapBeside_of _ (by decide +kernel)

/-- A lost GIVER, a lost TAKER, and a lost HOME lane below and at its last count. -/
theorem test_O54_swap_and_home :
    (let lose := fun (l : LaneId) s => after (.holdoverWindowExpiry l) s
     let g := (swapState .joined true (some (.draining false 16)) .giver .none).setLane 2
       { demoLane .giver 0 with state := .holdover, ctx := .giver 0 5#16 .draining 3 0 }
     let k := lostTaker
     let h := fun n => (demo .isolated [.unknown]).setLane 2 { demoLane .home 0 with state := .holdover, retryCount := n }
     (g.lane 2).state = .holdover ∧ (g.lane 2).role = .giver ∧ (g.lane 2).mark = .none
     ∧ ((lose 2 g).lane 2).role = .free ∧ ((lose 2 g).lane 2).ctx = .none ∧ ((lose 2 g).lane 2).state = .retryWait
     ∧ (lose 2 g).link.queue = [⟨.fixed (.cede 0#8 0#8 5#16 2#8 .lost), false⟩]
     ∧ (k.lane 2).role = .taker ∧ k.swappingAt 0 5#16 (fun _ => true) = true ∧ k.table.length ≤ 20
     ∧ ((lose 2 k).lane 2).state = .spent ∧ ((lose 2 k).lane 2).ctx = .taker 0 5#16 (.dropping .takerLost) none
     ∧ (lose 2 k).link.queue = [⟨.fixed (.swapDrop 0#8 5#16 1#8), false⟩]
     ∧ after (.retryLimitSpent 2) k = lose 2 k
     ∧ ((h 13).lane 2).role = .home ∧ (h 13).mode = .isolated ∧ ((lose 2 (h 13)).lane 2).state = .retryWait
     ∧ ((lose 2 (h 13)).lane 2).role = .home ∧ (lose 2 (h 13)).link = (h 13).link
     ∧ ((lose 2 (h 14)).lane 2).state = .spent ∧ (lose 2 (h 14)).link = (h 14).link) := by decide +kernel

/-- The for-slot row leaves OPEN while a second CEDE of the HELD lane is queued, and while it is on the line (log 57). -/
theorem test_second_cede_of_a_held_lane :
    (let second : QFrame := .fixed (.cede 0#8 1#8 5#16 2#8 .lost)
     let h := (standing .joined .standby 5#16).setLane 2 { demoLane .free 0 with mark := .held 1 .standby }
     let q := withQueue h [second, .fixed (.cede 0#8 1#8 5#16 2#8 (.reclaimed 1#8))]
     let o := { q with link := { q.link with queue := [⟨second, true⟩] } }
     let bid := fun s => after (.bidCarrier (rxOf 1) 1#8 5#16 1#8 9#8) s
     ((bid q).row 1).isOpen = false ∧ ((bid q).lane 2).role = .standby ∧ (bid q).link.queue = []
     ∧ ((bid o).lane 2).role = .free ∧ ((bid o).lane 2).slot = none
     ∧ (bid o).link.queue = [⟨second, true⟩, ⟨second, false⟩]) := by decide +kernel

/-- Trials of each claim mark and a HELD lane, lost at the end of the holdover window. -/
theorem test_O54_trials_and_held :
    (let lose := fun s => after (.holdoverWindowExpiry 0) s
     let hold := fun (k : Nat) (m : ClaimMark) => { trialLane k m 5#16 with state := .holdover, retryCount := 14 }
     let s := fun m => withQueue (withLane (hold 1 m)) [.fixed (.bid 1#8 0#8 5#16 0#8 9#8)]
     let b := withLane (hold 0 (.standby 5#16))
     let h := withQueue (withLane { demoLane .free 0 with
       state := .holdover, mark := .held 1 .standby, retryCount := 14, margin := 9, buffer := [packetRecOf [0x47#8] false] })
       [.fixed (.cede 0#8 1#8 5#16 0#8 (.reclaimed 1#8))]
     (b.lane 0).role = .trial ∧ (b.lane 0).ctx = .none ∧ ((lose b).loc 0).standbyTried = true
     ∧ ((lose b).lane 0).role = .free
     ∧ ([ClaimMark.ordinary, .reclaim].all fun m => ((s m).row 1).isOpen && ((lose (s m)).loc 1).tried
         && ((lose (s m)).lane 0).slot == none && ((lose (s m)).lane 0).retryCount == 0 && (lose (s m)).link.queue == []) = true
     ∧ ((lose (s (.late false))).lane 0).state = .spent ∧ ((lose (s (.late false))).loc 1).tried = false
     ∧ after (.retryLimitSpent 0) (s (.late false)) = lose (s (.late false)) ∧ (lose (s (.late false))).link.queue = []
     ∧ stands h 0 = true ∧ (h.lane 0).role = .free ∧ ((lose h).lane 0).state = .idle
     ∧ ((lose h).lane 0).slot = some 0 ∧ ((lose h).lane 0).mark = .held 1 .standby ∧ ((lose h).lane 0).retryCount = 14
     ∧ ((lose h).lane 0).margin = 0 ∧ ((lose h).lane 0).buffer = [] ∧ (lose h).link = h.link) := by decide +kernel

/-- The fourth decision: a row with a standby, of this station, SWAPPING, OPEN at the last term. -/
theorem test_O55_freed :
    ([.carried 5#16 ⟨1, 0⟩ (some ⟨2, 0⟩) none, .carried 5#16 ⟨0, 3⟩ none none, .swapping 5#16 ⟨1, 0⟩ ⟨2, 0⟩ none .offered,
      .opened 0xFFFF#16 none 0].all fun r =>
      let s := (demo .joined [r]).setLane 0 { Lane.reset with state := .retryWait, retryCount := 3, slot := some 0 }
      let t := after (.retryPeriodEnd 0) s
      s.claimActive && (t.lane 0).state == .idle && (t.lane 0).role == .free && (t.lane 0).slot == none
        && (t.lane 0).retryCount == 0) = true := by decide +kernel

theorem test_O55 :
    (let x : Lane := { Lane.reset with state := .retryWait, retryCount := 3, slot := some 1 }
     let s := withLane x
     (s.lane 0).state = .retryWait ∧ (s.lane 0).role = .free ∧ s.claimActive = true ∧ (s.row 1).isOpen = true
     ∧ ((after (.retryPeriodEnd 0) s).lane 0).mark = .late false
     ∧ ((after (.retryPeriodEnd 0) (withLane { x with role := .home })).lane 0).state = .tune
     ∧ s.row 0 = .carried 5#16 ⟨1, 0⟩ none none ∧ s.standbyWanted 0 = true
     ∧ ((after (.retryPeriodEnd 0) (withLane { x with slot := some 0 })).lane 0).mark = .late true
     ∧ (let r : State := { s with mode := .resting }
        r.mode.holdsRoles = true ∧ r.claimActive = false ∧ ((after (.retryPeriodEnd 0) r).lane 0).retryCount = 0)) := by
  decide +kernel

def betterSummary : LaneSummary := { state := 5#8, role := 3#8, slot := 0#8, margin := 12#8 }

theorem test_O56 :
    (let s := (directed.setLane 0 { demoLane .carrier 0 with qualityStreak := 4 }).setPeer 1
       { demoPeer with lanes := some (Vector.replicate 4 betterSummary) }
     (s.lane 0).slot = some 0 ∧ s.triggersAt 0 6 = true ∧ (s.lane 0).clashLimit = false
     ∧ (∀ i, i ≠ (0 : LaneId) → (s.lane i).ctx = .none)
     ∧ ((after (.qualityTrigger 0 6) s).lane 0).ctx = .giver 0 5#16 .offering 0 0
     ∧ (s.lane 0).mark.isHeld = false ∧ s.table.length ≤ 20
     ∧ (after (.qualityTrigger 0 6) s).link.queue = [⟨.fixed (.swapOffer 0#8 5#16), false⟩] ∧ s.triggersAt 0 7 = false)
    ∧ (let s := directed.setLane 0 { demoLane .carrier 0 with clashSeen := true, clashStreak := 4 }
       s.clashLimitAt 0 = true
       ∧ (after (.clashStreakLimit 0 20) s).link.queue = [⟨.fixed (.cede 0#8 0#8 5#16 0#8 .clash), false⟩]) := by
  decide +kernel

/-! ### Packets and windows -/

def shortBytes : List Byte := [0x47#8, 0x11#8, 0x11#8, 0x11#8]

def shortLines : WindowLines := { demoLines with bytes := [0#8, 0#8, 0#8, 0#8] }

def nullBytes : List Byte := [0x47#8, 0x1F#8, 0xFF#8, 0#8]

theorem test_O57 :
    (let rec1 := packetRecOf shortBytes true
     let s := withLane { demoLane .carrier 0 with buffer := List.replicate 32 rec1 }
     (s.lane 0).delivers 188 = true ∧ (packetRecOf nullBytes false).isNull = true
     ∧ ((after (.packetArrival 0 188 nullBytes false) s).lane 0).buffer = (s.lane 0).buffer
     ∧ (packetRecOf shortBytes false).isNull = false ∧ (s.lane 0).fills = true ∧ (s.lane 0).taker = none
     ∧ ((after (.packetArrival 0 188 shortBytes false) s).lane 0).buffer = List.replicate 31 rec1 ++ [packetRecOf shortBytes false]
     ∧ ((after (.packetArrival 0 188 shortBytes true) s).lane 0).periodErrors = 1
     ∧ (withLane (trialLane 0 .ordinary 5#16)).lane 0 = trialLane 0 .ordinary 5#16 ∧ (trialLane 0 .ordinary 5#16).fills = false) := by
  decide +kernel

/-- Four packets that differ in their last byte, their records and trace entries. -/
def packetBytes (i : Nat) : List Byte := [0x47#8, 0x11#8, 0x11#8, byteOf i]

def packet (i : Nat) : PacketRec := packetRecOf (packetBytes i) false

def entry (i : Nat) (last : Bool) : TraceEntry := { signature := (packet i).signature, last := last }

/-- A taker of slot 0 with its trace, alignment and buffer. -/
def taking (stage : TakerStage) (aligned : Bool) (trace : List TraceEntry) (buffer : List PacketRec) : State :=
  (swapState .joined false (some (match stage with
      | .seeking => .offered | .readied => .ready | _ => .draining false 16)) .taker .none).setLane 2
    { demoLane .taker 0 with
      ctx := .taker 0 5#16 stage none, buffer := buffer,
      taker := some { trace := trace, aligned := aligned, feeding := true } }

/-- A packet pairs with the head of the trace, differs from it, or meets the entry marked LAST; an UNALIGNED taker keeps it. -/
theorem test_O57_taker :
    (let come := fun s => after (.packetArrival 2 188 (packetBytes 1) false) s
     let s := taking .draining true [entry 1 false] []
     let u := taking .draining true [entry 2 false] []
     let r := taking .draining true [entry 1 true] []
     let w := taking .readied true [entry 2 false] []
     let q := withQueue { w with table := (taking .seeking true [] []).table } [.fixed (.swapReady 0#8 5#16)]
     let a := taking .draining false [entry 1 false] []
     (s.lane 2).delivers 188 = true ∧ (packetRecOf (packetBytes 1) false).isNull = false ∧ (s.lane 2).fills = true
     ∧ (s.lane 2).gate = false
     ∧ ((come s).lane 2).buffer = [] ∧ ((come s).lane 2).taker = some ⟨[], true, true⟩ ∧ (come s).link.queue = []
     ∧ ((come u).lane 2).taker = some ⟨[entry 2 false], false, true⟩
     ∧ (come u).link.queue = [⟨.fixed (.swapHold 0#8 5#16 1#8), false⟩]
     ∧ ((come r).lane 2).gate = true ∧ ((come r).lane 2).ctx = .taker 0 5#16 .opened none
     ∧ (come r).link.queue = [⟨.fixed (.swapDone 0#8 6#16 2#8), false⟩]
     ∧ ((come w).lane 2).ctx = .taker 0 5#16 .readied none
     ∧ ((come q).lane 2).ctx = .taker 0 5#16 .seeking none ∧ (come q).link.queue = []
     ∧ ((come a).lane 2).buffer = [packet 1] ∧ ((come a).lane 2).taker = (a.lane 2).taker) := by decide +kernel

def sending (x : Lane) (pos : CyclePos) : State :=
  { directed.setLane 0 { x with buffer := [packetRecOf shortBytes false] } with
    bp := { pos := pos, driven := none, reader := none } }

theorem test_O58 :
    (let s := sending (demoLane .carrier 0) (.between 0)
     s.bp.nextOutlet false = some 0 ∧ s.bp.nextOutlet true = some 0 ∧ s.drivingLane 0 = some 0
     ∧ (s.lane 0).buffer = packetRecOf shortBytes false :: [] ∧ (s.lane 0).slot = some 0
     ∧ ((after (.windowStart false) s).lane 0).buffer = []
     ∧ (after (.windowStart false) s).bp.driven = some ⟨0, 0, packetRecOf shortBytes false, false⟩)
    ∧ (let s := sending (demoLane .carrier 0) (.between 19)
       s.bp.nextOutlet false = some 19 ∧ s.drivingLane 19 = none
       ∧ (after (.windowStart false) s).bp = { pos := .inside 19, driven := none, reader := none })
    ∧ (let s := sending (demoLane .carrier 0) (.inside 3)
       s.bp.pos = .inside 3 ∧ (after .cycleCutShort s).bp.pos = .inside 0) := by decide +kernel

/-- A packet of 188 bytes, the last of them its own. -/
def longDriven (last : Bool) : Driven := { lane := 0, slot := 0, packet := packetRecOf (demoBytes.set 187 0x77#8) false, last := last }

/-- The clocks of a window: what the station drives in the first, the last that carries a byte and the four after it; what a
window reads from them. -/
theorem test_O58_clocks :
    (let s : State := { sending (demoLane .carrier 0) (.inside 0) with
       bp := { pos := .inside 0, driven := some (longDriven true), reader := none } }
     s.busDriven 0 = ⟨0x47#8, true, true⟩ ∧ s.busDriven 187 = ⟨0x77#8, true, true⟩ ∧ s.busDriven 188 = .recessive
     ∧ s.busDriven 191 = .recessive ∧ (sending (demoLane .carrier 0) (.inside 0)).busDriven 0 = .recessive
     ∧ windowOf ((List.range 192).map s.busDriven)
       = { bytes := demoBytes.set 187 0x77#8, valid := true, last := true, validAny := true, lastAny := true }
     ∧ windowOf ((List.replicate 192 BusLines.recessive).set 5 ⟨0x80#8, false, true⟩)
       = { demoLines with bytes := demoLines.bytes.set 5 0x80#8, lastAny := true }) := by decide +kernel

/-- Clocks and frame marks make windows. -/
theorem test_busClock :
    (let idle := BusLines.recessive
     let full := List.replicate 191 idle
     (busClock .awaiting [] true idle) = (.inside 0, [idle], [.windowStart true])
     ∧ busClock .awaiting [] false idle = (.awaiting, [], [])
     ∧ (busClock (.inside 0) [idle] false idle).2.2 = []
     ∧ busClock (.inside 0) full false idle = (.between 1, [], [.windowEnd demoLines])
     ∧ busClock (.inside 19) full false idle = (.awaiting, [], [.windowEnd demoLines])
     ∧ busClock (.between 1) [] false idle = (.inside 1, [idle], [.windowStart false])
     ∧ busClock (.between 1) [] true idle = (.inside 0, [idle], [.windowStart true])
     ∧ busClock (.inside 3) [idle] true idle = (.inside 0, [idle], [.cycleCutShort])
     ∧ BusLines.join ⟨0x81#8, true, false⟩ ⟨0x42#8, false, true⟩ = ⟨0xC3#8, true, true⟩) := by decide +kernel

def driving (role : LaneRole) (pos : Nat) : State :=
  { sending (demoLane role 0) (.inside pos) with
    bp := { pos := .inside pos, driven := some ⟨0, 0, packetRecOf shortBytes false, false⟩, reader := none } }

theorem test_O59 :
    (let s := driving .carrier 18
     let d : Driven := ⟨0, 0, packetRecOf shortBytes false, false⟩
     s.bp.pos = .inside 18 ∧ s.bp.reader = none ∧ s.bp.driven = some d ∧ (s.lane 0).ctx = .none ∧ (s.lane 0).slot = some 0
     ∧ readBackDiffers d shortLines = false ∧ (after (.windowEnd shortLines) s).bp.pos = .between 19
     ∧ readBackDiffers d { shortLines with lastAny := true } = true
     ∧ ((after (.windowEnd { shortLines with lastAny := true }) s).lane 0).clashSeen = true
     ∧ (after (.windowEnd { shortLines with lastAny := true }) (driving .home 19)).clashBarred = [0]
     ∧ (after (.windowEnd shortLines) (driving .home 19)).bp.pos = .awaiting)
    ∧ (let s := sending (demoLane .carrier 0) (.inside 3)
       s.bp.driven = none ∧ (after (.windowEnd shortLines) s).bp.pos = .between 4) := by decide +kernel

/-- A clash of a GIVER whose countdown runs and of an open TAKER: clash seen is set beside what the window's end does without it. -/
theorem test_O59_swap :
    (let d : Driven := ⟨2, 0, packetRecOf shortBytes false, false⟩
     let at3 := fun s : State => { s with bp := { pos := .inside 3, driven := some d, reader := none } }
     let g := at3 ((swapState .joined true (some (.draining false 16)) .giver .none).setLane 2
       { demoLane .giver 0 with ctx := .giver 0 5#16 .draining 3 0 })
     let k := at3 ((swapState .joined false (some (.draining false 16)) .taker .none).setLane 2
       { fullTaker with slot := some 0, gate := true, ctx := .taker 0 5#16 .opened none })
     let clash := { shortLines with lastAny := true }
     readBackDiffers d clash = true ∧ readBackDiffers d shortLines = false ∧ (g.lane 2).role ≠ .home
     ∧ ((after (.windowEnd clash) g).lane 2).clashSeen = true
     ∧ ((after (.windowEnd clash) g).lane 2).ctx = .giver 0 5#16 .draining 2 0
     ∧ ((after (.windowEnd shortLines) g).lane 2).clashSeen = false
     ∧ (k.lane 2).role = .taker ∧ (after (.windowEnd clash) k).lane 2 = { k.lane 2 with clashSeen := true }) := by decide +kernel

/-- A window is read for a taker, under the trace of the given number. -/
def reading (no : Nat) (s : State) : State := { s with bp := { pos := .inside 0, driven := none, reader := some (2, no) } }

def linesOf (i : Nat) (last : Bool) : WindowLines :=
  { bytes := packetBytes i, valid := true, last := last, validAny := true, lastAny := last }

/-- A window read with VALID clear, or for an earlier trace; one that completes the alignment test; one that pairs; the entry marked
LAST met ALIGNED and UNALIGNED; the eighth entry that an ALIGNED taker cannot pair. -/
theorem test_O59_reader :
    (let read := fun s w => after (.windowEnd w) s
     let s := reading 0 (taking .seeking false [entry 1 false, entry 2 false, entry 3 false]
       [packet 0, packet 1, packet 2, packet 3, packet 4, packet 5])
     let p := reading 0 (taking .draining true [] [packet 4, packet 5])
     let f := reading 0 (taking .readied true (List.replicate 7 (entry 1 false)) [])
     let u := reading 0 (taking .draining false [] [])
     s.bp.pos = .inside 0 ∧ s.bp.driven = none ∧ s.bp.reader = some (2, (s.lane 2).traceNo) ∧ (s.lane 2).slot = some 0
     ∧ s.outlet 0 = some 0 ∧ (read s { linesOf 4 false with valid := false }).lane 2 = s.lane 2
     ∧ (read (reading 7 s) (linesOf 4 false)).lane 2 = s.lane 2
     ∧ ((read s (linesOf 4 false)).lane 2).ctx = .taker 0 5#16 .readied none
     ∧ ((read s (linesOf 4 false)).lane 2).buffer = [packet 5]
     ∧ ((read s (linesOf 4 false)).lane 2).taker = some ⟨[], true, true⟩
     ∧ (read s (linesOf 4 false)).link.queue = [⟨.fixed (.swapReady 0#8 5#16), false⟩]
     ∧ ((read s (linesOf 5 false)).lane 2).taker = some ⟨[entry 5 false], false, true⟩
     ∧ ((read p (linesOf 4 false)).lane 2).buffer = [packet 5]
     ∧ ((read p (linesOf 4 true)).lane 2).gate = true
     ∧ (read p (linesOf 4 true)).link.queue = [⟨.fixed (.swapDone 0#8 6#16 2#8), false⟩]
     ∧ (read p (linesOf 5 true)).link.queue = [⟨.fixed (.swapDone 0#8 6#16 2#8), false⟩]
     ∧ ((read f (linesOf 1 false)).lane 2).taker = some ⟨List.replicate 8 (entry 1 false), false, true⟩
     ∧ ((read u (linesOf 4 true)).lane 2).ctx = .taker 0 5#16 .opened none
     ∧ ((read u (linesOf 4 true)).lane 2).taker = some ⟨[], false, false⟩) := by decide +kernel

/-- Entries behind the four that match go with the trace; the LAST entry among them makes the rough cut (log 53). -/
theorem test_alignTest_more :
    (let four := [entry 1 false, entry 2 false, entry 3 false, entry 4 false]
     let buf := [packet 0, packet 1, packet 2, packet 3, packet 4, packet 5]
     let s := reading 0 (taking .draining false four buf)
     alignTest (four ++ [entry 5 false]) buf = ([], [packet 5], true, false)
     ∧ ((after (.windowEnd (linesOf 5 true)) s).lane 2).taker = some ⟨[], true, false⟩
     ∧ ((after (.windowEnd (linesOf 5 true)) s).lane 2).ctx = .taker 0 5#16 .opened none) := by decide +kernel

def giving (hold : Bool) (stage : GiverStage) (ov : Nat) (pos : CyclePos) : State :=
  { (swapState .joined true (some (.draining hold 16)) .giver .none).setLane 2
      { demoLane .giver 0 with ctx := .giver 0 5#16 stage 0 ov, buffer := [packetRecOf shortBytes false] } with
    bp := { pos := pos, driven := none, reader := none } }

theorem test_O60 :
    (let s := giving false .draining 0 (.between 0)
     s.bp.nextOutlet false = some 0 ∧ s.drivingLane 0 = some 2 ∧ s.readingLane 0 = none
     ∧ (s.lane 2).ctx = .giver 0 5#16 .draining 0 0 ∧ (s.row 0).hold = false
     ∧ readBackDiffers { lane := 2, slot := 0, packet := packetRecOf shortBytes false, last := true } shortLines = false
     ∧ ((after (.drainCountdownEnd false shortLines) s).lane 2).ctx = .giver 0 5#16 .closed 0 0)
    ∧ (let s := giving true .draining 0 (.between 0)
       (s.row 0).hold = true
       ∧ ((after (.drainCountdownEnd false shortLines) s).lane 2).ctx = .giver 0 5#16 .overrun 0 1)
    ∧ (let d : Driven := { lane := 2, slot := 0, packet := packetRecOf shortBytes false, last := false }
       let s := { giving true .overrun 63 (.inside 0) with bp := { pos := .inside 0, driven := some d, reader := none } }
       (s.lane 2).ctx = .giver 0 5#16 .overrun 0 63 ∧ 4 * 16 ≤ 63 + 1
       ∧ s.row 0 = .swapping 5#16 ⟨0, 2⟩ ⟨1, 0⟩ none (.draining true 16) ∧ readBackDiffers d shortLines = false
       ∧ ((after (.overrunLimit shortLines) s).lane 2).ctx = .giver 0 5#16 .dropping 0 64
       ∧ (after (.overrunLimit shortLines) s).link.queue = [⟨.fixed (.swapDrop 0#8 5#16 2#8), false⟩]) := by decide +kernel

/-- A packet placed before the last, in OVERRUN below the limit, with LAST, and in a stage that counts none. -/
theorem test_O60_placed :
    (let placed := fun (stage : GiverStage) (rem ov : Nat) (last : Bool) =>
       let d : Driven := { lane := 2, slot := 0, packet := packetRecOf shortBytes false, last := last }
       let s := (giving true .closed 0 (.inside 0)).setLane 2 { demoLane .giver 0 with ctx := .giver 0 5#16 stage rem ov }
       let t := after (.windowEnd shortLines) { s with bp := { pos := .inside 0, driven := some d, reader := none } }
       ((t.lane 2).ctx, (t.lane 2).gate, t.link.queue)
     placed .draining 1 0 false = (.giver 0 5#16 .draining 0 0, true, [])
     ∧ placed .draining 16 0 false = (.giver 0 5#16 .draining 15 0, true, [])
     ∧ placed .overrun 0 1 false = (.giver 0 5#16 .overrun 0 2, true, [])
     ∧ placed .overrun 0 62 false = (.giver 0 5#16 .overrun 0 63, true, [])
     ∧ placed .draining 3 0 true = (.giver 0 5#16 .closed 3 0, false, [])
     ∧ placed .overrun 0 9 true = (.giver 0 5#16 .closed 0 9, false, [])
     ∧ placed .dropping 0 64 false = (.giver 0 5#16 .dropping 0 64, true, [])
     ∧ readBackDiffers { lane := 2, slot := 0, packet := packetRecOf shortBytes false, last := true } shortLines = false) := by
  decide +kernel

end Sys2Proof.Tests
end

section
/-! # Settling: of the table, it changes the places alone

Most blocks that settle leave the table as it is; the computation of the places (R34, R45) writes a row's two places and nothing
else of its local data. -/

namespace Sys2Proof.Machine

/-! ### Operations that leave the table -/

theorem table_foldl {α : Type} (f : State → α → State) (h : ∀ s a, (f s a).table = s.table) (xs : List α) (s : State) :
    (xs.foldl f s).table = s.table := by
  induction xs generalizing s with
  | nil => rfl
  | cons x xs ih => rw [List.foldl_cons, ih, h]

theorem table_forLanes (f : LaneId → State → State) (h : ∀ l s, (f l s).table = s.table) (s : State) :
    (s.forLanes f).table = s.table := table_foldl _ (fun s l => h l s) _ s

@[simp] theorem table_dropTrial (s : State) (l : LaneId) : (s.dropTrial l).table = s.table := rfl
@[simp] theorem table_giveUp (s : State) (k : Nat) (role : CarriageRole) (l : LaneId) (r : CedeReason) :
    (s.giveUp k role l r).table = s.table := rfl
@[simp] theorem table_bindLane (s : State) (l : LaneId) (k : Nat) (role : LaneRole) (m : ClaimMark) :
    (s.bindLane l k role m).table = s.table := rfl

@[simp] theorem table_drainLane (s : State) (k : Nat) (l : LaneId) : (s.drainLane k l).table = s.table := by
  rw [State.drainLane]
  split
  · split <;> rfl
  · rfl
  · rfl

@[simp] theorem table_drainIfResting (s : State) (k : Nat) (l : LaneId) : (s.drainIfResting k l).table = s.table := by
  rw [State.drainIfResting]
  split
  · exact table_drainLane s k l
  · rfl

@[simp] theorem table_enterJoined (s : State) : s.enterJoined.table = s.table := by
  rw [State.enterJoined, State.quietStale, table_foldl]
  · rfl
  · intro s x
    split <;> rfl

@[simp] theorem table_joinIfComplete (s : State) : s.joinIfComplete.table = s.table := by
  rw [State.joinIfComplete]
  split
  · exact table_enterJoined s
  · rfl

@[simp] theorem table_settleTrial (l : LaneId) (s : State) : (State.settleTrial l s).table = s.table := by
  simp only [State.settleTrial]
  split <;> rfl

@[simp] theorem table_unheld (s : State) (l : LaneId) (k : Nat) : (s.unheld l k).table = s.table := by
  simp only [State.unheld]
  split
  · rfl
  · split
    · rw [table_drainIfResting, State.modLane_table, State.withdraw_table]
    · rfl

@[simp] theorem table_settleHeldLane (l : LaneId) (s : State) : (State.settleHeldLane l s).table = s.table := by
  simp only [State.settleHeldLane]
  split
  · split
    · rfl
    · split
      · rfl
      · rw [table_unheld, State.withdraw_table]
  · rfl

@[simp] theorem table_settleGiver (s : State) (l : LaneId) (k : Nat) (t : Term) (st : GiverStage) :
    (s.settleGiver l k t st).table = s.table := by
  simp only [State.settleGiver]
  repeat' split
  · rfl
  · rfl
  · exact table_giveUp _ _ _ _ _
  · rfl

@[simp] theorem table_settleTaker (s : State) (l : LaneId) (k : Nat) (t : Term) (st : TakerStage) (al : Option Nat) :
    (s.settleTaker l k t st al).table = s.table := by
  simp only [State.settleTaker]
  repeat' split
  all_goals rfl

@[simp] theorem table_settleSwap (l : LaneId) (s : State) : (State.settleSwap l s).table = s.table := by
  rw [State.settleSwap]
  split
  · rfl
  · exact table_settleGiver s l _ _ _
  · exact table_settleTaker s l _ _ _ _

theorem table_compareHold (s : State) (k : Nat) (t : Term) (wanted : Bool) (fuel : Nat) :
    (s.compareHold k t wanted fuel).table = s.table := by
  induction fuel generalizing s with
  | zero => rfl
  | succ n ih =>
    simp only [State.compareHold]
    repeat' split
    all_goals simp [ih]

@[simp] theorem table_holdCheck (s : State) (l : LaneId) : (s.holdCheck l).table = s.table := by
  simp only [State.holdCheck]
  split
  · exact table_compareHold _ _ _ _ _
  · rfl

@[simp] theorem table_holdsAgain (s : State) : s.holdsAgain.table = s.table := by
  refine table_forLanes _ (fun l s => ?_) s
  simp only [State.holdAgain]
  repeat' split
  all_goals simp

@[simp] theorem table_sendAgain (s : State) (q : QFrame) : (s.sendAgain q).table = s.table := by
  rw [State.sendAgain.eq_def]
  split
  · refine table_forLanes _ (fun l s => ?_) _
    split <;> simp
  · split <;> rfl
  · rfl

@[simp] theorem table_sendDue (s : State) : s.sendDue.table = s.table := by
  rw [State.sendDue, table_foldl _ table_sendAgain]

@[simp] theorem table_assignOne (s : State) : s.assignOne.table = s.table := by
  simp only [State.assignOne]
  repeat' split
  all_goals rfl

@[simp] theorem table_assignStandbyOne (s : State) : s.assignStandbyOne.table = s.table := by
  simp only [State.assignStandbyOne]
  split <;> rfl

@[simp] theorem table_assignLanes (s : State) : s.assignLanes.table = s.table := by
  rw [State.assignLanes]
  split
  · simp
  · rfl

@[simp] theorem table_homeAssignment (s : State) : s.homeAssignment.table = s.table := by
  rw [State.homeAssignment]
  split
  · refine table_foldl _ (fun s k => ?_) _ s
    simp only [State.assignHome]
    repeat' split
    all_goals rfl
  · rfl

/-! ### Local data without the places -/

/-- A row's local data with its two places blanked. -/
def RowLocal.unplaced (loc : RowLocal) : RowLocal := { loc with place := none, standbyPlace := none }

/-- Local data is read from the table alone. -/
theorem State.loc_congr {s t : State} (h : t.table = s.table) (k : Nat) : t.loc k = s.loc k := by
  simp [State.loc, h]

theorem unplaced_setLoc (s : State) (k j : Nat) (loc : RowLocal) (h : loc.unplaced = (s.loc k).unplaced) :
    ((s.setLoc k loc).loc j).unplaced = (s.loc j).unplaced := by
  by_cases hj : j = k
  · subst hj
    by_cases hk : j < s.table.length
    · rw [State.setLoc_eq, State.loc_setEntry_self _ _ hk]
      exact h
    · have same : (s.setLoc j loc).table = s.table := List.set_eq_of_length_le (Nat.le_of_not_lt hk)
      rw [State.loc_congr same]
  · rw [State.setLoc_eq, State.loc_setEntry_ne _ _ hj]

theorem unplaced_replaceRow (k : Nat) (s : State) (j : Nat) :
    ((State.replaceRow k s).loc j).unplaced = (s.loc j).unplaced := by
  have placed := unplaced_setLoc s k j { s.loc k with place := s.placeNow k, standbyPlace := s.standbyPlaceNow k } rfl
  rw [State.replaceRow, State.loc_congr (table_forLanes _ (fun l s => ?_) _)]
  · exact placed
  · dsimp only
    repeat' split
    all_goals rfl

/-- The places computed again are all that changes of the local data (R34, R45). -/
theorem unplaced_replace (s : State) (j : Nat) : (s.replace.loc j).unplaced = (s.loc j).unplaced := by
  rw [State.replace]
  induction List.range s.table.length generalizing s with
  | nil => rfl
  | cons k ks ih => rw [List.foldl_cons, ih, unplaced_replaceRow]

/-- Settling changes no row's local data but its places. -/
theorem unplaced_settle (s : State) (c : Bool) (j : Nat) : ((s.settle c).loc j).unplaced = (s.loc j).unplaced := by
  have trials := table_forLanes State.settleTrial table_settleTrial
  have heldLanes := table_forLanes State.settleHeldLane table_settleHeldLane
  have swaps := table_forLanes State.settleSwap table_settleSwap
  simp only [State.settle]
  split
  · rw [State.loc_congr (table_homeAssignment s)]
  · split
    · rfl
    · let joined := s.joinIfComplete.withdraw fun f => isQuiet f && !s.joinIfComplete.wants f
      have joined_table : joined.table = s.table := table_joinIfComplete s
      rw [State.loc_congr (s := joined.replace), unplaced_replace, State.loc_congr joined_table]
      cases c <;> simp [trials, heldLanes, swaps, State.withdrawMoot, joined]

end Sys2Proof.Machine
end

section
/-! # A completed frame reaches the table

What `Safety.Applies` says of a frame, in terms of the machine: the frame acts on the station with another link, and then the
station settles. -/

namespace Sys2Proof.Machine

open Sys2Proof.Safety

theorem station_ofNat_toNat (x : Station) : (BitVec.ofNat 4 x.val).toNat = x.val := by
  rw [BitVec.toNat_ofNat]
  omega

theorem senderStation_ofNat (x : Station) : senderStation (BitVec.ofNat 4 x.val) = some x := by
  have hx : (BitVec.ofNat 4 x.val).toNat < 8 := by rw [station_ofNat_toNat]; exact x.isLt
  rw [senderStation, dif_pos hx]
  exact congrArg some (Fin.ext (station_ofNat_toNat x))

/-- A station's own number is in the header of none but its own frames. -/
theorem ofNat_eq_sender_iff (s : State) (x : Station) : BitVec.ofNat 4 x.val = s.sender ↔ x = s.number := by
  constructor
  · intro h
    have hn := congrArg BitVec.toNat h
    rw [State.sender, station_ofNat_toNat, station_ofNat_toNat] at hn
    exact Fin.ext hn
  · rintro rfl
    rfl

/-- A station whose record is not ALIEN acts on the table (R7). -/
theorem mayAct_ofNat (s : State) (x : Station) (h : (s.peer x).state ≠ .alien) :
    s.mayAct (BitVec.ofNat 4 x.val) = some x := by
  rw [State.mayAct, senderStation_ofNat]
  exact if_neg h

theorem table_directoryTake (s : State) (sender : BitVec 4) (f : Frame) : (s.directoryTake sender f).table = s.table := by
  simp only [State.directoryTake]
  repeat' split
  all_goals rfl

/-- A frame that reaches the table acts on the station with some link, the rest as it was; after it the station settles. A ROLL is
left out: an own ROLL acts in another way (R8). -/
theorem completeFrame_of_applies {s : State} {rx : Rx} {f : Frame} {x : Station} (h : Applies s rx f x)
    (hf : ∀ b, f ≠ .roll b) :
    ∃ L u, s.completeFrame rx f = State.settle u true
      ∧ u.table = (State.actOn { s with link := L } (BitVec.ofNat 4 x.val) f).table := by
  obtain ⟨hmode, -, hsender, ⟨hne, hfresh⟩ | ⟨hself, hair, hdone⟩⟩ := h
  · have hforeign : rx.sender ≠ s.sender := by rwa [hsender, ne_eq, ofNat_eq_sender_iff]
    have honLink : (s.mode.onLink && rx.fresh) = true := by cases hm : s.mode <;> simp_all [Mode.appliesFrames, Mode.onLink]
    have hnotIsolated : s.markSeen.mode ≠ .isolated := fun e => by
      have e' : s.mode = .isolated := e
      simp [e', Mode.appliesFrames] at hmode
    rw [State.completeFrame, if_neg hforeign, if_pos honLink, State.foreignCompleted, if_neg hnotIsolated, hsender]
    exact ⟨s.markSeen.framesFallDue.link, _, rfl, table_directoryTake _ _ _⟩
  · have hown : rx.sender = s.sender := by rw [hsender, hself]; rfl
    have hcompletes : (rx.seen || !s.presentPeer) = true := by simpa using hdone
    rw [State.completeFrame, if_pos hown, if_pos hair, State.ownCompleted, if_pos hcompletes, State.ownApplied.eq_def, hself]
    refine ⟨Link.fallDue { s.link.leaveLine with
      spoil := 0, unseen := if rx.seen = true then 0 else s.link.unseen }, _, rfl, ?_⟩
    cases f with
    | roll b => exact absurd rfl (hf b)
    | _ => exact congrArg State.table (if_pos hmode)

end Sys2Proof.Machine
end

section
/-! # BID: acceptance and the row (R9 to R11) -/

namespace Sys2Proof.Machine

open Sys2Proof.Safety

/-! ### When a BID is accepted -/

theorem pairNamed_eq_false_iff (s : State) (p : Pair) : s.pairNamed p = false ↔ ∀ j, (s.row j).names p = false := by
  rw [State.pairNamed, List.any_eq_false]
  constructor
  · intro h j
    cases hj : s.table[j]? with
    | none => simp [State.row, hj, Row.names, Row.carrier, Row.standby]
    | some e => simpa [State.row, hj] using h e (List.mem_of_getElem? hj)
  · intro h e he
    obtain ⟨j, hj⟩ := List.getElem?_of_mem he
    simpa [State.row, hj] using h j

theorem isJoinedStation_iff (s : State) (x : Station) :
    s.isJoinedStation x = true ↔ ((s.peer x).state = .present ∨ x = s.number) ∧ (s.peer x).mode = some .joined := by
  simp [State.isJoinedStation]

/-- When a carrier BID is accepted (R9). -/
theorem bidAccepted_iff (s : State) (x : Station) (l : LaneId) (k : Nat) (term : Term) :
    s.bidAccepted x l k term = true ↔
      (∃ t lc n, s.row k = .opened t lc n ∧ term.toNat = t.toNat + 1)
      ∧ (((s.peer x).state = .present ∨ x = s.number) ∧ (s.peer x).mode = some .joined)
      ∧ s.inMask k x = true ∧ ∀ j, (s.row j).names ⟨x, l⟩ = false := by
  rw [← isJoinedStation_iff, ← pairNamed_eq_false_iff, State.bidAccepted]
  cases s.row k with
  | opened t lc n => simp [and_assoc]
  | _ => simp

/-- When a standby BID is accepted (R10). -/
theorem standbyBidAccepted_iff (s : State) (x : Station) (l : LaneId) (k : Nat) (term : Term) :
    s.standbyBidAccepted x l k term = true ↔
      (∃ c lc, s.row k = .carried term c none lc ∧ x ≠ c.station)
      ∧ s.standbyWanted k = true ∧ s.inMask k x = true
      ∧ (((s.peer x).state = .present ∨ x = s.number) ∧ (s.peer x).mode = some .joined)
      ∧ ∀ j, (s.row j).names ⟨x, l⟩ = false := by
  rw [← isJoinedStation_iff, ← pairNamed_eq_false_iff, State.standbyBidAccepted]
  rcases s.row k with _ | _ | ⟨t, c, _ | sb, lc⟩ | _
  case carried.none =>
    simp only [Bool.and_eq_true, Bool.not_eq_true', beq_iff_eq, bne_iff_ne, Row.carried.injEq, true_and]
    constructor
    · rintro ⟨⟨⟨⟨⟨hw, rfl⟩, hc⟩, hm⟩, hj⟩, hn⟩
      exact ⟨⟨c, lc, ⟨rfl, rfl, rfl⟩, hc⟩, hw, hm, hj, hn⟩
    · rintro ⟨⟨_, _, ⟨rfl, rfl, rfl⟩, hc⟩, hw, hm, hj, hn⟩
      exact ⟨⟨⟨⟨⟨hw, rfl⟩, hc⟩, hm⟩, hj⟩, hn⟩
  all_goals simp

/-- A BID with the role is accepted (R9, R10). -/
def State.acceptsBid (s : State) (x : Station) (l : LaneId) (k : Nat) (role : CarriageRole) (term : Term) : Bool :=
  match role with
  | .carrier => s.bidAccepted x l k term
  | .standby => s.standbyBidAccepted x l k term

/-! ### What a BID does -/

/-- A station that has yet to learn a row is JOINING, with an UNKNOWN row (R11). -/
theorem not_takesBids_iff (s : State) :
    ¬TakesBids s ↔ s.mode = .joining ∧ s.table.any (fun e => e.row.isUnknown) = true := by
  simp [TakesBids]

theorem takeBid_no_lane (s : State) (sender : BitVec 4) (slot role : Byte) (term : Term) {lane : Byte}
    (hl : laneOf lane = none) : s.takeBid sender slot role term lane = s := by
  rw [State.takeBid, hl]
  cases s.mayAct sender <;> cases carriageRoleOf role <;> rfl

section
variable {s : State} {sender : BitVec 4} {x : Station} {slot role lane : Byte} {ρ : CarriageRole} {l : LaneId} {term : Term}

theorem takeBid_unlearnt (hx : s.mayAct sender = some x) (hρ : carriageRoleOf role = some ρ) (hl : laneOf lane = some l)
    (h : ¬TakesBids s) : s.takeBid sender slot role term lane = s.putRow slot.toNat .unknown := by
  rw [State.takeBid, hx, hρ, hl]
  exact if_pos ((not_takesBids_iff s).1 h)

theorem takeBid_accepted (hx : s.mayAct sender = some x) (hρ : carriageRoleOf role = some ρ) (hl : laneOf lane = some l)
    (h : TakesBids s) (ha : s.acceptsBid x l slot.toNat ρ term = true) :
    s.takeBid sender slot role term lane =
      if x = (s.applyBid x l slot.toNat ρ term).number then
        (s.applyBid x l slot.toNat ρ term).ownBidAccepted l slot.toNat ρ
      else s.applyBid x l slot.toNat ρ term := by
  have hlearnt := mt (not_takesBids_iff s).2 (not_not_intro h)
  simp only [State.takeBid, hx, hρ, hl, if_neg hlearnt]
  cases ρ with
  | carrier =>
    have ha : s.bidAccepted x l slot.toNat term = true := ha
    simp only [ha, if_true]
  | standby =>
    have ha : s.standbyBidAccepted x l slot.toNat term = true := ha
    simp only [ha, if_true]

theorem takeBid_ignored (hx : s.mayAct sender = some x) (hρ : carriageRoleOf role = some ρ) (hl : laneOf lane = some l)
    (h : TakesBids s) (ha : s.acceptsBid x l slot.toNat ρ term = false) :
    s.takeBid sender slot role term lane = if x = s.number then s.ownBidIgnored l slot.toNat ρ term else s := by
  have hlearnt := mt (not_takesBids_iff s).2 (not_not_intro h)
  simp only [State.takeBid, hx, hρ, hl, if_neg hlearnt]
  cases ρ with
  | carrier =>
    have ha : s.bidAccepted x l slot.toNat term = false := ha
    simp only [ha, Bool.false_eq_true, if_false]
  | standby =>
    have ha : s.standbyBidAccepted x l slot.toNat term = false := ha
    simp only [ha, Bool.false_eq_true, if_false]

end

/-! ### The rows after a BID -/

theorem table_ownBidAccepted (s : State) (l : LaneId) (k : Nat) (role : CarriageRole) :
    (s.ownBidAccepted l k role).table = s.table := by
  rw [State.ownBidAccepted]
  split <;> rfl

/-- The change of the row does not look at the link. -/
theorem table_applyBid_link (s : State) (L : Link) (x : Station) (l : LaneId) (k : Nat) (role : CarriageRole) (term : Term) :
    (State.applyBid { s with link := L } x l k role term).table = (s.applyBid x l k role term).table := by
  have hr : State.row { s with link := L } k = s.row k := rfl
  rw [State.applyBid.eq_def, State.applyBid.eq_def, hr]
  cases role <;> cases s.row k <;> rfl

theorem row_applyBid_ne (s : State) (x : Station) (l : LaneId) {k j : Nat} (role : CarriageRole) (term : Term)
    (hj : j ≠ k) : (s.applyBid x l k role term).row j = s.row j := by
  rw [State.applyBid.eq_def]
  split
  · exact State.row_putRow_ne _ _ hj
  · exact State.row_putRow_ne _ _ hj
  · rfl

section
variable {s : State} {sender : BitVec 4} {x : Station} {slot role lane : Byte} {ρ : CarriageRole} {l : LaneId} {term : Term}

/-- An accepted BID changes the rows as `State.applyBid` does. -/
theorem table_takeBid_accepted (hx : s.mayAct sender = some x) (hρ : carriageRoleOf role = some ρ)
    (hl : laneOf lane = some l) (h : TakesBids s) (ha : s.acceptsBid x l slot.toNat ρ term = true) :
    (s.takeBid sender slot role term lane).table = (s.applyBid x l slot.toNat ρ term).table := by
  rw [takeBid_accepted hx hρ hl h ha]
  split
  · exact table_ownBidAccepted _ _ _ _
  · rfl

theorem row_takeBid_ignored (hx : s.mayAct sender = some x) (hρ : carriageRoleOf role = some ρ) (h : TakesBids s)
    (ha : ∀ l, laneOf lane = some l → s.acceptsBid x l slot.toNat ρ term = false) (j : Nat) :
    (s.takeBid sender slot role term lane).row j = s.row j := by
  cases hl : laneOf lane with
  | none => rw [takeBid_no_lane s sender slot role term hl]
  | some l =>
    rw [takeBid_ignored hx hρ hl h (ha l hl)]
    split
    · exact row_ownBidIgnored s l _ ρ term j
    · rfl

/-- A station that has yet to learn a row forgets the BID's row, where the BID names a lane (R11). -/
theorem row_takeBid_unlearnt (hx : s.mayAct sender = some x) (hρ : carriageRoleOf role = some ρ) (h : ¬TakesBids s) :
    (s.takeBid sender slot role term lane).row slot.toNat = if lane.toNat < 4 then .unknown else s.row slot.toNat := by
  by_cases hlane : lane.toNat < 4
  · rw [takeBid_unlearnt hx hρ (l := ⟨lane.toNat, hlane⟩) (dif_pos hlane) h, if_pos hlane]
    by_cases hk : slot.toNat < s.table.length
    · exact State.row_putRow_self _ _ hk
    · refine State.row_of_length_le _ ?_
      rw [length_of_base (base_putRow s slot.toNat .unknown)]
      exact Nat.le_of_not_lt hk
  · rw [takeBid_no_lane s sender slot role term (dif_neg hlane), if_neg hlane]

/-- A BID changes no row but its own. -/
theorem row_takeBid_ne (hx : s.mayAct sender = some x) (hρ : carriageRoleOf role = some ρ) {j : Nat}
    (hj : j ≠ slot.toNat) : (s.takeBid sender slot role term lane).row j = s.row j := by
  cases hl : laneOf lane with
  | none => rw [takeBid_no_lane s sender slot role term hl]
  | some l =>
    by_cases h : TakesBids s
    · cases ha : s.acceptsBid x l slot.toNat ρ term with
      | true =>
        rw [State.row_congr (table_takeBid_accepted hx hρ hl h ha)]
        exact row_applyBid_ne s x l ρ term hj
      | false =>
        refine row_takeBid_ignored hx hρ h (fun m hm => ?_) j
        obtain rfl : l = m := Option.some.inj (hl.symm.trans hm)
        exact ha
    · rw [takeBid_unlearnt hx hρ hl h]
      exact State.row_putRow_ne _ _ hj

end

/-! ### A BID completes -/

/-- What a completed BID of station `x` leaves of the rows of `s`, whichever its role: an accepted one leaves its row as
`State.applyBid` writes it, with its local data but for the places. -/
structure BidTaken (s u : State) (x : Station) (slot lane : Byte) (ρ : CarriageRole) (term : Term) : Prop where
  others : SameRowsBut slot.toNat s u
  accepted : TakesBids s → ∀ l, laneOf lane = some l → s.acceptsBid x l slot.toNat ρ term = true →
    u.row slot.toNat = (s.applyBid x l slot.toNat ρ term).row slot.toNat
      ∧ (u.loc slot.toNat).unplaced = ((s.applyBid x l slot.toNat ρ term).loc slot.toNat).unplaced
  ignored : TakesBids s → (∀ l, laneOf lane = some l → s.acceptsBid x l slot.toNat ρ term = false) →
    u.row slot.toNat = s.row slot.toNat
  unlearnt : ¬TakesBids s → u.row slot.toNat = if lane.toNat < 4 then .unknown else s.row slot.toNat

theorem bidTaken_completeFrame {s : State} {rx : Rx} {slot role lane margin : Byte} {ρ : CarriageRole} {term : Term}
    {x : Station} (h : Applies s rx (.bid slot role term lane margin) x) (hρ : carriageRoleOf role = some ρ) :
    BidTaken s (s.completeFrame rx (.bid slot role term lane margin)) x slot lane ρ term := by
  obtain ⟨L, v, hv, htable⟩ := completeFrame_of_applies h nofun
  obtain ⟨-, halien, -⟩ := h
  have hx : State.mayAct { s with link := L } (BitVec.ofNat 4 x.val) = some x := mayAct_ofNat _ x halien
  have hrow (j : Nat) : (v.settle true).row j
      = (State.takeBid { s with link := L } (BitVec.ofNat 4 x.val) slot role term lane).row j :=
    (row_settle v true j).trans (State.row_congr htable j)
  rw [hv]
  constructor
  case others => exact fun j hj => (hrow j).trans (row_takeBid_ne hx hρ hj)
  case accepted =>
    intro ht l hl ha
    have happlied : v.table = (State.applyBid { s with link := L } x l slot.toNat ρ term).table :=
      htable.trans (table_takeBid_accepted hx hρ hl ht ha)
    have hsame : v.table = (s.applyBid x l slot.toNat ρ term).table :=
      happlied.trans (table_applyBid_link s L x l slot.toNat ρ term)
    exact ⟨(row_settle v true _).trans (State.row_congr hsame _),
      (unplaced_settle v true _).trans (congrArg RowLocal.unplaced (State.loc_congr hsame _))⟩
  case ignored => exact fun ht ha => (hrow _).trans (row_takeBid_ignored hx hρ ht ha _)
  case unlearnt => exact fun ht => (hrow _).trans (row_takeBid_unlearnt hx hρ ht)

/-! ### The row of an accepted BID -/

theorem row_applyBid_opened {s : State} {k : Nat} {t : Term} {lc : Option Station} {n : Nat}
    (hr : s.row k = .opened t lc n) (x : Station) (l : LaneId) (term : Term) :
    (s.applyBid x l k .carrier term).row k = .carried term ⟨x, l⟩ none lc := by
  rw [State.applyBid.eq_def, hr]
  exact State.row_putRow_self _ _ (s.lt_length_of_row (by simp [hr]))

/-- Its bid clock and its reclaim wait stop and it leaves the tried set (R3). -/
theorem loc_applyBid_opened {s : State} {k : Nat} {t : Term} {lc : Option Station} {n : Nat}
    (hr : s.row k = .opened t lc n) (x : Station) (l : LaneId) (term : Term) :
    ((s.applyBid x l k .carrier term).loc k).bidClock = none
      ∧ ((s.applyBid x l k .carrier term).loc k).reclaimWait = none
      ∧ ((s.applyBid x l k .carrier term).loc k).tried = false := by
  have hk := s.lt_length_of_row (k := k) (by simp [hr])
  rw [State.applyBid.eq_def, hr]
  dsimp only
  rw [State.putRow_eq, State.loc_setEntry_self _ _ hk]
  cases hw : s.standbyWanted k <;> simp [RowLocal.follow, Row.isOpen, Row.lacksStandby, RowLocal.reset]

theorem row_applyBid_carried {s : State} {k : Nat} {t : Term} {c : Pair} {sb : Option Pair} {lc : Option Station}
    (hr : s.row k = .carried t c sb lc) (x : Station) (l : LaneId) (term : Term) :
    (s.applyBid x l k .standby term).row k = .carried t c (some ⟨x, l⟩) lc := by
  rw [State.applyBid.eq_def, hr]
  exact State.row_putRow_self _ _ (s.lt_length_of_row (by simp [hr]))

/-! ### The obligations -/

/-- Settles O27: the branches of `State.bidAccepted` are R9's conditions, and settling leaves the row that the BID has written. -/
theorem carrierBidIsAccepted : Obligations.CarrierBidIsAccepted := by
  intro s rx slot lane margin term x h
  have bid := bidTaken_completeFrame h (ρ := .carrier) rfl
  refine ⟨fun ht => ⟨_, rfl, bid.others, ?_, fun hno => ?_⟩, fun ht => ⟨_, rfl, bid.others, bid.unlearnt ht⟩⟩
  · intro l t lc n hl hr hterm hpresent hjoined hmask hnamed
    have haccepted := (bidAccepted_iff s x l slot.toNat term).2
      ⟨⟨t, lc, n, hr, hterm⟩, ⟨hpresent, hjoined⟩, hmask, hnamed⟩
    obtain ⟨hrow, hloc⟩ := bid.accepted ht l hl haccepted
    obtain ⟨hbid, hwait, htried⟩ := loc_applyBid_opened hr x l term
    exact ⟨hrow.trans (row_applyBid_opened hr x l term), (congrArg RowLocal.bidClock hloc).trans hbid,
      (congrArg RowLocal.reclaimWait hloc).trans hwait, (congrArg RowLocal.tried hloc).trans htried⟩
  · refine bid.ignored ht fun l hl => Bool.eq_false_iff.2 fun ha => ?_
    obtain ⟨hopened, ⟨hpresent, hjoined⟩, hmask, hnamed⟩ := (bidAccepted_iff s x l slot.toNat term).1 ha
    rcases hno l hl with hr | hr | hr | hr | ⟨j, hr⟩
    · exact hr hopened
    · exact hr hpresent
    · exact hr hjoined
    · simp [hmask] at hr
    · simp [hnamed] at hr

/-- Settles O28, as O27 with R10's conditions. -/
theorem standbyBidIsAccepted : Obligations.StandbyBidIsAccepted := by
  intro s rx slot lane margin term x h
  have bid := bidTaken_completeFrame h (ρ := .standby) rfl
  refine ⟨fun ht => ⟨_, rfl, bid.others, ?_, fun hno => ?_⟩, fun ht => ⟨_, rfl, bid.others, bid.unlearnt ht⟩⟩
  · intro l c lc hl hr hwanted hother hmask hpresent hjoined hnamed
    have haccepted := (standbyBidAccepted_iff s x l slot.toNat term).2
      ⟨⟨c, lc, hr, hother⟩, hwanted, hmask, ⟨hpresent, hjoined⟩, hnamed⟩
    exact (bid.accepted ht l hl haccepted).1.trans (row_applyBid_carried hr x l term)
  · refine bid.ignored ht fun l hl => Bool.eq_false_iff.2 fun ha => ?_
    obtain ⟨hcarried, hwanted, hmask, ⟨hpresent, hjoined⟩, hnamed⟩ :=
      (standbyBidAccepted_iff s x l slot.toNat term).1 ha
    rcases hno l hl with hr | hr | hr | hr | hr | ⟨j, hr⟩
    · exact hr hcarried
    · simp [hwanted] at hr
    · simp [hmask] at hr
    · exact hr hpresent
    · exact hr hjoined
    · simp [hnamed] at hr

end Sys2Proof.Machine
end

section
/-! # What every command but a reset keeps

One relation between the station before and after an operation: the rules on gates and traces (R102, R118) and on lengths (R114,
R118) pass from each lane to what it becomes, the rules of the send queue (R152) from queue to queue, and the plan, the number, the
number of rows, the reset in progress and the commands that wait are the same. It is a preorder, so an operation keeps what each
of its parts keeps. -/

namespace Sys2Proof.Machine

open Sys2Proof.Safety

/-! ### Opening a gate leaves the other fields -/

@[simp] theorem Lane.openGate_state (x : Lane) : x.openGate.state = x.state := by rw [Lane.openGate]; split <;> rfl
@[simp] theorem Lane.openGate_role (x : Lane) : x.openGate.role = x.role := by rw [Lane.openGate]; split <;> rfl
@[simp] theorem Lane.openGate_slot (x : Lane) : x.openGate.slot = x.slot := by rw [Lane.openGate]; split <;> rfl
@[simp] theorem Lane.openGate_settings (x : Lane) : x.openGate.settings = x.settings := by rw [Lane.openGate]; split <;> rfl
@[simp] theorem Lane.openGate_lockClock (x : Lane) : x.openGate.lockClock = x.lockClock := by rw [Lane.openGate]; split <;> rfl
@[simp] theorem Lane.openGate_stateTimer (x : Lane) : x.openGate.stateTimer = x.stateTimer := by rw [Lane.openGate]; split <;> rfl
@[simp] theorem Lane.openGate_retryCount (x : Lane) : x.openGate.retryCount = x.retryCount := by rw [Lane.openGate]; split <;> rfl
@[simp] theorem Lane.openGate_sync (x : Lane) : x.openGate.sync = x.sync := by rw [Lane.openGate]; split <;> rfl
@[simp] theorem Lane.openGate_buffer (x : Lane) : x.openGate.buffer = x.buffer := by rw [Lane.openGate]; split <;> rfl
@[simp] theorem Lane.openGate_taker (x : Lane) : x.openGate.taker = x.taker := by rw [Lane.openGate]; split <;> rfl
@[simp] theorem Lane.openGate_mark (x : Lane) : x.openGate.mark = x.mark := by rw [Lane.openGate]; split <;> rfl
@[simp] theorem Lane.openGate_ctx (x : Lane) : x.openGate.ctx = x.ctx := by rw [Lane.openGate]; split <;> rfl
@[simp] theorem Lane.openGate_gate (x : Lane) : x.openGate.gate = true := by
  rw [Lane.openGate]
  split
  · assumption
  · rfl

/-! ### Changes of one lane -/

structure LaneKeeps (x y : Lane) : Prop where
  gate : gateOk x → gateOk y
  bounds : boundsOk x → boundsOk y

theorem LaneKeeps.refl (x : Lane) : LaneKeeps x x := ⟨id, id⟩

theorem LaneKeeps.trans {x y z : Lane} (h : LaneKeeps x y) (h' : LaneKeeps y z) : LaneKeeps x z :=
  ⟨h'.gate ∘ h.gate, h'.bounds ∘ h.bounds⟩

/-- The two rules read the gate, the role, the trace and the buffer alone. -/
theorem LaneKeeps.of_same {x y : Lane} (hgate : y.gate = x.gate) (hrole : y.role = x.role) (htaker : y.taker = x.taker)
    (hbuffer : y.buffer = x.buffer) : LaneKeeps x y := by
  constructor <;> simp [gateOk, boundsOk, hgate, hrole, htaker, hbuffer]

/-- A lane with its gate closed, no trace and an empty buffer meets both rules. -/
theorem LaneKeeps.of_blank {x y : Lane} (hgate : y.gate = false) (htaker : y.taker = none) (hbuffer : y.buffer = []) :
    LaneKeeps x y := by
  constructor <;> simp [gateOk, boundsOk, hgate, htaker, hbuffer]

theorem laneKeeps_release (x : Lane) : LaneKeeps x x.release := .of_blank rfl rfl rfl

theorem laneKeeps_setRole (x : Lane) (r : LaneRole) : LaneKeeps x (x.setRole r) := by
  constructor
  · intro _
    by_cases hr : r = .taker <;> simp [gateOk, Lane.setRole, hr]
  · intro h
    by_cases hr : r = .taker <;> simp [boundsOk, Lane.setRole, hr, h.1]
    exact h.2

theorem laneKeeps_openGate (x : Lane) (h : gateOk x → x.role.mayOpen = true) : LaneKeeps x x.openGate := by
  rw [Lane.openGate]
  split
  · exact .refl x
  · exact ⟨fun hx => ⟨fun _ => h hx, hx.2⟩, id⟩

/-- The gate of a lane that has just taken a role of R102 opens. -/
theorem laneKeeps_setRole_openGate (x : Lane) (r : LaneRole) (h : r.mayOpen = true) :
    LaneKeeps x (x.setRole r).openGate :=
  (laneKeeps_setRole x r).trans (laneKeeps_openGate _ fun _ => h)

/-- As `laneKeeps_setRole_openGate`, where the mark or the context changes with the role. -/
theorem laneKeeps_openGate_of_role {x y : Lane} (h : LaneKeeps x y) (hr : y.role.mayOpen = true) : LaneKeeps x y.openGate :=
  h.trans (laneKeeps_openGate y fun _ => hr)

theorem laneKeeps_enterTune (r : Option SlotRec) (x : Lane) : LaneKeeps x (x.enterTune r) :=
  ⟨id, fun h => ⟨Nat.zero_le _, h.2⟩⟩

theorem laneKeeps_bind (k : Nat) (r : Option SlotRec) (role : LaneRole) (m : ClaimMark) (x : Lane) :
    LaneKeeps x (x.bind k r role m) := by
  refine .trans ?_ (laneKeeps_enterTune r _)
  exact (laneKeeps_setRole x role).trans (.of_same rfl rfl rfl rfl)

theorem laneKeeps_enterRetry (rm : RetryMode) (x : Lane) : LaneKeeps x (x.enterRetry rm) := by
  simp only [Lane.enterRetry]
  split
  · exact .of_blank rfl rfl rfl
  · exact ⟨fun h => ⟨nofun, h.2⟩, fun h => ⟨Nat.zero_le _, h.2⟩⟩

theorem laneKeeps_loseHeld (x : Lane) : LaneKeeps x x.loseHeld := ⟨id, fun h => ⟨Nat.zero_le _, h.2⟩⟩

theorem laneKeeps_clearAll (x : Lane) : LaneKeeps x x.clearAll := .of_blank rfl rfl rfl

theorem laneKeeps_clearUnspent (x : Lane) : LaneKeeps x x.clearUnspent := by
  rw [Lane.clearUnspent]
  split
  · exact .of_same rfl rfl rfl rfl
  · exact .of_blank rfl rfl rfl

theorem laneKeeps_takePeriod (x : Lane) (p : Profile) (m : Nat) : LaneKeeps x (x.takePeriod p m) := by
  rw [Lane.takePeriod.eq_def]
  repeat' split
  all_goals exact .of_same rfl rfl rfl rfl

theorem laneKeeps_takeQuality (x : Lane) (p : Profile) : LaneKeeps x (x.takeQuality p) := by
  rw [Lane.takeQuality]
  split
  · exact .of_same rfl rfl rfl rfl
  · exact .refl x

/-! ### The trace and the buffer of a taker -/

theorem length_pairUp (tr : List TraceEntry) (buf : List PacketRec) :
    (pairUp tr buf).1.length ≤ tr.length ∧ (pairUp tr buf).2.1.length ≤ buf.length := by
  induction tr, buf using pairUp.induct with
  | case1 buf => simp [pairUp]
  | case2 t ts => simp [pairUp]
  | case3 t ts b bs hs hl => simp [pairUp, hs, hl]
  | case4 t ts b bs hs hl ih =>
    rw [pairUp, if_pos hs, if_neg hl, List.length_cons, List.length_cons]
    exact ⟨Nat.le_succ_of_le ih.1, Nat.le_succ_of_le ih.2⟩
  | case5 t ts b bs hs => simp [pairUp, hs]

theorem afterNewest_length (sig : Word16) (buf rest : List PacketRec) (h : afterNewest sig buf = some rest) :
    rest.length ≤ buf.length := by
  induction buf generalizing rest with
  | nil => simp [afterNewest] at h
  | cons b bs ih =>
    rw [afterNewest] at h
    split at h
    · rename_i r hr
      obtain rfl := Option.some.inj h
      exact Nat.le_succ_of_le (ih _ hr)
    · split at h
      · obtain rfl := Option.some.inj h
        exact Nat.le_succ _
      · exact absurd h (by simp)

theorem length_alignTest (tr : List TraceEntry) (buf : List PacketRec) :
    (alignTest tr buf).1.length ≤ tr.length ∧ (alignTest tr buf).2.1.length ≤ buf.length := by
  induction tr with
  | nil => simp [alignTest]
  | cons t ts ih =>
    have later : (alignTest ts buf).1.length ≤ (t :: ts).length ∧ (alignTest ts buf).2.1.length ≤ buf.length :=
      ⟨Nat.le_succ_of_le ih.1, ih.2⟩
    rw [alignTest]
    split
    · exact later
    · rename_i rest hrest
      have hlen := afterNewest_length _ _ _ hrest
      split
      · simp only [List.length_nil, List.length_drop]
        omega
      · exact later
      · simp

theorem length_joinTrace (tr : List TraceEntry) (e : TraceEntry) (h : tr.length ≤ 8) : (joinTrace tr e).length ≤ 8 := by
  rw [joinTrace, List.length_append, List.length_singleton]
  split
  · omega
  · rw [List.length_drop]
    omega

theorem length_joinBuffer (buf : List PacketRec) (r : PacketRec) (h : buf.length ≤ 32) : (joinBuffer buf r).length ≤ 32 := by
  rw [joinBuffer, List.length_append, List.length_singleton]
  split
  · omega
  · rw [List.length_drop]
    omega

theorem length_traceStep (aligned : Bool) (tr : List TraceEntry) (buf : List PacketRec) (e : TraceEntry)
    (h : tr.length ≤ 8) :
    (traceStep aligned tr buf e).1.length ≤ 8 ∧ (traceStep aligned tr buf e).2.1.length ≤ buf.length := by
  have hj := length_joinTrace tr e h
  rw [traceStep]
  dsimp only
  split
  · have := length_pairUp (joinTrace tr e) buf
    exact ⟨this.1.trans hj, this.2⟩
  · have := length_alignTest (joinTrace tr e) buf
    exact ⟨this.1.trans hj, this.2⟩

/-- A taker's trace and buffer grow no longer than they may be. -/
theorem laneKeeps_trace {x : Lane} {tk : Taker} (htk : x.taker = some tk) (tr : List TraceEntry) (buf : List PacketRec)
    (al : Bool) (htr : tk.trace.length ≤ 8 → tr.length ≤ 8) (hbuf : buf.length ≤ x.buffer.length) :
    LaneKeeps x { x with buffer := buf, taker := some { tk with trace := tr, aligned := al } } := by
  constructor
  · exact fun h => ⟨h.1, fun _ => h.2 (by simp [htk])⟩
  · refine fun h => ⟨hbuf.trans h.1, fun t ht => ?_⟩
    obtain rfl := Option.some.inj ht
    exact htr (h.2 tk htk)

/-! ### The station -/

structure Keeps (s t : State) : Prop where
  lanes : ∀ l, LaneKeeps (s.lane l) (t.lane l)
  queue : queueOk s.link.queue → queueOk t.link.queue
  plan : t.plan = s.plan
  number : t.number = s.number
  rows : t.table.length = s.table.length
  inReset : t.inReset = s.inReset
  pending : t.pending = s.pending

theorem Keeps.refl (s : State) : Keeps s s := ⟨fun _ => .refl _, id, rfl, rfl, rfl, rfl, rfl⟩

theorem Keeps.trans {s t u : State} (h : Keeps s t) (h' : Keeps t u) : Keeps s u :=
  ⟨fun l => (h.lanes l).trans (h'.lanes l), h'.queue ∘ h.queue, h'.plan.trans h.plan, h'.number.trans h.number,
    h'.rows.trans h.rows, h'.inReset.trans h.inReset, h'.pending.trans h.pending⟩

theorem keeps_ite {s t u : State} {c : Prop} [Decidable c] (ht : Keeps s t) (hu : Keeps s u) :
    Keeps s (if c then t else u) := by
  split
  · exact ht
  · exact hu

theorem keeps_foldl {α : Type} (f : State → α → State) (h : ∀ s a, Keeps s (f s a)) (xs : List α) (s : State) :
    Keeps s (xs.foldl f s) := by
  induction xs generalizing s with
  | nil => exact .refl s
  | cons x xs ih => exact (h s x).trans (ih _)

theorem keeps_forLanes (f : LaneId → State → State) (h : ∀ l s, Keeps s (f l s)) (s : State) : Keeps s (s.forLanes f) :=
  keeps_foldl _ (fun s l => h l s) _ s

theorem keeps_setLane (s : State) (l : LaneId) (x : Lane) (h : LaneKeeps (s.lane l) x) : Keeps s (s.setLane l x) := by
  refine ⟨fun m => ?_, id, rfl, rfl, rfl, rfl, rfl⟩
  by_cases hm : m = l
  · subst hm
    rwa [State.lane_setLane_self]
  · rw [State.lane_setLane_ne s x hm]
    exact .refl _

theorem keeps_modLane (s : State) (l : LaneId) (f : Lane → Lane) (h : LaneKeeps (s.lane l) (f (s.lane l))) :
    Keeps s (s.modLane l f) := keeps_setLane s l _ h

theorem keeps_modLane_all (s : State) (l : LaneId) (f : Lane → Lane) (h : ∀ x, LaneKeeps x (f x)) :
    Keeps s (s.modLane l f) := keeps_modLane s l f (h _)

theorem keeps_link (s : State) (L : Link) (h : queueOk s.link.queue → queueOk L.queue) :
    Keeps s { s with link := L } := ⟨fun _ => .refl _, h, rfl, rfl, rfl, rfl, rfl⟩

theorem keeps_setEntry (s : State) (k : Nat) (e : Entry) : Keeps s (s.setEntry k e) :=
  ⟨fun _ => .refl _, id, rfl, rfl, s.length_setEntry k e, rfl, rfl⟩
theorem keeps_setLoc (s : State) (k : Nat) (loc : RowLocal) : Keeps s (s.setLoc k loc) := keeps_setEntry s k _
theorem keeps_putRow (s : State) (k : Nat) (r : Row) : Keeps s (s.putRow k r) := keeps_setEntry s k _
theorem keeps_setPeer (s : State) (x : Station) (r : PeerRec) : Keeps s (s.setPeer x r) :=
  ⟨fun _ => .refl _, id, rfl, rfl, rfl, rfl, rfl⟩

/-! ### The send queue -/

theorem keeps_send (s : State) (f : Frame) : Keeps s (s.send f) := keeps_link s _ (queueOk_join_fixed _ f)
theorem keeps_withdraw (s : State) (p : Frame → Bool) : Keeps s (s.withdraw p) := keeps_link s _ (queueOk_withdraw _ p)
theorem keeps_owe (s : State) (f : Frame) : Keeps s (s.owe f) := keeps_link s _ id
theorem keeps_requestRoll (s : State) : Keeps s s.requestRoll :=
  ⟨fun _ => .refl _, queueOk_requestRoll _, rfl, rfl, rfl, rfl, rfl⟩
theorem keeps_requestReport (s : State) : Keeps s s.requestReport := keeps_link s _ (queueOk_requestReport _)
theorem keeps_framesFallDue (s : State) : Keeps s s.framesFallDue := keeps_link s _ id

/-! ### Lanes and frames -/

theorem keeps_releaseLane (s : State) (l : LaneId) : Keeps s (s.releaseLane l) := keeps_modLane_all s l _ laneKeeps_release

/-- A change of a lane's swap context, mark or BID term alone. -/
theorem keeps_setCtx (s : State) (l : LaneId) (c : SwapCtx) : Keeps s (s.setCtx l c) :=
  keeps_modLane s l _ (.of_same rfl rfl rfl rfl)
theorem keeps_endCtx (s : State) (l : LaneId) : Keeps s (s.endCtx l) := keeps_setCtx s l .none
theorem keeps_sendCede (s : State) (k : Nat) (role : CarriageRole) (l : LaneId) (r : CedeReason) :
    Keeps s (s.sendCede k role l r) := keeps_send s _

theorem keeps_giveUp (s : State) (k : Nat) (role : CarriageRole) (l : LaneId) (r : CedeReason) :
    Keeps s (s.giveUp k role l r) :=
  (((keeps_releaseLane s l).trans (keeps_endCtx _ l)).trans (keeps_withdraw _ _)).trans (keeps_sendCede _ k role l r)

theorem keeps_offerSwap (s : State) (k : Nat) (l : LaneId) : Keeps s (s.offerSwap k l) :=
  (keeps_setCtx s l _).trans (keeps_send _ _)

theorem keeps_bindLane (s : State) (l : LaneId) (k : Nat) (role : LaneRole) (m : ClaimMark) :
    Keeps s (s.bindLane l k role m) := keeps_modLane_all s l _ (laneKeeps_bind k _ role m)

/-- A lane takes a role, with any change of its mark, its BID term, its context and its streak. -/
theorem keeps_takeRole (s : State) (l : LaneId) (r : LaneRole) (f : Lane → Lane)
    (h : ∀ x, LaneKeeps (x.setRole r) (f x)) : Keeps s (s.modLane l f) :=
  keeps_modLane_all s l f fun x => (laneKeeps_setRole x r).trans (h x)

theorem keeps_namedInVain (s : State) (k : Nat) (l : LaneId) (role : CarriageRole) (r : CedeReason) (after : Bool) :
    Keeps s (s.namedInVain k l role r after) := by
  rw [State.namedInVain]
  split
  · split
    · exact keeps_sendCede s k role l r
    · split
      · exact .refl s
      · exact ((keeps_withdraw s _).trans (keeps_modLane _ _ _ (.of_same rfl rfl rfl rfl))).trans (keeps_sendCede _ _ _ _ _)
  · have ends : Keeps s (if ((s.withdraw fun f => isGiverFrame k f || isTakerFrame k f || isCedeOf k l f).lane l).ctx.slot
        = some k then (s.withdraw fun f => isGiverFrame k f || isTakerFrame k f || isCedeOf k l f).endCtx l
        else s.withdraw fun f => isGiverFrame k f || isTakerFrame k f || isCedeOf k l f) :=
      keeps_ite ((keeps_withdraw s _).trans (keeps_endCtx _ l)) (keeps_withdraw s _)
    exact keeps_ite (ends.trans (keeps_owe _ _)) (ends.trans (keeps_sendCede _ _ _ _ _))

theorem keeps_drainLane (s : State) (k : Nat) (l : LaneId) : Keeps s (s.drainLane k l) := by
  rw [State.drainLane]
  split
  · exact keeps_ite (keeps_offerSwap s k l) (keeps_giveUp s k _ l _)
  · exact keeps_giveUp s k _ l _
  · exact .refl s

theorem keeps_drainIfResting (s : State) (k : Nat) (l : LaneId) : Keeps s (s.drainIfResting k l) :=
  keeps_ite (keeps_drainLane s k l) (.refl s)

theorem keeps_namedByCut (s : State) (k : Nat) (l : LaneId) (b : Bool) : Keeps s (s.namedByCut k l b) := by
  refine keeps_ite (.refl s) (keeps_ite ?_ (keeps_namedInVain s k l _ _ _))
  refine ((keeps_withdraw s _).trans (keeps_modLane_all _ l _ fun x => ?_)).trans (keeps_drainIfResting _ k l)
  exact laneKeeps_openGate_of_role ((laneKeeps_setRole x .carrier).trans (.of_same rfl rfl rfl rfl)) rfl

theorem keeps_unnamed (s : State) (k : Nat) (l : LaneId) (role : CarriageRole) : Keeps s (s.unnamed k l role) :=
  keeps_ite (((keeps_releaseLane s l).trans (keeps_endCtx _ l)).trans (keeps_withdraw _ _)) (.refl s)

theorem keeps_giverBack (s : State) (k : Nat) (l : LaneId) (dropped vain : Bool) : Keeps s (s.giverBack k l dropped vain) := by
  refine keeps_ite (.refl s) (keeps_ite (keeps_ite (keeps_giveUp s k _ l _) ?_)
    (keeps_ite (keeps_namedInVain s k l _ _ _) (.refl s)))
  exact (keeps_withdraw s _).trans (keeps_modLane_all _ l _ fun x =>
    (laneKeeps_setRole_openGate x .carrier rfl).trans (.of_same rfl rfl rfl rfl))

theorem keeps_giverKept (s : State) (k : Nat) (p : Pair) (a b : Bool) : Keeps s (s.giverKept k p a b) :=
  keeps_ite (keeps_giverBack s k _ a b) (.refl s)

theorem keeps_cutRow (s : State) (k : Nat) (t : Term) (x : Station) (sb : Pair) (sw : Bool) :
    Keeps s (s.cutRow k t x sb sw) :=
  keeps_ite (keeps_ite ((keeps_putRow s k _).trans (keeps_unnamed _ k _ _)) (keeps_putRow s k _))
    (keeps_ite ((keeps_putRow s k _).trans (keeps_namedByCut _ k _ _)) (keeps_putRow s k _))

theorem keeps_carrierLeaves (s : State) (k : Nat) : Keeps s (s.carrierLeaves k) := by
  rw [State.carrierLeaves]
  split
  · exact keeps_putRow s k _
  · exact keeps_cutRow s k _ _ _ _
  · exact keeps_cutRow s k _ _ _ _
  · exact .refl s

theorem keeps_standbyLeaves (s : State) (k : Nat) (d : Bool) : Keeps s (s.standbyLeaves k d) := by
  rw [State.standbyLeaves]
  split
  · exact keeps_putRow s k _
  · exact (keeps_putRow s k _).trans (keeps_giverKept _ k _ d false)
  · exact .refl s

theorem keeps_removeStation (s : State) (x : Station) : Keeps s (s.removeStation x) :=
  keeps_foldl _ (fun s k => keeps_ite (keeps_carrierLeaves s k) (keeps_ite (keeps_standbyLeaves s k false) (.refl s))) _ s

/-! ### The claim unit -/

theorem keeps_dropTrial (s : State) (l : LaneId) : Keeps s (s.dropTrial l) :=
  (keeps_withdraw s _).trans (keeps_releaseLane _ l)
theorem keeps_markTried (s : State) (k : Nat) : Keeps s (s.markTried k) := keeps_ite (keeps_setLoc s k _) (.refl s)
theorem keeps_markStandbyTried (s : State) (k : Nat) : Keeps s (s.markStandbyTried k) := keeps_setLoc s k _

theorem keeps_failTrial (s : State) (l : LaneId) : Keeps s (s.failTrial l) := by
  simp only [State.failTrial]
  split
  · exact (keeps_dropTrial s l).trans (keeps_markStandbyTried _ _)
  · exact (keeps_dropTrial s l).trans (keeps_markTried _ _)
  · exact keeps_dropTrial s l

theorem keeps_sendBid (s : State) (l : LaneId) : Keeps s (s.sendBid l) := by
  simp only [State.sendBid]
  split
  · exact .refl s
  · exact keeps_ite ((keeps_modLane s l _ (.of_same rfl rfl rfl rfl)).trans (keeps_send _ _))
      (keeps_ite ((keeps_modLane s l _ (.of_same rfl rfl rfl rfl)).trans (keeps_send _ _)) (.refl s))

theorem keeps_settleTrial (l : LaneId) (s : State) : Keeps s (State.settleTrial l s) :=
  keeps_ite (keeps_dropTrial s l) (.refl s)

theorem keeps_replaceRow (k : Nat) (s : State) : Keeps s (State.replaceRow k s) := by
  refine (keeps_setLoc s k _).trans (keeps_forLanes _ (fun l s => ?_) _)
  refine keeps_ite ?_ (.refl s)
  split
  · exact keeps_ite (keeps_dropTrial s l) (.refl s)
  · exact keeps_ite (keeps_dropTrial s l) (.refl s)
  · exact .refl s

theorem keeps_replace (s : State) : Keeps s s.replace := keeps_foldl _ (fun s k => keeps_replaceRow k s) _ s

theorem keeps_assignOne (s : State) : Keeps s s.assignOne := by
  simp only [State.assignOne]
  repeat' split
  · exact .refl s
  · exact keeps_bindLane s _ _ _ _
  · exact (keeps_dropTrial s _).trans (keeps_bindLane _ _ _ _ _)
  · exact .refl s

theorem keeps_assignStandbyOne (s : State) : Keeps s s.assignStandbyOne := by
  simp only [State.assignStandbyOne]
  split
  · exact keeps_bindLane s _ _ _ _
  · exact .refl s

theorem keeps_assignLanes (s : State) : Keeps s s.assignLanes := by
  refine keeps_ite ?_ (.refl s)
  have ordinary := ((keeps_assignOne s).trans (keeps_assignOne _)).trans ((keeps_assignOne _).trans (keeps_assignOne _))
  exact ordinary.trans (((keeps_assignStandbyOne _).trans (keeps_assignStandbyOne _)).trans
    ((keeps_assignStandbyOne _).trans (keeps_assignStandbyOne _)))

theorem keeps_activateClaim (s : State) : Keeps s s.activateClaim := keeps_foldl _ (fun s k => keeps_setLoc s k _) _ s

theorem keeps_reclaim (s : State) (k : Nat) : Keeps s (s.reclaim k) := by
  rw [State.reclaim]
  split
  · exact .refl s
  · refine keeps_ite (.trans ?_ (keeps_sendCede _ _ _ _ _)) (.refl s)
    exact (keeps_withdraw s _).trans (keeps_takeRole _ _ .free _ fun x => .of_same rfl rfl rfl rfl)

theorem keeps_unheld (s : State) (l : LaneId) (k : Nat) : Keeps s (s.unheld l k) := by
  have role (u : State) (ρ : CarriageRole) : Keeps u (u.modLane l fun x => match ρ with
      | .carrier => Lane.openGate { x.setRole .carrier with mark := .none }
      | .standby => { x.setRole .standby with mark := .none }) := by
    cases ρ with
    | carrier => exact keeps_modLane_all u l _ fun x =>
        laneKeeps_openGate_of_role ((laneKeeps_setRole x .carrier).trans (.of_same rfl rfl rfl rfl)) rfl
    | standby => exact keeps_takeRole u l .standby _ fun x => .of_same rfl rfl rfl rfl
  simp only [State.unheld]
  split
  · exact (keeps_withdraw s _).trans (keeps_releaseLane _ l)
  · exact (keeps_withdraw s _).trans (keeps_ite ((role _ _).trans (keeps_drainIfResting _ k l))
      ((keeps_releaseLane _ l).trans (keeps_sendCede _ _ _ _ _)))

theorem keeps_settleHeldLane (l : LaneId) (s : State) : Keeps s (State.settleHeldLane l s) := by
  simp only [State.settleHeldLane]
  split
  · exact keeps_ite (.refl s) (keeps_ite (.refl s) ((keeps_withdraw s _).trans (keeps_unheld _ l _)))
  · exact .refl s

theorem keeps_reclaimDone (s : State) (l : LaneId) (k : Nat) (role : CarriageRole) : Keeps s (s.reclaimDone l k role) := by
  simp only [State.reclaimDone]
  split
  · rename_i fs _ _
    have rebound := keeps_ite (c := (s.releaseLane l).claimActive = true ∧ ((s.releaseLane l).row fs).isOpen = true)
      ((keeps_releaseLane s l).trans (keeps_bindLane _ l fs .trial .reclaim)) (keeps_releaseLane s l)
    split
    · exact keeps_ite (rebound.trans (keeps_sendCede _ _ _ _ _)) rebound
    · exact keeps_ite (rebound.trans (keeps_sendCede _ _ _ _ _)) rebound
  · exact .refl s

/-! ### The swap unit -/

theorem dropLastWhere_sublist (p : QEntry → Bool) (q : List QEntry) : (dropLastWhere p q).Sublist q := by
  induction q with
  | nil => exact .slnil
  | cons e rest ih =>
    rw [dropLastWhere]
    split
    · exact List.sublist_cons_self _ _
    · exact ih.cons_cons e

theorem keeps_compareHold (s : State) (k : Nat) (t : Term) (wanted : Bool) (fuel : Nat) :
    Keeps s (s.compareHold k t wanted fuel) := by
  induction fuel generalizing s with
  | zero => exact .refl s
  | succ n ih =>
    rw [State.compareHold]
    split
    · exact keeps_ite (.refl s) (keeps_ite (keeps_send s _)
        ((keeps_link s _ (queueOk_sublist (dropLastWhere_sublist _ _))).trans (ih _)))
    · exact keeps_ite (.refl s) (keeps_send s _)

theorem keeps_holdCheck (s : State) (l : LaneId) : Keeps s (s.holdCheck l) := by
  simp only [State.holdCheck]
  split
  · refine .trans ?_ (keeps_compareHold _ _ _ _ _)
    exact keeps_link s _ id
  · exact .refl s

theorem keeps_holdAgain (l : LaneId) (s : State) : Keeps s (State.holdAgain l s) := by
  simp only [State.holdAgain]
  split
  · exact keeps_ite (keeps_holdCheck s l) (.refl s)
  · exact .refl s

theorem keeps_holdsAgain (s : State) : Keeps s s.holdsAgain := keeps_forLanes _ keeps_holdAgain s
theorem keeps_sendOver (s : State) (f : Frame) : Keeps s (s.sendOver f) := (keeps_send s f).trans (keeps_holdsAgain _)

/-- A lane that holds a trace may open its gate. -/
theorem keeps_openTaker (s : State) (l : LaneId) (k : Nat) (t : Term) (h : (s.lane l).taker.isSome = true) :
    Keeps s (s.openTaker l k t) := by
  refine ((keeps_modLane s l _ ?_).trans (keeps_withdraw _ _)).trans (keeps_sendOver _ _)
  refine (laneKeeps_openGate _ fun hx => by simp [hx.2 h, LaneRole.mayOpen]).trans ⟨?_, ?_⟩
  · refine fun hx => ⟨hx.1, fun ht => hx.2 ?_⟩
    rwa [Option.isSome_map, ← Lane.openGate_taker] at ht
  · refine fun hx => ⟨hx.1, fun t ht => ?_⟩
    obtain ⟨tk, -, rfl⟩ := Option.map_eq_some_iff.1 ht
    exact Nat.zero_le _

theorem keeps_judgeTaker (s : State) (l : LaneId) (was consumed lost : Bool) :
    Keeps s (s.judgeTaker l was consumed lost) := by
  simp only [State.judgeTaker]
  split
  · exact keeps_ite ((keeps_setCtx s l _).trans (keeps_send _ _)) (.refl s)
  · exact keeps_ite ((keeps_withdraw s _).trans (keeps_setCtx _ l _)) (.refl s)
  · exact keeps_ite (keeps_openTaker s l _ _ (by simp [*])) (keeps_ite (keeps_holdCheck s l) (.refl s))
  · exact .refl s

theorem keeps_traceArrival (s : State) (l : LaneId) (e : TraceEntry) : Keeps s (s.traceArrival l e) := by
  simp only [State.traceArrival]
  split
  · exact .refl s
  · rename_i tk htk
    refine keeps_ite (.refl s) ?_
    have hlen := fun h => length_traceStep tk.aligned tk.trace (s.lane l).buffer e h
    refine (keeps_modLane s l _ (laneKeeps_trace htk _ _ _ (fun h => (hlen h).1) ?_)).trans (keeps_judgeTaker _ l _ _ _)
    rw [traceStep]
    dsimp only
    split
    · exact (length_pairUp _ _).2
    · exact (length_alignTest _ _).2

theorem keeps_pairArrival (s : State) (l : LaneId) : Keeps s (s.pairArrival l) := by
  simp only [State.pairArrival]
  split
  · exact .refl s
  · rename_i tk htk
    have hlen := length_pairUp tk.trace (s.lane l).buffer
    exact keeps_ite (.refl s) ((keeps_modLane s l _ (laneKeeps_trace htk _ _ _ hlen.1.trans hlen.2)).trans
      (keeps_judgeTaker _ l _ _ _))

theorem keeps_alignExpired (s : State) (l : LaneId) : Keeps s (s.alignExpired l) := by
  simp only [State.alignExpired]
  split
  · exact ((keeps_withdraw s _).trans (keeps_setCtx _ l _)).trans (keeps_sendOver _ _)
  · exact ((keeps_withdraw s _).trans (keeps_setCtx _ l _)).trans (keeps_sendOver _ _)
  · exact .refl s

theorem keeps_takerDrains (s : State) (l : LaneId) (k : Nat) (t : Term) : Keeps s (s.takerDrains l k t) := by
  simp only [State.takerDrains]
  split
  · exact keeps_setCtx s l _
  · exact (keeps_setCtx s l _).trans (keeps_ite (keeps_openTaker _ l k t (by simp [*])) (keeps_holdCheck _ l))

theorem keeps_takerGo (s : State) (l : LaneId) : Keeps s (s.takerGo l) := by
  simp only [State.takerGo]
  split
  · exact keeps_takerDrains s l _ _
  · exact keeps_ite (.refl s) ((keeps_withdraw s _).trans (keeps_takerDrains _ l _ _))
  · exact .refl s

theorem keeps_settleGiver (s : State) (l : LaneId) (k : Nat) (t : Term) (st : GiverStage) :
    Keeps s (s.settleGiver l k t st) := by
  have ends : Keeps s ((s.withdraw (isGiverFrame k)).endCtx l) := (keeps_withdraw s _).trans (keeps_endCtx _ l)
  exact keeps_ite (.refl s) (keeps_ite (.refl s) (keeps_ite (ends.trans (keeps_giveUp _ k _ l _)) ends))

theorem keeps_settleTaker (s : State) (l : LaneId) (k : Nat) (t : Term) (st : TakerStage) (al : Option Nat) :
    Keeps s (s.settleTaker l k t st al) :=
  keeps_ite (keeps_ite ((keeps_withdraw s _).trans (keeps_setCtx _ l _)) (keeps_withdraw s _))
    ((keeps_withdraw s _).trans (keeps_endCtx _ l))

theorem keeps_settleSwap (l : LaneId) (s : State) : Keeps s (State.settleSwap l s) := by
  simp only [State.settleSwap]
  split
  · exact .refl s
  · exact keeps_settleGiver s l _ _ _
  · exact keeps_settleTaker s l _ _ _ _

theorem keeps_withdrawMoot (s : State) : Keeps s s.withdrawMoot := keeps_withdraw s _

theorem keeps_sendAgain (s : State) (q : QFrame) : Keeps s (s.sendAgain q) := by
  rw [State.sendAgain.eq_def]
  split
  · exact keeps_forLanes _ (fun l s => keeps_ite (keeps_holdCheck s l) (.refl s)) s
  · exact keeps_ite ((keeps_withdraw s _).trans (keeps_send _ _)) (.refl s)
  · exact .refl s

theorem keeps_sendDue (s : State) : Keeps s s.sendDue := by
  refine .trans ?_ (keeps_foldl _ keeps_sendAgain _ _)
  exact keeps_link s _ id

/-! ### Modes and settling -/

/-- A change of fields that the relation does not name. -/
theorem Keeps.of_same {s t : State} (lanes : t.lanes = s.lanes) (queue : t.link.queue = s.link.queue)
    (plan : t.plan = s.plan) (number : t.number = s.number) (table : t.table = s.table) (inReset : t.inReset = s.inReset)
    (pending : t.pending = s.pending) : Keeps s t :=
  ⟨fun l => by rw [State.lane_congr lanes]; exact .refl _, fun h => by rwa [queue], plan, number, by rw [table], inReset, pending⟩

theorem lane_of_map {s t : State} {f : Lane → Lane} (h : t.lanes = s.lanes.map f) (l : LaneId) :
    t.lane l = f (s.lane l) := by
  simp [State.lane, h]

/-- An entry into a mode changes every lane by one function. -/
theorem Keeps.of_map {s t : State} (f : Lane → Lane) (hf : ∀ x, LaneKeeps x (f x)) (lanes : t.lanes = s.lanes.map f)
    (queue : queueOk s.link.queue → queueOk t.link.queue) (plan : t.plan = s.plan) (number : t.number = s.number)
    (rows : t.table.length = s.table.length) (inReset : t.inReset = s.inReset) (pending : t.pending = s.pending) :
    Keeps s t :=
  ⟨fun l => by rw [lane_of_map lanes]; exact hf _, queue, plan, number, rows, inReset, pending⟩

theorem keeps_enterJoining (s : State) (cause : Option ResetCause) : Keeps s (s.enterJoining cause) := by
  refine Keeps.trans ?_ (keeps_requestRoll _)
  exact .of_map Lane.clearAll laneKeeps_clearAll rfl (fun _ => queueOk_clear s.link) rfl rfl (List.length_map _) rfl rfl

theorem keeps_quietStale (s : State) : Keeps s s.quietStale := by
  refine keeps_foldl _ (fun s x => ?_) _ s
  split
  · exact keeps_send s _
  · exact .refl s

theorem keeps_enterJoined (s : State) : Keeps s s.enterJoined := by
  refine .trans (.trans ?_ (keeps_requestRoll { s with mode := .joined, joinQuiet := none })) (keeps_quietStale _)
  exact .of_same rfl rfl rfl rfl rfl rfl rfl

theorem keeps_enterBarred (s : State) (cause : BarredCause) : Keeps s (s.enterBarred cause) :=
  .of_map Lane.clearUnspent laneKeeps_clearUnspent rfl (fun _ => queueOk_clear s.link) rfl rfl (List.length_map _) rfl rfl

theorem keeps_enterMute (s : State) : Keeps s s.enterMute :=
  .of_map Lane.clearUnspent laneKeeps_clearUnspent rfl (fun _ => queueOk_clear s.link) rfl rfl (List.length_map _) rfl rfl

theorem keeps_assignHome (k : Nat) (s : State) : Keeps s (State.assignHome k s) := by
  simp only [State.assignHome]
  split
  · exact keeps_ite (keeps_bindLane s _ _ _ _) (.refl s)
  · exact .refl s

theorem keeps_homeAssignment (s : State) : Keeps s s.homeAssignment :=
  keeps_ite (keeps_foldl _ (fun s k => keeps_assignHome k s) _ s) (.refl s)

theorem keeps_enterIsolated (s : State) : Keeps s s.enterIsolated := by
  refine Keeps.trans ?_ ((keeps_requestRoll _).trans (keeps_homeAssignment _))
  exact .of_map Lane.clearUnspent laneKeeps_clearUnspent rfl (queueOk_clearToRoll s.link) rfl rfl (List.length_map _) rfl rfl

theorem keeps_joinIfComplete (s : State) : Keeps s s.joinIfComplete := keeps_ite (keeps_enterJoined s) (.refl s)

theorem keeps_settle (s : State) (c : Bool) : Keeps s (s.settle c) := by
  refine keeps_ite (keeps_homeAssignment s) (keeps_ite (.refl s) ?_)
  have acted := ((((((keeps_joinIfComplete s).trans (keeps_withdraw _ fun f => isQuiet f && !s.joinIfComplete.wants f)).trans
    (keeps_replace _)).trans (keeps_forLanes _ keeps_settleTrial _)).trans
    (keeps_forLanes _ keeps_settleHeldLane _)).trans (keeps_forLanes _ keeps_settleSwap _)).trans
    ((keeps_withdrawMoot _).trans (keeps_holdsAgain _))
  exact (keeps_ite (acted.trans (((keeps_sendDue _).trans (keeps_holdsAgain _)).trans
    (keeps_forLanes _ keeps_settleHeldLane _))) acted).trans (keeps_assignLanes _)

theorem keeps_restLane (l : LaneId) (s : State) : Keeps s (State.restLane l s) := by
  simp only [State.restLane]
  split
  · exact keeps_dropTrial s l
  · exact keeps_drainLane s _ l
  · exact keeps_drainLane s _ l
  · split
    · exact .refl s
    · exact .refl s
    · exact (((keeps_withdraw s _).trans (keeps_releaseLane _ l)).trans (keeps_setCtx _ l _)).trans (keeps_send _ _)
  · exact .refl s

theorem keeps_enterResting (s : State) : Keeps s s.enterResting := by
  refine .trans (.trans ?_ (keeps_requestRoll { s with mode := .resting })) ((keeps_withdraw _ _).trans
    (keeps_forLanes _ keeps_restLane _))
  exact .of_same rfl rfl rfl rfl rfl rfl rfl

end Sys2Proof.Machine
end

section
/-! # Every command keeps the rules on lanes and on the queue -/

namespace Sys2Proof.Machine

open Sys2Proof.Safety

/-! ### Lane events -/

theorem keeps_tuneEnd (s : State) (l : LaneId) : Keeps s (s.tuneEnd l) :=
  keeps_ite (keeps_setLane s l _ (.of_same rfl rfl rfl rfl)) (.refl s)
theorem keeps_guard (s : State) (l : LaneId) : Keeps s (s.guard l) :=
  keeps_ite (keeps_setLane s l _ (.of_same rfl rfl rfl rfl)) (.refl s)
theorem keeps_lockMinute (s : State) (l : LaneId) : Keeps s (s.lockMinute l) :=
  keeps_ite (keeps_setLane s l _ (.of_same rfl rfl rfl rfl)) (.refl s)

theorem keeps_lossFrames (s : State) (l : LaneId) : Keeps s (s.lossFrames l) := by
  have freed (u : State) (f : Lane → Lane) (h : ∀ x, LaneKeeps (x.setRole .free) (f x)) : Keeps u (u.modLane l f) :=
    keeps_takeRole u l .free f h
  simp only [State.lossFrames]
  split
  · refine .trans (.trans ?_ (keeps_withdraw _ _)) (keeps_sendCede _ _ _ _ _)
    exact freed s _ fun x => .of_same rfl rfl rfl rfl
  · refine .trans (.trans ?_ (keeps_withdraw _ _)) (keeps_sendCede _ _ _ _ _)
    exact freed s _ fun x => .of_same rfl rfl rfl rfl
  · exact (freed s _ fun x => .refl _).trans (keeps_sendCede _ _ _ _ _)
  · refine .trans (.trans ?_ (keeps_withdraw _ _)) (keeps_send _ _)
    exact freed s _ fun x => .of_same rfl rfl rfl rfl
  · exact (keeps_withdraw s _).trans (freed _ _ fun x => .refl _)
  · exact .refl s

theorem keeps_boundLoss (s : State) (l : LaneId) : Keeps s (s.boundLoss l) :=
  (keeps_lossFrames s l).trans (keeps_modLane_all _ l _ (laneKeeps_enterRetry _))

theorem keeps_lost (s : State) (l : LaneId) : Keeps s (s.lost l) := by
  simp only [State.lost]
  split
  · exact keeps_modLane_all s l _ laneKeeps_loseHeld
  · exact .refl s
  · exact keeps_boundLoss s l
  · exact keeps_failTrial s l
  · exact keeps_boundLoss s l

theorem keeps_stopReceiving (s : State) (l : LaneId) (inp : SlotInput) : Keeps s (s.modLane l (Lane.stopReceiving inp)) :=
  keeps_modLane s l _ (.of_same rfl rfl rfl rfl)

theorem keeps_acquisitionFails (s : State) (l : LaneId) : Keeps s (s.acquisitionFails l) := by
  simp only [State.acquisitionFails]
  split
  · exact (keeps_stopReceiving s l _).trans (keeps_lost _ l)
  · exact (keeps_stopReceiving s l _).trans (keeps_modLane_all _ l _ (laneKeeps_enterTune _))
  · exact (keeps_stopReceiving s l _).trans (keeps_lost _ l)

theorem keeps_stageExpired (s : State) (l : LaneId) (st : AcqStage) : Keeps s (s.stageExpired l st) :=
  keeps_ite ((keeps_acquisitionFails s l).trans (keeps_settle _ _)) (.refl s)

theorem keeps_holdoverExpired (s : State) (l : LaneId) : Keeps s (s.holdoverExpired l) :=
  keeps_ite (((keeps_stopReceiving s l _).trans (keeps_lost _ l)).trans (keeps_settle _ _)) (.refl s)

theorem keeps_spendLoss (s : State) (l : LaneId) : Keeps s (s.spendLoss l) := by
  refine keeps_ite ?_ (.refl s)
  split
  · exact keeps_stageExpired s l _
  · exact keeps_stageExpired s l _
  · exact keeps_stageExpired s l _
  · exact keeps_holdoverExpired s l
  · exact .refl s

theorem keeps_retryEnd (s : State) (l : LaneId) : Keeps s (s.retryEnd l) := by
  simp only [State.retryEnd]
  split
  · refine .trans ?_ (keeps_settle _ _)
    exact keeps_ite (keeps_modLane_all s l _ (laneKeeps_enterTune _)) (keeps_ite (keeps_releaseLane s l)
      (keeps_ite (keeps_bindLane s _ _ _ _) (keeps_ite (keeps_bindLane s _ _ _ _) (keeps_releaseLane s l))))
  · exact .refl s

theorem keeps_lockedEvent (s : State) (l : LaneId) (again : Bool) : Keeps s (s.lockedEvent l again) := by
  simp only [State.lockedEvent]
  split
  · exact keeps_ite (.refl s) (keeps_sendBid s l)
  · exact keeps_ite (.refl s) (keeps_modLane s l _ (laneKeeps_openGate _ fun _ => by simp [LaneRole.mayOpen, *]))
  · exact .refl s

theorem keeps_acq3Lock (s : State) (l : LaneId) (pos : Nat) : Keeps s (s.acq3Lock l pos) := by
  refine .trans ?_ (keeps_lockedEvent _ l _)
  exact keeps_modLane s l _ (.of_same rfl rfl rfl rfl)

theorem keeps_holdoverBack (s : State) (l : LaneId) (pos : Nat) : Keeps s (s.holdoverBack l pos) := by
  refine .trans ?_ (keeps_lockedEvent _ l _)
  exact keeps_modLane s l _ (.of_same rfl rfl rfl rfl)

theorem keeps_hit (s : State) (l : LaneId) (pos : Nat) : Keeps s (s.hit l pos) :=
  keeps_ite (keeps_acq3Lock s l pos) (keeps_ite (keeps_holdoverBack s l pos)
    (keeps_ite (keeps_setLane s l _ (.of_same rfl rfl rfl rfl)) (.refl s)))

theorem keeps_miss (s : State) (l : LaneId) (pos : Nat) : Keeps s (s.miss l pos) := by
  refine keeps_ite (keeps_setLane s l _ (.of_same rfl rfl rfl rfl)) (keeps_ite ?_ (.refl s))
  split
  all_goals first | exact .refl s | exact keeps_setLane s l _ (.of_same rfl rfl rfl rfl)

theorem keeps_periodTaken (s : State) (l : LaneId) (m : Nat) : Keeps s (s.periodTaken l m) := by
  refine keeps_modLane_all s l _ fun x => .trans (.trans ?_ (laneKeeps_takePeriod (x.closePeriod m) _ _)) (laneKeeps_takeQuality _ _)
  exact .of_same rfl rfl rfl rfl

theorem keeps_trigger (s : State) (l : LaneId) : Keeps s (s.trigger l) := by
  rw [State.trigger]
  split
  · exact keeps_ite (keeps_offerSwap s _ l) (.refl s)
  · exact .refl s

theorem keeps_renewBid (s : State) (l : LaneId) : Keeps s (s.renewBid l) := keeps_ite (keeps_sendBid s l) (.refl s)

theorem keeps_clashTaken (s : State) (l : LaneId) : Keeps s (s.clashTaken l) := by
  simp only [State.clashTaken]
  split
  · exact keeps_giveUp s _ _ l _
  · exact keeps_modLane s l _ (.of_same rfl rfl rfl rfl)

theorem keeps_periodClose (s : State) (l : LaneId) (m : Nat) : Keeps s (s.periodClose l m) :=
  keeps_ite (((((keeps_periodTaken s l m).trans (keeps_trigger _ l)).trans (keeps_renewBid _ l)).trans
    (keeps_clashTaken _ l)).trans (keeps_settle _ _)) (.refl s)

/-! ### Packets and windows -/

theorem keeps_packetArrives (s : State) (l : LaneId) (pos : Nat) (bytes : List Byte) (u : Bool) :
    Keeps s (s.packetArrives l pos bytes u) := by
  have counted : Keeps s (s.modLane l fun x => x.countDelivery pos u) := keeps_modLane s l _ (.of_same rfl rfl rfl rfl)
  refine keeps_ite (keeps_ite counted (.trans (counted.trans ?_) (keeps_pairArrival _ l))) (.refl s)
  exact keeps_modLane_all _ l _ fun x => ⟨id, fun h => ⟨length_joinBuffer _ _ h.1, h.2⟩⟩

theorem keeps_bp (s : State) (b : Backplane) : Keeps s { s with bp := b } := .of_same rfl rfl rfl rfl rfl rfl rfl

theorem keeps_startWindow (s : State) (n : Nat) : Keeps s (s.startWindow n) := by
  simp only [State.startWindow]
  split
  · exact keeps_bp s _
  · split
    · rename_i l _ _ _ r rest k hbuf _
      refine (keeps_setLane s l { s.lane l with buffer := rest } ⟨id, fun h => ⟨?_, h.2⟩⟩).trans (keeps_bp _ _)
      have hlen := h.1
      rw [hbuf] at hlen
      exact Nat.le_of_succ_le hlen
    · exact keeps_bp s _

theorem keeps_windowStarts (s : State) (mark : Bool) : Keeps s (s.windowStarts mark) := by
  refine keeps_ite (keeps_startWindow s 0) ?_
  split
  · exact keeps_startWindow s _
  · exact .refl s

theorem keeps_cutShort (s : State) : Keeps s s.cutShort := by
  simp only [State.cutShort]
  split
  · exact keeps_startWindow s 0
  · exact .refl s

theorem keeps_countPlaced (s : State) (d : Driven) : Keeps s (s.countPlaced d) := by
  simp only [State.countPlaced]
  split
  · refine keeps_ite (.refl s) (keeps_ite ?_ ?_)
    · split
      · exact keeps_modLane s _ _ ⟨fun h => ⟨nofun, h.2⟩, id⟩
      · exact keeps_modLane s _ _ ⟨fun h => ⟨nofun, h.2⟩, id⟩
      · exact .refl s
    · split
      · exact keeps_setCtx s _ _
      · exact keeps_setCtx s _ _
      · exact keeps_ite ((keeps_setCtx s _ _).trans (keeps_sendOver _ _)) (keeps_setCtx s _ _)
      · exact .refl s
  · exact .refl s

theorem keeps_markClash (s : State) (d : Driven) : Keeps s (s.markClash d) := by
  refine keeps_ite (.trans ((keeps_releaseLane s d.lane).trans ?_) (keeps_homeAssignment _))
    (keeps_setLane s _ _ (.of_same rfl rfl rfl rfl))
  exact .of_same rfl rfl rfl rfl rfl rfl rfl

theorem keeps_placed (s : State) (d : Driven) (w : WindowLines) : Keeps s (s.placed d w) :=
  keeps_ite ((keeps_countPlaced s d).trans (keeps_markClash _ d)) (keeps_countPlaced s d)

theorem keeps_readWindow (s : State) (n : Nat) (r : LaneId × Nat) (bytes : List Byte) (valid last : Bool) :
    Keeps s (s.readWindow n r bytes valid last) := keeps_ite (keeps_traceArrival s _ _) (.refl s)

theorem keeps_windowEnds (s : State) (w : WindowLines) : Keeps s (s.windowEnds w) := by
  simp only [State.windowEnds]
  split
  · rename_i n _
    have port := keeps_bp s { pos := if n < 19 then CyclePos.between (n + 1) else CyclePos.awaiting, driven := none, reader := none }
    cases s.bp.driven with
    | none =>
      cases s.bp.reader with
      | none => exact port
      | some r => exact port.trans (keeps_readWindow _ _ _ _ _ _)
    | some d =>
      cases s.bp.reader with
      | none => exact port.trans (keeps_placed _ d w)
      | some r => exact (port.trans (keeps_placed _ d w)).trans (keeps_readWindow _ _ _ _ _ _)
  · exact .refl s

/-! ### Frames that complete -/

theorem keeps_joinQuiet (s : State) (q : Option Nat) : Keeps s { s with joinQuiet := q } :=
  .of_same rfl rfl rfl rfl rfl rfl rfl

theorem keeps_directoryTake (s : State) (sender : BitVec 4) (f : Frame) : Keeps s (s.directoryTake sender f) := by
  simp only [State.directoryTake]
  split
  · exact .refl s
  · refine keeps_ite (.refl s) (keeps_ite (.trans ?_ (keeps_joinQuiet _ _)) (keeps_setPeer s _ _))
    exact keeps_setPeer s _ _

theorem keeps_takeQuiet (s : State) (sender : BitVec 4) (subject roll : Byte) : Keeps s (s.takeQuiet sender subject roll) := by
  simp only [State.takeQuiet]
  split
  · exact keeps_ite (keeps_ite (keeps_enterJoining s _) (.refl s))
      (keeps_ite ((keeps_setPeer s _ _).trans (keeps_removeStation _ _)) (.refl s))
  · exact .refl s

theorem keeps_ownBidAccepted (s : State) (l : LaneId) (k : Nat) (role : CarriageRole) :
    Keeps s (s.ownBidAccepted l k role) := by
  refine keeps_ite ?_ (keeps_sendCede s _ _ _ _)
  cases role with
  | carrier => exact keeps_modLane_all s l _ fun x =>
      laneKeeps_openGate_of_role ((laneKeeps_setRole x .carrier).trans (.of_same rfl rfl rfl rfl)) rfl
  | standby => exact keeps_takeRole s l .standby _ fun x => .of_same rfl rfl rfl rfl

theorem keeps_ownBidIgnored (s : State) (l : LaneId) (k : Nat) (role : CarriageRole) (t : Term) :
    Keeps s (s.ownBidIgnored l k role t) := by
  have dropped : Keeps s (if (s.lane l).tries k role = true then s.dropTrial l else s) :=
    keeps_ite (keeps_dropTrial s l) (.refl s)
  rw [State.ownBidIgnored.eq_def]
  cases role with
  | carrier => exact dropped.trans (keeps_markTried _ k)
  | standby => exact keeps_ite (dropped.trans (keeps_markStandbyTried _ k)) dropped

theorem keeps_applyBid (s : State) (x : Station) (l : LaneId) (k : Nat) (role : CarriageRole) (t : Term) :
    Keeps s (s.applyBid x l k role t) := by
  rw [State.applyBid.eq_def]
  split
  · exact keeps_putRow s k _
  · exact keeps_putRow s k _
  · exact .refl s

theorem keeps_takeBid (s : State) (sender : BitVec 4) (slot role : Byte) (t : Term) (lane : Byte) :
    Keeps s (s.takeBid sender slot role t lane) := by
  simp only [State.takeBid]
  split
  · refine keeps_ite (keeps_putRow s _ _) ?_
    have applied (ok : Bool) (x : Station) (l : LaneId) (ρ : CarriageRole) :
        Keeps s (if ok = true then s.applyBid x l slot.toNat ρ t else s) := keeps_ite (keeps_applyBid s _ _ _ _ _) (.refl s)
    exact keeps_ite (keeps_ite ((applied _ _ _ _).trans (keeps_ownBidAccepted _ _ _ _))
      ((applied _ _ _ _).trans (keeps_ownBidIgnored _ _ _ _ _))) (applied _ _ _ _)
  · exact .refl s

theorem keeps_countReclaim (s : State) (k : Nat) : Keeps s (s.countReclaim k) := by
  rw [State.countReclaim]
  split
  · exact keeps_ite (keeps_setEntry s k _) (.refl s)
  · exact .refl s

theorem keeps_takeCede (s : State) (sender : BitVec 4) (slot role : Byte) (t : Term) (lane : Byte) (reason : CedeReason) :
    Keeps s (s.takeCede sender slot role t lane reason) := by
  have left (ok : Bool) (ρ : CarriageRole) (k : Nat) : Keeps s (if ok = true then
      (match ρ with | .carrier => s.carrierLeaves k | .standby => s.standbyLeaves k true) else s) := by
    cases ρ with
    | carrier => exact keeps_ite (keeps_carrierLeaves s k) (.refl s)
    | standby => exact keeps_ite (keeps_standbyLeaves s k true) (.refl s)
  have counted {u : State} (hu : Keeps s u) (ok : Bool) (fs : Option Nat) :
      Keeps s (match fs with | some fs => if ok = true then u.countReclaim fs else u | none => u) := by
    cases fs with
    | none => exact hu
    | some fs => exact keeps_ite (hu.trans (keeps_countReclaim u fs)) hu
  unfold State.takeCede
  split
  · exact keeps_ite ((counted (left _ _ _) _ _).trans (keeps_reclaimDone _ _ _ _)) (counted (left _ _ _) _ _)
  · exact .refl s

theorem keeps_takeOffer (s : State) (sender : BitVec 4) (slot : Byte) (t : Term) : Keeps s (s.takeOffer sender slot t) := by
  simp only [State.takeOffer]
  split
  · refine keeps_ite (keeps_ite ((keeps_putRow s _ _).trans (keeps_modLane_all _ _ _ fun x => ?_)) (keeps_putRow s _ _)) (.refl s)
    refine (laneKeeps_setRole x .taker).trans ⟨fun h => ⟨h.1, fun _ => rfl⟩, fun h => ⟨h.1, fun t ht => ?_⟩⟩
    obtain rfl := Option.some.inj ht
    exact Nat.zero_le _
  · exact .refl s

theorem keeps_takeReady (s : State) (sender : BitVec 4) (slot : Byte) (t : Term) : Keeps s (s.takeReady sender slot t) := by
  simp only [State.takeReady]
  split
  · refine keeps_ite ?_ (.refl s)
    split
    · exact keeps_ite (((keeps_putRow s _ _).trans (keeps_setCtx _ _ _)).trans (keeps_send _ _)) (keeps_putRow s _ _)
    · exact keeps_putRow s _ _
  · exact .refl s

theorem keeps_takeGo (s : State) (sender : BitVec 4) (slot : Byte) (t : Term) (dc : Byte) :
    Keeps s (s.takeGo sender slot t dc) := by
  simp only [State.takeGo]
  split
  · refine keeps_ite ?_ (.refl s)
    have given (u : State) (c : Prop) [Decidable c] (l : LaneId) (k n : Nat) (t : Term) : Keeps u (if c then
        u.modLane l fun y => { y.setRole .giver with ctx := .giver k t .draining n 0 } else u) :=
      keeps_ite (keeps_takeRole u l .giver _ fun x => .of_same rfl rfl rfl rfl) (.refl u)
    exact keeps_ite (((keeps_putRow s _ _).trans (given _ _ _ _ _ _)).trans (keeps_takerGo _ _))
      ((keeps_putRow s _ _).trans (given _ _ _ _ _ _))
  · exact .refl s

theorem keeps_takeHold (s : State) (sender : BitVec 4) (slot : Byte) (t : Term) (hold : Byte) :
    Keeps s (s.takeHold sender slot t hold) := by
  have compared (u : State) (k : Nat) : Keeps u (u.forLanes fun l s => if (s.lane l).ctx.isTaker k then s.holdCheck l else s) :=
    keeps_forLanes _ (fun l s => keeps_ite (keeps_holdCheck s l) (.refl s)) u
  rw [State.takeHold]
  have noted : Keeps s (match s.mayAct sender, s.row slot.toNat, holdOf hold with
      | some x, .swapping t' c sb lc (.draining _ dc), some h =>
        if sb.station = x ∧ t' = t then s.putRow slot.toNat (.swapping t' c sb lc (.draining h dc)) else s
      | _, _, _ => s) := by
    split
    · exact keeps_ite (keeps_putRow s _ _) (.refl s)
    · exact .refl s
  exact keeps_ite (noted.trans (compared _ _)) noted

theorem keeps_doneCarrier (s : State) (k : Nat) (l : LaneId) : Keeps s (s.doneCarrier k l) := by
  refine keeps_ite (.refl s) (keeps_ite (.trans (.trans ?_ (keeps_takeRole _ l .carrier _ ?_))
    (keeps_drainIfResting _ k l)) (keeps_namedInVain s _ _ _ _ _))
  · exact keeps_withdraw s _
  · exact fun x => .of_same rfl rfl rfl rfl

theorem keeps_doneStandby (s : State) (k : Nat) (l : LaneId) : Keeps s (s.doneStandby k l) := by
  refine keeps_ite (.refl s) (keeps_ite (keeps_ite (keeps_giveUp s _ _ _ _)
    (.trans ?_ (keeps_takeRole _ l .standby _ fun x => .of_same rfl rfl rfl rfl))) (keeps_namedInVain s _ _ _ _ _))
  exact keeps_withdraw s _

theorem keeps_takeDone (s : State) (sender : BitVec 4) (slot : Byte) (t : Term) (lane : Byte) :
    Keeps s (s.takeDone sender slot t lane) := by
  simp only [State.takeDone]
  split
  · have own (u : State) (c : Prop) [Decidable c] (k : Nat) (l : LaneId) : Keeps u (if c then u.doneCarrier k l else u) :=
      keeps_ite (keeps_doneCarrier u k l) (.refl u)
    exact keeps_ite (keeps_ite (((keeps_putRow s _ _).trans (own _ _ _ _)).trans (keeps_doneStandby _ _ _))
      ((keeps_putRow s _ _).trans (own _ _ _ _))) (.refl s)
  · exact .refl s

theorem keeps_dropStandby (s : State) (k : Nat) (l : LaneId) : Keeps s (s.dropStandby k l) := by
  refine keeps_ite (.refl s) (keeps_ite (.trans (.trans ?_ (keeps_takeRole _ l .standby _ ?_))
    (keeps_drainIfResting _ k l)) (keeps_namedInVain s _ _ _ _ _))
  · exact keeps_withdraw s _
  · exact fun x => .of_same rfl rfl rfl rfl

theorem keeps_takeDrop (s : State) (sender : BitVec 4) (slot : Byte) (t : Term) (reason : Byte) :
    Keeps s (s.takeDrop sender slot t reason) := by
  simp only [State.takeDrop]
  split
  · have kept (r : Row) (p : Pair) := (keeps_putRow s slot.toNat r).trans (keeps_giverKept _ slot.toNat p true true)
    exact keeps_ite (keeps_ite (keeps_ite (((kept _ _).trans (keeps_unnamed _ _ _ _)).trans (keeps_withdraw _ _))
      ((kept _ _).trans (keeps_dropStandby _ _ _))) (kept _ _)) (.refl s)
  · exact .refl s

theorem keeps_adoptUnnames (s : State) (k : Nat) (a b : Row) (role : CarriageRole) : Keeps s (s.adoptUnnames k a b role) := by
  rw [State.adoptUnnames]
  split
  · exact keeps_ite (keeps_unnamed s _ _ _) (.refl s)
  · exact .refl s

theorem keeps_adoptNames (s : State) (k : Nat) (new : Row) (role : CarriageRole) : Keeps s (s.adoptNames k new role) := by
  rw [State.adoptNames]
  split
  · exact .refl s
  · refine keeps_ite (.refl s) (keeps_ite ((keeps_unnamed s _ _ _).trans (keeps_namedInVain _ _ _ _ _ _)) (keeps_ite ?_
      (keeps_namedInVain s _ _ _ _ _)))
    cases role with
    | carrier => exact keeps_giverBack s _ _ _ _
    | standby =>
      refine .trans (.trans ?_ (keeps_takeRole _ _ .standby _ ?_)) (keeps_drainIfResting _ _ _)
      · exact keeps_withdraw s _
      · exact fun x => .of_same rfl rfl rfl rfl

theorem keeps_adoptRow (s : State) (k : Nat) (r : Row) : Keeps s (s.adoptRow k r) :=
  ((((keeps_putRow s k r).trans (keeps_adoptUnnames _ k (s.row k) r .carrier)).trans
    (keeps_adoptUnnames _ k (s.row k) r .standby)).trans (keeps_adoptNames _ k r .carrier)).trans
    (keeps_adoptNames _ k r .standby)

theorem keeps_takeEcho (s : State) (e : RowRecord) : Keeps s (s.takeEcho e) := by
  simp only [State.takeEcho]
  split
  · exact .refl s
  · exact keeps_ite (keeps_adoptRow s _ _) (.refl s)

theorem keeps_takeEchoes (s : State) (es : List RowRecord) : Keeps s (s.takeEchoes es) := by
  rw [State.takeEchoes.eq_def]
  split
  · exact keeps_ite (.refl s) ((keeps_takeEcho s _).trans (keeps_takeEcho _ _))
  · exact keeps_foldl _ keeps_takeEcho _ s

theorem keeps_takeRoll (s : State) (sender : BitVec 4) (b : RollBody) : Keeps s (s.takeRoll sender b) := by
  simp only [State.takeRoll]
  split
  · exact .refl s
  · split
    · exact keeps_removeStation s _
    · exact keeps_removeStation s _
    · exact keeps_ite (keeps_takeEchoes s _) (.refl s)
    · exact keeps_ite (keeps_takeEchoes s _) (.refl s)

/-- What the completion of an own ROLL notes before it acts on its mode (R21, R139, R154). -/
def State.noteOwnRoll (s : State) (b : RollBody) : State :=
  let s := s.setPeer s.number
    { s.peer s.number with mode := some b.mode, lastRoll := some b.number, lanes := some b.lanes }
  { s with
    link := { s.link with lastRoll := b.number },
    echoPointer := if s.slotCount = 0 then s.echoPointer else (s.echoPointer + b.echoes.length) % s.slotCount,
    joinMark := s.joinMark || (b.mode == .joining && s.mode == .joining) }

theorem keeps_noteOwnRoll (s : State) (b : RollBody) : Keeps s (s.noteOwnRoll b) := .of_same rfl rfl rfl rfl rfl rfl rfl

theorem keeps_applyOwnRoll (s : State) (b : RollBody) : Keeps s (s.applyOwnRoll b) := by
  have removed : Keeps s (if b.mode = .joining ∧ s.mode.appliesFrames = true then
      (s.noteOwnRoll b).removeStation s.number else s.noteOwnRoll b) :=
    keeps_ite ((keeps_noteOwnRoll s b).trans (keeps_removeStation _ _)) (keeps_noteOwnRoll s b)
  exact keeps_ite (removed.trans (keeps_activateClaim _)) removed

theorem keeps_directClear (s : State) (a : Byte) : Keeps s (s.directClear a).1 := by
  simp only [State.directClear]
  split
  · exact .refl s
  · refine keeps_modLane_all s _ (fun x =>
      if x.state = .spent then { x.setRole .free with state := .idle, retryCount := 0 } else { x with retryCount := 0 }) fun x => ?_
    split
    · exact (laneKeeps_setRole x .free).trans (.of_same rfl rfl rfl rfl)
    · exact .of_same rfl rfl rfl rfl

theorem keeps_yieldRole (s : State) (k : Nat) (role : CarriageRole) (l : LaneId) : Keeps s (s.yieldRole k role l).1 := by
  rw [State.yieldRole]
  repeat' split
  · exact keeps_giveUp s _ _ _ _
  · exact .refl s
  · exact .refl s

theorem keeps_directYield (s : State) (a : Byte) : Keeps s (s.directYield a).1 := by
  simp only [State.directYield]
  repeat' split
  all_goals first | exact .refl s | exact keeps_yieldRole s _ _ _

theorem keeps_directSwap (s : State) (a : Byte) : Keeps s (s.directSwap a).1 := by
  simp only [State.directSwap]
  repeat' split
  all_goals first | exact .refl s | exact keeps_offerSwap s _ _

theorem keeps_directResume (s : State) : Keeps s s.directResume.1 := by
  rw [State.directResume]
  split
  · dsimp only
    exact keeps_enterJoined s
  · exact .refl s

theorem keeps_judge (s : State) (action a : Byte) : Keeps s (s.judge action a).1 := by
  rw [State.judge]
  repeat' split
  · exact keeps_directClear s a
  · exact .refl s
  · exact keeps_directYield s a
  · exact .refl s
  · exact keeps_directSwap s a
  · exact .refl s
  · exact keeps_enterResting s
  · exact .refl s
  · exact keeps_directResume s
  · exact .refl s
  · exact .refl s

theorem keeps_sel (s : State) (x : Selector) : Keeps s { s with sel := x } := .of_same rfl rfl rfl rfl rfl rfl rfl

theorem keeps_takeDirective (s : State) (target action a : Byte) : Keeps s (s.takeDirective target action a) :=
  keeps_ite (((keeps_judge s action a).trans (keeps_sel _ _)).trans (keeps_requestReport _)) (.refl s)

theorem keeps_takeQuery (s : State) (target kind index : Byte) : Keeps s (s.takeQuery target kind index) :=
  keeps_ite ((keeps_sel s _).trans (keeps_requestReport _)) (.refl s)

theorem keeps_actOn (s : State) (sender : BitVec 4) (f : Frame) : Keeps s (s.actOn sender f) := by
  cases f with
  | quiet subject roll => exact keeps_takeQuiet s _ _ _
  | cede slot role term lane reason => exact keeps_takeCede s _ _ _ _ _ _
  | swapDrop slot term reason => exact keeps_takeDrop s _ _ _ _
  | swapDone slot newTerm lane => exact keeps_takeDone s _ _ _ _
  | swapGo slot term dc => exact keeps_takeGo s _ _ _ _
  | swapHold slot term hold => exact keeps_takeHold s _ _ _ _
  | swapReady slot term => exact keeps_takeReady s _ _ _
  | swapOffer slot term => exact keeps_takeOffer s _ _ _
  | bid slot role term lane margin => exact keeps_takeBid s _ _ _ _ _
  | directive target action argument => exact keeps_takeDirective s _ _ _
  | query target kind index => exact keeps_takeQuery s _ _ _
  | report body => exact .refl s
  | roll b => exact keeps_takeRoll s _ _

/-! ### The link controller's events -/

theorem keeps_markSeen (s : State) : Keeps s s.markSeen := keeps_link s _ id

theorem keeps_foreignCompleted (s : State) (sender : BitVec 4) (f : Frame) : Keeps s (s.foreignCompleted sender f) :=
  keeps_ite (((keeps_markSeen s).trans (keeps_directoryTake _ _ _)).trans (keeps_enterJoining _ _))
    (((((keeps_markSeen s).trans (keeps_framesFallDue _)).trans (keeps_actOn _ _ _)).trans
      (keeps_directoryTake _ _ _)).trans (keeps_settle _ _))

theorem keeps_leaveLine (s : State) (spoil unseen : Nat) :
    Keeps s { s with link := { s.link.leaveLine with spoil := spoil, unseen := unseen } } :=
  keeps_link s _ (queueOk_leaveLine s.link)

theorem keeps_ownApplied (s : State) (seen : Bool) (f : Frame) : Keeps s (s.ownApplied seen f) := by
  rw [State.ownApplied.eq_def]
  refine .trans (.trans ((keeps_leaveLine s 0 (if seen = true then 0 else s.link.unseen)).trans (keeps_framesFallDue _)) ?_)
    (keeps_settle _ _)
  cases f with
  | roll b => exact keeps_applyOwnRoll _ b
  | _ => exact keeps_ite (keeps_actOn _ _ _) (.refl _)

theorem keeps_resendVoid (s : State) (f : Frame) : Keeps s (s.resendVoid f) := by
  rw [State.resendVoid.eq_def]
  split
  · exact .refl s
  · exact keeps_requestReport s
  · exact keeps_sendAgain s _

theorem keeps_ownVoid (s : State) : Keeps s s.ownVoid := by
  simp only [State.ownVoid]
  split
  · exact .refl s
  · have left := keeps_leaveLine s 0 (satInc 8 s.link.unseen)
    exact keeps_ite (.refl s) (keeps_ite (left.trans (keeps_enterIsolated _))
      (((left.trans (keeps_framesFallDue _)).trans (keeps_resendVoid _ _)).trans (keeps_settle _ _)))

theorem keeps_ownCompleted (s : State) (seen : Bool) (f : Frame) : Keeps s (s.ownCompleted seen f) :=
  keeps_ite (keeps_ownApplied s _ _) (keeps_ownVoid s)

theorem keeps_ownNumberHeard (s : State) (fresh : Bool) : Keeps s (s.ownNumberHeard fresh) :=
  keeps_ite ((keeps_markSeen s).trans (keeps_enterBarred _ _)) (.refl s)

theorem keeps_completeFrame (s : State) (rx : Rx) (f : Frame) : Keeps s (s.completeFrame rx f) :=
  keeps_ite (keeps_ite (keeps_ownCompleted s _ _) (keeps_ownNumberHeard s _))
    (keeps_ite (keeps_foreignCompleted s _ _) (.refl s))

theorem keeps_checkFailed (s : State) (raw : RawFrame) : Keeps s (s.checkFailed raw) := by
  have spoiled (mark : AckMark) (n : Nat) : Keeps s { s with link := { s.link with ack := mark, badRx := n } } :=
    keeps_link s _ id
  exact keeps_ite ((spoiled _ _).trans (keeps_enterIsolated _)) (spoiled _ _)

theorem keeps_rawFrame (s : State) (raw : RawFrame) : Keeps s (s.rawFrame raw) := by
  refine keeps_ite ?_ (.refl s)
  split
  · exact keeps_checkFailed s raw
  · exact keeps_completeFrame s _ _

theorem keeps_spoiledFrame (s : State) (sender : BitVec 4) (fresh : Bool) : Keeps s (s.spoiledFrame sender fresh) :=
  keeps_ite (keeps_ownNumberHeard s _) (keeps_ite (keeps_ite ((keeps_markSeen s).trans (keeps_enterJoining _ _))
    (keeps_markSeen s)) (.refl s))

theorem keeps_ownSpoiled (s : State) : Keeps s s.ownSpoiled := by
  simp only [State.ownSpoiled]
  split
  · exact .refl s
  · have stays (n : Nat) : Keeps s { s with link := { s.link.stayQueued with spoil := n } } :=
      keeps_link s _ (queueOk_stayQueued s.link)
    exact keeps_ite ((stays _).trans (keeps_enterMute _)) (stays _)

theorem keeps_startSending (s : State) (rivals : List Byte) : Keeps s (s.startSending rivals) := by
  simp only [State.startSending]
  split
  · exact .refl s
  · exact keeps_ite (keeps_link s _ (queueOk_start _ _)) (.refl s)

theorem keeps_sendMismatch (s : State) : Keeps s s.sendMismatch := keeps_ite (keeps_enterBarred s _) (.refl s)

/-! ### The plan loader -/

theorem keeps_loader (s : State) (x : Loader) : Keeps s { s with loader := x } := .of_same rfl rfl rfl rfl rfl rfl rfl

theorem keeps_attemptFails (s : State) (pulses : Nat) (port : List PortLines) : Keeps s (s.attemptFails pulses port) :=
  keeps_ite (keeps_loader s _) ((keeps_loader s _).trans (keeps_enterBarred _ _))

theorem keeps_startAttempt (s : State) (a : PortAnswer) : Keeps s (s.startAttempt a) :=
  keeps_ite ((keeps_loader s _).trans (keeps_loader _ _)) ((keeps_loader s _).trans (keeps_attemptFails _ _ _))

theorem keeps_noAnswer (s : State) (canStop : Bool) : Keeps s (s.noAnswer canStop) :=
  keeps_ite (keeps_attemptFails s _ _) (.refl s)

theorem keeps_retryLoad (s : State) (a : PortAnswer) : Keeps s (s.retryLoad a) := keeps_ite (keeps_startAttempt s a) (.refl s)

/-! ### Timers -/

theorem keeps_rollExpired (s : State) : Keeps s s.rollExpired := keeps_ite (keeps_requestRoll s) (.refl s)

theorem keeps_staleExpired (s : State) (x : Station) : Keeps s (s.staleExpired x) := by
  refine keeps_ite (.refl s) ?_
  split
  · exact (keeps_setPeer s x _).trans (keeps_settle _ _)
  · exact keeps_ite (((keeps_setPeer s x _).trans (keeps_send _ _)).trans (keeps_settle _ _)) (keeps_setPeer s x _)

theorem keeps_joinQuietExpired (s : State) : Keeps s s.joinQuietExpired := by
  refine keeps_ite (.trans (.trans ?_ (keeps_foldl _ (fun s k => ?_) _ { s with joinQuiet := none })) (keeps_settle _ _)) (.refl s)
  · exact .of_same rfl rfl rfl rfl rfl rfl rfl
  · exact keeps_ite (keeps_putRow s k _) (.refl s)

theorem keeps_muteEnds (s : State) : Keeps s s.muteEnds := keeps_ite (keeps_enterJoining s _) (.refl s)

theorem keeps_bidDue (s : State) (k : Nat) : Keeps s (s.bidDue k) := by
  simp only [State.bidDue]
  split
  · exact .refl s
  · exact (keeps_setLoc s k _).trans (keeps_settle _ _)

theorem keeps_standbyBidDue (s : State) (k : Nat) : Keeps s (s.standbyBidDue k) := by
  simp only [State.standbyBidDue]
  split
  · exact .refl s
  · exact (keeps_setLoc s k _).trans (keeps_settle _ _)

theorem keeps_reclaimExpired (s : State) (k : Nat) : Keeps s (s.reclaimExpired k) := by
  refine keeps_ite (.refl s) ?_
  split
  · exact keeps_ite (((keeps_setLoc s k _).trans (keeps_reclaim _ k)).trans (keeps_settle _ _)) (keeps_setLoc s k _)
  · exact keeps_setLoc s k _

/-! ### Every command -/

/-- A command that returns the station to its reset values or changes the plan or the number (R159, R180, R189). -/
def Resets : Instr → Prop
  | .powerOnReset | .pinReset | .resetEnd _ _ | .loadAttemptComplete _ => True
  | _ => False

/-- Every other command keeps the rules. -/
theorem keeps_exec {c : Instr} {s t : State} (hc : ¬Resets c) (h : exec c s = .next t) : Keeps s t := by
  cases c <;> obtain rfl := Host.Outcome.next.inj h
  case powerOnReset | pinReset | resetEnd | loadAttemptComplete => exact absurd trivial hc
  case clockHoldTimeout | loadNoAnswer => exact keeps_noAnswer s _
  case loadRetryWaitExpiry => exact keeps_retryLoad s _
  case frameSendStart => exact keeps_startSending s _
  case duplicateSendMismatch => exact keeps_sendMismatch s
  case frameOwnNumberReceived => exact keeps_ownNumberHeard s _
  case frameCheckFailed => exact keeps_rawFrame s _
  case frameSpoiled => exact keeps_spoiledFrame s _ _
  case ownFrameSpoiled => exact keeps_ownSpoiled s
  case ownFrameVoid => exact keeps_ownVoid s
  case spoilStreakLimit => exact keeps_ite (keeps_ownSpoiled s) (.refl s)
  case unseenStreakLimit => exact keeps_ite (keeps_ownVoid s) (.refl s)
  case badReceiveStreakLimit => exact keeps_ite (keeps_rawFrame s _) (.refl s)
  case rollTimerExpiry => exact keeps_rollExpired s
  case staleTimerExpiry => exact keeps_staleExpired s _
  case joinQuietExpiry => exact keeps_joinQuietExpired s
  case muteRestExpiry => exact keeps_muteEnds s
  case bidClockDue => exact keeps_bidDue s _
  case standbyBidClockDue => exact keeps_standbyBidDue s _
  case reclaimWaitExpiry => exact keeps_reclaimExpired s _
  case alignTimerExpiry => exact keeps_alignExpired s _
  case tuneTimeEnd => exact keeps_tuneEnd s _
  case guardDetected => exact keeps_guard s _
  case stageWindowExpiry => exact keeps_stageExpired s _ _
  case qualityPeriodClose => exact keeps_periodClose s _ _
  case acq3SyncLock => exact keeps_ite (keeps_acq3Lock s _ _) (.refl s)
  case holdoverReturn => exact keeps_ite (keeps_holdoverBack s _ _) (.refl s)
  case syncMissLimit => exact keeps_ite (keeps_miss s _ _) (.refl s)
  case holdoverWindowExpiry => exact keeps_holdoverExpired s _
  case retryLimitSpent => exact keeps_spendLoss s _
  case retryPeriodEnd => exact keeps_retryEnd s _
  case lockClock60s => exact keeps_lockMinute s _
  case steadyRunComplete | qualityTrigger | clashStreakLimit => exact keeps_ite (keeps_periodClose s _ _) (.refl s)
  case overrunLimit => exact keeps_ite (keeps_windowEnds s _) (.refl s)
  case drainCountdownEnd => exact keeps_ite ((keeps_windowStarts s _).trans (keeps_windowEnds _ _)) (.refl s)
  case packetArrival => exact keeps_packetArrives s _ _ _ _
  case windowStart => exact keeps_windowStarts s _
  case windowEnd => exact keeps_windowEnds s _
  case cycleCutShort => exact keeps_cutShort s
  case syncHit => exact keeps_hit s _ _
  case syncMiss => exact keeps_miss s _ _
  all_goals exact keeps_completeFrame s _ _

end Sys2Proof.Machine
end

section
/-! # The plan, resets, the passing of time -/

namespace Sys2Proof.Machine

open Sys2Proof.Safety

/-! ### The load checks -/

theorem allSome_eq_some {α : Type} {xs : List (Option α)} {ys : List α} (h : allSome xs = some ys) : xs = ys.map some := by
  induction xs generalizing ys with
  | nil =>
    obtain rfl := Option.some.inj h
    rfl
  | cons x xs ih =>
    cases x with
    | none => exact absurd h (by simp [allSome])
    | some a =>
      obtain ⟨zs, hzs, rfl⟩ := Option.map_eq_some_iff.1 h
      rw [ih hzs, List.map_cons]

theorem outletsUnique_pairwise {slots : List SlotRec} (h : outletsUnique slots = true) :
    slots.Pairwise fun a b => a.outlet ≠ b.outlet := by
  induction slots with
  | nil => exact .nil
  | cons r rest ih =>
    rw [outletsUnique, Bool.and_eq_true, List.all_eq_true] at h
    refine .cons (fun q hq => ?_) (ih h.2)
    exact Ne.symm (bne_iff_ne.1 (h.1 q hq))

/-- The fields of a slot record in their ranges (R187, R189). -/
def SlotRec.inRange (r : SlotRec) : Prop :=
  47000 ≤ r.freq ∧ r.freq ≤ 862000 ∧ 1 ≤ r.rank ∧ r.rank ≤ 4 ∧ r.outlet ≤ 19 ∧ r.mask ≠ 0#8
    ∧ r.mask.getLsbD r.home.val = true

theorem slotRecOf_inRange {bytes : List Byte} {r : SlotRec} (h : slotRecOf bytes = some r) : r.inRange := by
  rw [slotRecOf.eq_def] at h
  split at h
  · dsimp only at h
    split at h
    · split at h
      · split at h
        · rename_i hr
          obtain ⟨hlo, hhi, -, hrank, hrank', hout, hmask, hhome⟩ := hr
          obtain rfl := Option.some.inj h
          exact ⟨hlo, hhi, hrank, hrank', hout, hmask, hhome⟩
        · cases h
      · cases h
    · cases h
  · cases h

/-- What the checks of R189 say of an accepted image and its plan. -/
theorem judgeImage_some {image : List Byte} {p : Plan} (h : judgeImage image = some p) :
    (1 ≤ (memByte image 4).toNat ∧ (memByte image 4).toNat ≤ 20 ∧ image.length = 41 + 8 * (memByte image 4).toNat
      ∧ p.digest = checkSequence (image.take (39 + 8 * (memByte image 4).toNat)) ∧ 16 ≤ p.drainCount ∧ p.drainCount ≤ 255)
    ∧ (List.range (memByte image 4).toNat).map (fun k => slotRecOf (readBytes image (39 + 8 * k) 8)) = p.slots.map some
    ∧ outletsUnique p.slots = true := by
  rw [judgeImage] at h
  split at h
  · rename_i hn
    obtain ⟨h1, h20, hlen, -, hsum, hdrain⟩ := hn
    split at h
    · rename_i rm ws slots _ _ hslots
      split at h
      · rename_i hout
        obtain rfl := Option.some.inj h
        exact ⟨⟨h1, h20, hlen, hsum.symm, hdrain, Nat.lt_succ_iff.1 (memByte image 5).isLt⟩, allSome_eq_some hslots, hout⟩
      · cases h
    · cases h
  · cases h

theorem judgeImage_slots_length {image : List Byte} {p : Plan} (h : judgeImage image = some p) :
    (memByte image 4).toNat = p.slots.length := by
  have hlen := congrArg List.length (judgeImage_some h).2.1
  simpa using hlen

/-- Settles O14. -/
theorem acceptedPlanMeetsTheChecks : Obligations.AcceptedPlanMeetsTheChecks := by
  intro image p h
  have hn := judgeImage_slots_length h
  obtain ⟨⟨h1, h20, hlen, hdigest, hdrain, hdrain'⟩, hslots, hout⟩ := judgeImage_some h
  rw [hn] at h1 h20 hlen hdigest
  refine ⟨h1, h20, hlen, hn, hdigest, hdrain, hdrain', fun r hr => ?_, outletsUnique_pairwise hout⟩
  have hmem : some r ∈ p.slots.map some := List.mem_map_of_mem hr
  rw [← hslots, List.mem_map] at hmem
  obtain ⟨k, -, hk⟩ := hmem
  exact slotRecOf_inRange hk

/-! ### Resets -/

theorem lane_reset (l : LaneId) : State.reset.lane l = Lane.reset := by
  simp [State.reset, State.lane]

theorem row_reset (k : Nat) : State.reset.row k = .unknown := by
  exact State.row_of_length_le _ (Nat.zero_le k)

/-- What every step keeps, a reset and an accepted plan too: the rules on lanes, on the queue and on the number of rows. -/
structure RulesKept (s t : State) : Prop where
  lanes : ∀ l, LaneKeeps (s.lane l) (t.lane l)
  queue : queueOk s.link.queue → queueOk t.link.queue
  rows : s.table.length ≤ 20 → t.table.length ≤ 20

theorem RulesKept.trans {s t u : State} (h : RulesKept s t) (h' : RulesKept t u) : RulesKept s u :=
  ⟨fun l => (h.lanes l).trans (h'.lanes l), h'.queue ∘ h.queue, h'.rows ∘ h.rows⟩

theorem Keeps.rulesKept {s t : State} (h : Keeps s t) : RulesKept s t := ⟨h.lanes, h.queue, fun hl => h.rows.symm ▸ hl⟩

theorem RulesKept.of_same {s t : State} (lanes : t.lanes = s.lanes) (queue : t.link.queue = s.link.queue)
    (rows : s.table.length ≤ 20 → t.table.length ≤ 20) : RulesKept s t :=
  ⟨fun l => by rw [State.lane_congr lanes]; exact .refl _, fun h => by rwa [queue], rows⟩

theorem rulesKept_reset (s t : State) (lanes : t.lanes = State.reset.lanes) (link : t.link = Link.reset)
    (table : t.table = State.reset.table) : RulesKept s t := by
  refine ⟨fun l => ?_, fun _ => ?_, fun _ => ?_⟩
  · rw [State.lane_congr lanes, lane_reset]
    exact .of_blank rfl rfl rfl
  · rw [link]
    simp [Link.reset, queueOk, requests]
  · rw [table]
    exact Nat.zero_le 20

theorem rulesKept_endReset (s : State) (pins : BitVec 3) (a : PortAnswer) : RulesKept s (s.endReset pins a) := by
  rw [State.endReset]
  split
  · refine .trans ?_ (keeps_startAttempt _ a).rulesKept
    exact .of_same rfl rfl id
  · exact (Keeps.refl s).rulesKept

theorem rulesKept_acceptPlan (s : State) (p : Plan) (h : p.slots.length ≤ 20) : RulesKept s (s.acceptPlan p) := by
  refine .trans ?_ (keeps_enterJoining _ none).rulesKept
  exact .of_same rfl rfl fun _ => by simpa using h

theorem rulesKept_judgeLoad (s : State) (memory : List Byte) : RulesKept s (s.judgeLoad memory) := by
  simp only [State.judgeLoad]
  split
  · split
    · rename_i p hp
      have hlen := judgeImage_slots_length hp
      obtain ⟨⟨-, h20, -⟩, -⟩ := judgeImage_some hp
      refine .trans ?_ (rulesKept_acceptPlan _ p (hlen ▸ h20))
      exact .of_same rfl rfl id
    · refine .trans ?_ (keeps_enterBarred _ .planBad).rulesKept
      exact .of_same rfl rfl id
  · exact (Keeps.refl s).rulesKept

theorem rulesKept_exec {c : Instr} {s t : State} (h : exec c s = .next t) : RulesKept s t := by
  by_cases hc : Resets c
  · cases c <;> obtain rfl := Host.Outcome.next.inj h
    case powerOnReset => exact rulesKept_reset s _ rfl rfl rfl
    case pinReset => exact rulesKept_reset s _ rfl rfl rfl
    case resetEnd => exact rulesKept_endReset s _ _
    case loadAttemptComplete => exact rulesKept_judgeLoad s _
    all_goals exact hc.elim
  · exact (keeps_exec hc h).rulesKept

theorem pending_startAttempt (s : State) (a : PortAnswer) : (s.startAttempt a).pending = s.pending :=
  (keeps_startAttempt s a).pending

theorem pending_endReset (s : State) (pins : BitVec 3) (a : PortAnswer) : (s.endReset pins a).pending = s.pending := by
  rw [State.endReset]
  split
  · exact pending_startAttempt _ a
  · rfl

theorem pending_judgeLoad (s : State) (memory : List Byte) : (s.judgeLoad memory).pending = s.pending := by
  simp only [State.judgeLoad]
  split
  · split
    · exact (keeps_enterJoining _ none).pending
    · rfl
  · rfl

/-- Every command completes. -/
theorem exec_completes (c : Instr) (s : State) : ∃ t, exec c s = .next t := by
  cases c <;> exact ⟨_, rfl⟩

/-- Settles O3. -/
theorem everyCommandCompletes : Obligations.EveryCommandCompletes := by
  intro c s
  obtain ⟨t, h⟩ := exec_completes c s
  refine ⟨t, h, ?_⟩
  by_cases hc : Resets c
  · cases c <;> obtain rfl := Host.Outcome.next.inj h
    case powerOnReset => rfl
    case pinReset => rfl
    case resetEnd => exact pending_endReset s _ _
    case loadAttemptComplete => exact pending_judgeLoad s _
    all_goals exact hc.elim
  · exact (keeps_exec hc h).pending

/-- Settles O4. -/
theorem planAndNumberStay : Obligations.PlanAndNumberStay := by
  intro c s t h hpower hpin hend hload
  have hc : ¬Resets c := by
    cases c
    case powerOnReset => exact absurd rfl hpower
    case pinReset => exact absurd rfl hpin
    case resetEnd => exact absurd rfl (hend _ _)
    case loadAttemptComplete => exact absurd rfl (hload _)
    all_goals exact id
  have kept := keeps_exec hc h
  exact ⟨kept.plan, kept.number, kept.rows, kept.inReset⟩

/-! ### The passing of a millisecond -/

theorem lane_tick (s : State) (l : LaneId) : s.tick.lane l = (s.lane l).pass := lane_of_map rfl l

theorem peer_tick (s : State) (x : Station) : s.tick.peer x = (s.peer x).pass := by
  simp [State.tick, State.passTime, State.peer]

theorem row_tick (s : State) (k : Nat) : s.tick.row k = s.row k := by
  simp only [State.tick, State.passTime, State.row, List.getElem?_map]
  cases s.table[k]? <;> rfl

theorem loc_tick (s : State) (k : Nat) : s.tick.loc k = (s.loc k).pass := by
  simp only [State.tick, State.passTime, State.loc, List.getElem?_map]
  cases s.table[k]? <;> rfl

theorem rulesKept_tick (s : State) : RulesKept s s.tick := by
  refine ⟨fun l => ?_, id, fun h => ?_⟩
  · rw [lane_tick]
    exact .of_same rfl rfl rfl rfl
  · simpa [State.tick, State.passTime] using h

theorem rulesKept_step {s t : State} (h : step s = .next t) : RulesKept s t := by
  rw [step] at h
  split at h
  · obtain rfl := Host.Outcome.next.inj h
    exact rulesKept_tick s
  · refine RulesKept.trans ?_ (rulesKept_exec h)
    exact .of_same rfl rfl id

/-- Settles O1. -/
theorem stepRunsFrontCommand : Obligations.StepRunsFrontCommand := fun _ _ _ => rfl

/-- Settles O2. -/
theorem idleStepPassesOneMillisecond : Obligations.IdleStepPassesOneMillisecond := by
  intro s hs
  refine ⟨s.tick, by rw [step, hs], row_tick s, rfl, rfl, rfl, rfl, rfl, rfl, rfl, rfl, rfl, rfl, ?_, ?_, ?_, ?_⟩
  · intro x
    rw [peer_tick]
    exact ⟨rfl, rfl⟩
  · intro l
    rw [lane_tick]
    exact ⟨rfl, rfl, rfl, rfl, rfl⟩
  · intro k
    rw [loc_tick]
    exact ⟨rfl, rfl, rfl⟩
  · intro hroll
    have hran : s.passTime.rollTimer = some 0 := by
      rw [State.passTime, hroll]
      rfl
    simp [State.tick, State.expiries, hran, ranOut, emitIf]

/-- Settles O7: the change of every lane at a step keeps the rule. -/
theorem gatesStayInTheirRoles : Obligations.GatesStayInTheirRoles :=
  fun _ _ hs h l => ((rulesKept_step h).lanes l).gate (hs l)

/-- Settles O8. -/
theorem sendQueueKeepsItsRules : Obligations.SendQueueKeepsItsRules := fun _ _ hs h => (rulesKept_step h).queue hs

/-- Settles O9. -/
theorem buffersStayBounded : Obligations.BuffersStayBounded :=
  ⟨fun _ _ hs h l => ((rulesKept_step h).lanes l).bounds (hs l), fun _ _ hs h => (rulesKept_step h).rows hs⟩

/-- Settles O10. -/
theorem resetMeetsTheInvariants : Obligations.ResetMeetsTheInvariants := by
  refine ⟨⟨fun k => ?_, fun j k p hj => ?_⟩, fun l => ?_, ?_, fun l => ?_, Nat.zero_le 20, ?_⟩
  · rw [row_reset]
    trivial
  · rw [row_reset] at hj
    exact absurd hj Bool.false_ne_true
  · rw [lane_reset]
    exact ⟨nofun, nofun⟩
  · simp [State.reset, Link.reset, queueOk, requests]
  · rw [lane_reset]
    exact ⟨Nat.zero_le 32, nofun⟩
  · decide

/-- Settles O15. -/
theorem resetsReturnTheResetValues : Obligations.ResetsReturnTheResetValues := by
  refine fun s => ⟨rfl, rfl, rfl, rfl, rfl, rfl, row_reset, fun l => ?_, fun l => ?_, rfl, rfl, rfl, rfl⟩
  · rw [lane_reset]
    exact ⟨rfl, rfl, rfl, rfl, rfl, rfl, rfl⟩
  · rw [lane_reset]
    exact ⟨rfl, rfl, rfl, rfl⟩

end Sys2Proof.Machine
end

section
/-! # The rows: terms rise and names stay distinct

A change of a row makes it UNKNOWN or raises its term, and it keeps the table's rule on names. Most changes name no pair that the
row did not name before; an accepted BID and an adopted echo name pairs that no other row names (R2, R9, R10, R24). -/

namespace Sys2Proof.Machine

open Sys2Proof.Safety

/-! ### Changes of one row -/

/-- The row stays learnt and its term does not fall. -/
def TermRises (r r' : Row) : Prop := ∀ m, r.term = some m → ∃ n, r'.term = some n ∧ m.toNat ≤ n.toNat

theorem TermRises.refl (r : Row) : TermRises r r := fun m h => ⟨m, h, Nat.le_refl _⟩

theorem TermRises.trans {r r' r'' : Row} (h : TermRises r r') (h' : TermRises r' r'') : TermRises r r'' := by
  intro m hm
  obtain ⟨n, hn, hmn⟩ := h m hm
  obtain ⟨n', hn', hnn'⟩ := h' n hn
  exact ⟨n', hn', hmn.trans hnn'⟩

/-- The row stays learnt, its term does not fall, and it names no new pair. -/
structure Shrinks (r r' : Row) : Prop where
  term : TermRises r r'
  ok : rowOk r → rowOk r'
  names : ∀ p, r'.names p = true → r.names p = true

theorem Shrinks.refl (r : Row) : Shrinks r r := ⟨.refl r, id, fun _ => id⟩

@[simp] theorem names_opened (t : Term) (lc : Option Station) (n : Nat) (p : Pair) : (Row.opened t lc n).names p = false := rfl
@[simp] theorem names_unknown (p : Pair) : Row.unknown.names p = false := rfl
@[simp] theorem names_carried (t : Term) (c : Pair) (sb : Option Pair) (lc : Option Station) (p : Pair) :
    (Row.carried t c sb lc).names p = true ↔ c = p ∨ sb = some p := by
  simp [Row.names, Row.carrier, Row.standby]
@[simp] theorem names_swapping (t : Term) (c sb : Pair) (lc : Option Station) (ph : SwapPhase) (p : Pair) :
    (Row.swapping t c sb lc ph).names p = true ↔ c = p ∨ sb = p := by
  simp [Row.names, Row.carrier, Row.standby]

theorem toNat_next_term {t : Term} (h : t ≠ 0xFFFF#16) : (t + 1#16).toNat = t.toNat + 1 := by
  have hne : t.toNat ≠ 65535 := fun e => h (BitVec.eq_of_toNat_eq e)
  have hlt := t.isLt
  rw [BitVec.toNat_add]
  simp
  omega

theorem termRises_of_some {r r' : Row} {m n : Term} (h : r.term = some m) (h' : r'.term = some n) (hle : m.toNat ≤ n.toNat) :
    TermRises r r' := by
  intro m' hm
  obtain rfl := Option.some.inj (h.symm.trans hm)
  exact ⟨n, h', hle⟩

/-- What a departed carrier leaves to a standby (R14, R27). -/
theorem shrinks_cut (r : Row) (t : Term) (x : Station) (sb : Pair) (hterm : r.term = some t) (hnames : r.names sb = true) :
    Shrinks r (if t = 0xFFFF#16 then .opened t (some x) 0 else .carried (t + 1#16) sb none (some x)) := by
  split
  · exact ⟨termRises_of_some hterm rfl (Nat.le_refl _), fun _ => Nat.zero_le 3, fun _ h => absurd h Bool.false_ne_true⟩
  · rename_i ht
    refine ⟨termRises_of_some hterm rfl ?_, fun _ => nofun, fun p hp => ?_⟩
    · rw [toNat_next_term ht]
      exact Nat.le_succ _
    · obtain rfl | h := (names_carried _ _ _ _ _).1 hp
      · exact hnames
      · cases h

theorem shrinks_carrierLeft (r : Row) : Shrinks r (carrierLeft r) := by
  cases r with
  | unknown => exact .refl _
  | opened => exact .refl _
  | carried t c sb lc =>
    cases sb with
    | none => exact ⟨termRises_of_some rfl rfl (Nat.le_refl _), fun _ => Nat.zero_le 3, fun _ h => absurd h Bool.false_ne_true⟩
    | some sb => exact shrinks_cut _ t c.station sb rfl (by simp)
  | swapping t c sb lc ph => exact shrinks_cut _ t c.station sb rfl (by simp)

theorem shrinks_standbyLeft (r : Row) : Shrinks r (standbyLeft r) := by
  have bare (r : Row) (t : Term) (c : Pair) (lc : Option Station) (hterm : r.term = some t) (hc : r.names c = true) :
      Shrinks r (.carried t c none lc) := by
    refine ⟨termRises_of_some hterm rfl (Nat.le_refl _), fun _ => nofun, fun p hp => ?_⟩
    obtain rfl | h := (names_carried _ _ _ _ _).1 hp
    · exact hc
    · cases h
  cases r with
  | unknown => exact .refl _
  | opened => exact .refl _
  | carried t c sb lc =>
    cases sb with
    | none => exact .refl _
    | some sb => exact bare _ t c lc rfl (by simp)
  | swapping t c sb lc ph => exact bare _ t c lc rfl (by simp)

theorem shrinks_removed (x : Station) (r : Row) : Shrinks r (removed x r) := by
  rw [removed]
  split
  · exact shrinks_carrierLeft r
  · split
    · exact shrinks_standbyLeft r
    · exact .refl r

theorem shrinks_reclaimCounted (r : Row) : Shrinks r (reclaimCounted r) := by
  cases r with
  | opened t lc n =>
    rw [reclaimCounted]
    split
    · rename_i hn
      exact ⟨termRises_of_some rfl rfl (Nat.le_refl _), fun _ => hn, fun _ => id⟩
    · exact .refl _
  | _ => exact .refl _

/-! ### Changes of the table -/

/-- Every row stays learnt, no term falls, and the rule of R2 stays. -/
structure RowsRise (s t : State) : Prop where
  terms : ∀ k, TermRises (s.row k) (t.row k)
  names : tableOk s → tableOk t

/-- As `RowsRise`, but a row may become UNKNOWN. -/
structure RowsStep (s t : State) : Prop where
  terms : ∀ k, t.row k = .unknown ∨ TermRises (s.row k) (t.row k)
  names : tableOk s → tableOk t

theorem RowsRise.trans {s t u : State} (h : RowsRise s t) (h' : RowsRise t u) : RowsRise s u :=
  ⟨fun k => (h.terms k).trans (h'.terms k), h'.names ∘ h.names⟩

theorem RowsRise.step {s t : State} (h : RowsRise s t) : RowsStep s t := ⟨fun k => .inr (h.terms k), h.names⟩

theorem RowsRise.of_shrinks {s t : State} (h : ∀ k, Shrinks (s.row k) (t.row k)) : RowsRise s t :=
  ⟨fun k => (h k).term, fun hs => ⟨fun k => (h k).ok (hs.1 k),
    fun j k p hj hk => hs.2 j k p ((h j).names p hj) ((h k).names p hk)⟩⟩

theorem RowsRise.of_same {s t : State} (h : SameRows s t) : RowsRise s t :=
  .of_shrinks fun k => by rw [h k]; exact .refl _

theorem RowsRise.refl (s : State) : RowsRise s s := .of_same fun _ => rfl

theorem RowsRise.of_skeleton {s t : State} (h : t.skeleton = s.skeleton) : RowsRise s t := .of_same (row_of_skeleton h)

theorem RowsRise.of_table {s t : State} (h : t.table = s.table) : RowsRise s t := .of_same (State.row_congr h)

theorem RowsStep.trans_same {s t u : State} (h : RowsStep s t) (h' : SameRows t u) : RowsStep s u :=
  ⟨fun k => by rw [h' k]; exact h.terms k, fun hs => (RowsRise.of_same h').names (h.names hs)⟩

theorem RowsStep.after {s t u : State} (h' : RowsStep t u) (h : SameRows s t) : RowsStep s u :=
  ⟨fun k => by rw [← h k]; exact h'.terms k, fun hs => h'.names ((RowsRise.of_same h).names hs)⟩

theorem RowsStep.refl (s : State) : RowsStep s s := (RowsRise.refl s).step

/-- All rows become UNKNOWN. -/
theorem RowsStep.of_unknown {s t : State} (h : ∀ k, t.row k = .unknown) : RowsStep s t := by
  refine ⟨fun k => .inl (h k), fun _ => ⟨fun k => ?_, fun j k p hj => ?_⟩⟩
  · rw [h k]
    trivial
  · rw [h j] at hj
    exact absurd hj Bool.false_ne_true

theorem rowsRise_ite {s t u : State} {c : Prop} [Decidable c] (ht : RowsRise s t) (hu : RowsRise s u) :
    RowsRise s (if c then t else u) := by
  split
  · exact ht
  · exact hu

theorem rowsStep_ite {s t u : State} {c : Prop} [Decidable c] (ht : c → RowsStep s t) (hu : ¬c → RowsStep s u) :
    RowsStep s (if c then t else u) := by
  split
  · exact ht ‹_›
  · exact hu ‹_›

theorem rowsRise_foldl {α : Type} (f : State → α → State) (h : ∀ s a, RowsRise s (f s a)) (xs : List α) (s : State) :
    RowsRise s (xs.foldl f s) := by
  induction xs generalizing s with
  | nil => exact .refl s
  | cons x xs ih => exact (h s x).trans (ih _)

/-- One row is written; the pairs it names were its own or are named by no other row. -/
theorem rowsStep_putRow (s : State) (k : Nat) (r : Row) (hterm : r = .unknown ∨ TermRises (s.row k) r)
    (hok : rowOk (s.row k) → rowOk r)
    (hnames : ∀ p, r.names p = true → (s.row k).names p = true ∨ ∀ j, j ≠ k → (s.row j).names p = false) :
    RowsStep s (s.putRow k r) := by
  by_cases hk : k < s.table.length
  · have hself := s.row_putRow_self r hk
    have hne : ∀ {j}, j ≠ k → (s.putRow k r).row j = s.row j := fun hj => s.row_putRow_ne r hj
    constructor
    · intro j
      by_cases hj : j = k
      · subst hj
        rwa [hself]
      · rw [hne hj]
        exact .inr (.refl _)
    · intro hs
      have fresh : ∀ j p, j ≠ k → (s.row j).names p = true → r.names p ≠ true := by
        intro j p hj hnamed hr
        rcases hnames p hr with hold | hnew
        · exact hj (hs.2 j k p hnamed hold)
        · exact Bool.false_ne_true ((hnew j hj).symm.trans hnamed)
      refine ⟨fun j => ?_, fun i j p hi hj => ?_⟩
      · by_cases hj : j = k
        · subst hj
          rw [hself]
          exact hok (hs.1 j)
        · rw [hne hj]
          exact hs.1 j
      · by_cases hik : i = k <;> by_cases hjk : j = k
        · rw [hik, hjk]
        · rw [hik, hself] at hi
          rw [hne hjk] at hj
          exact absurd hi (fresh j p hjk hj)
        · rw [hjk, hself] at hj
          rw [hne hik] at hi
          exact absurd hj (fresh i p hik hi)
        · rw [hne hik] at hi
          rw [hne hjk] at hj
          exact hs.2 i j p hi hj
  · have same : (s.putRow k r).table = s.table := List.set_eq_of_length_le (Nat.le_of_not_lt hk)
    exact (RowsRise.of_table same).step

theorem rowsRise_putRow (s : State) (k : Nat) (r : Row) (hterm : TermRises (s.row k) r)
    (hok : rowOk (s.row k) → rowOk r)
    (hnames : ∀ p, r.names p = true → (s.row k).names p = true ∨ ∀ j, j ≠ k → (s.row j).names p = false) :
    RowsRise s (s.putRow k r) := by
  refine ⟨fun j => ?_, (rowsStep_putRow s k r (.inr hterm) hok hnames).names⟩
  by_cases hj : j = k
  · subst hj
    by_cases hk : j < s.table.length
    · rwa [s.row_putRow_self r hk]
    · intro m hm
      rw [s.row_of_length_le (Nat.le_of_not_lt hk)] at hm
      cases hm
  · rw [s.row_putRow_ne r hj]
    exact .refl _

/-- A row is written that names no new pair. -/
theorem rowsRise_putRow_shrinks (s : State) {k : Nat} {r r' : Row} (hr : s.row k = r) (h : Shrinks r r') :
    RowsRise s (s.putRow k r') :=
  rowsRise_putRow s k r' (hr ▸ h.term) (hr ▸ h.ok) fun p hp => .inl (hr ▸ h.names p hp)

/-! ### Departures -/

theorem rowsRise_carrierLeaves (s : State) (k : Nat) : RowsRise s (s.carrierLeaves k) := by
  refine .of_shrinks fun j => ?_
  by_cases hj : j = k
  · subst hj
    rw [row_carrierLeaves]
    exact shrinks_carrierLeft _
  · rw [row_carrierLeaves_ne s hj]
    exact .refl _

theorem rowsRise_standbyLeaves (s : State) (k : Nat) (d : Bool) : RowsRise s (s.standbyLeaves k d) := by
  refine .of_shrinks fun j => ?_
  by_cases hj : j = k
  · subst hj
    rw [row_standbyLeaves]
    exact shrinks_standbyLeft _
  · rw [row_standbyLeaves_ne s d hj]
    exact .refl _

theorem rowsRise_removeStation (s : State) (x : Station) : RowsRise s (s.removeStation x) := by
  refine .of_shrinks fun k => ?_
  rw [row_removeStation]
  exact shrinks_removed x _

theorem rowsRise_countReclaim (s : State) (k : Nat) : RowsRise s (s.countReclaim k) := by
  refine .of_shrinks fun j => ?_
  by_cases hj : j = k
  · subst hj
    rw [row_countReclaim]
    exact shrinks_reclaimCounted _
  · rw [row_countReclaim_ne s hj]
    exact .refl _

/-! ### Entries into a mode -/

theorem row_map (s : State) {t : State} {f : Entry → Entry} (h : t.table = s.table.map f) (k : Nat) :
    t.row k = match s.table[k]? with | none => .unknown | some e => (f e).row := by
  rw [State.row, h, List.getElem?_map]
  cases s.table[k]? <;> rfl

theorem row_enterJoining (s : State) (cause : Option ResetCause) (k : Nat) : (s.enterJoining cause).row k = .unknown := by
  rw [row_map s (f := fun _ => .unknown) rfl]
  split <;> rfl

theorem row_enterBarred (s : State) (cause : BarredCause) (k : Nat) : (s.enterBarred cause).row k = .unknown := by
  rw [row_map s (f := fun _ => .unknown) rfl]
  split <;> rfl

theorem row_enterMute (s : State) : SameRows s s.enterMute := by
  intro k
  rw [row_map s (f := Entry.stopClaims) rfl, State.row]
  rfl

theorem row_enterIsolated (s : State) : SameRows s s.enterIsolated := by
  intro k
  rw [State.enterIsolated, State.row_congr (table_homeAssignment _), row_map s (f := Entry.stopClaims) rfl, State.row]
  rfl

/-! ### Carriage frames -/

theorem names_of_pairNamed {s : State} {p : Pair} (h : s.pairNamed p = false) (j : Nat) : (s.row j).names p = false :=
  (pairNamed_eq_false_iff s p).1 h j

theorem rowsRise_applyBid (s : State) (x : Station) (l : LaneId) (k : Nat) (ρ : CarriageRole) (t : Term)
    (h : s.acceptsBid x l k ρ t = true) : RowsRise s (s.applyBid x l k ρ t) := by
  cases ρ with
  | carrier =>
    obtain ⟨⟨t', lc, n, hr, ht⟩, -, -, hfree⟩ := (bidAccepted_iff s x l k t).1 h
    rw [State.applyBid.eq_def, hr]
    refine rowsRise_putRow s k _ ?_ (fun _ => nofun) fun p hp => .inr fun j _ => ?_
    · rw [hr]
      exact termRises_of_some rfl rfl (ht ▸ Nat.le_succ _)
    · obtain rfl | hsb := (names_carried _ _ _ _ _).1 hp
      · exact hfree j
      · cases hsb
  | standby =>
    obtain ⟨⟨c, lc, hr, hne⟩, -, -, -, hfree⟩ := (standbyBidAccepted_iff s x l k t).1 h
    rw [State.applyBid.eq_def, hr]
    refine rowsRise_putRow s k _ (hr ▸ .refl _) (fun _ p hp => ?_) fun p hp => ?_
    · obtain rfl := Option.some.inj hp
      exact hne
    · obtain rfl | hsb := (names_carried _ _ _ _ _).1 hp
      · exact .inl (by rw [hr, names_carried]; exact .inl rfl)
      · obtain rfl := Option.some.inj hsb
        exact .inr fun j _ => hfree j

theorem rowsStep_takeBid (s : State) (sender : BitVec 4) (slot role : Byte) (t : Term) (lane : Byte) :
    RowsStep s (s.takeBid sender slot role t lane) := by
  cases hx : s.mayAct sender with
  | none => rw [State.takeBid, hx]; exact .refl s
  | some x =>
    cases hρ : carriageRoleOf role with
    | none => rw [State.takeBid, hx, hρ]; exact .refl s
    | some ρ =>
      cases hl : laneOf lane with
      | none => rw [takeBid_no_lane s sender slot role t hl]; exact .refl s
      | some l =>
        by_cases htb : TakesBids s
        · cases ha : s.acceptsBid x l slot.toNat ρ t with
          | true =>
            exact ((rowsRise_applyBid s x l _ ρ t ha).trans
              (.of_table (t := s.takeBid sender slot role t lane) (table_takeBid_accepted hx hρ hl htb ha))).step
          | false =>
            refine (RowsRise.of_same fun j => row_takeBid_ignored hx hρ htb (fun m hm => ?_) j).step
            obtain rfl := Option.some.inj (hl.symm.trans hm)
            exact ha
        · rw [takeBid_unlearnt hx hρ hl htb]
          exact rowsStep_putRow s _ _ (.inl rfl) (fun _ => trivial) fun p hp => absurd hp Bool.false_ne_true

theorem rowsRise_takeCede (s : State) (sender : BitVec 4) (slot role : Byte) (t : Term) (lane : Byte) (reason : CedeReason) :
    RowsRise s (s.takeCede sender slot role t lane reason) := by
  have left (ok : Bool) (ρ : CarriageRole) (k : Nat) : RowsRise s (if ok = true then
      (match ρ with | .carrier => s.carrierLeaves k | .standby => s.standbyLeaves k true) else s) := by
    cases ρ with
    | carrier => exact rowsRise_ite (rowsRise_carrierLeaves s k) (.refl s)
    | standby => exact rowsRise_ite (rowsRise_standbyLeaves s k true) (.refl s)
  have counted {u : State} (hu : RowsRise s u) (ok : Bool) (fs : Option Nat) :
      RowsRise s (match fs with | some fs => if ok = true then u.countReclaim fs else u | none => u) := by
    cases fs with
    | none => exact hu
    | some fs => exact rowsRise_ite (hu.trans (rowsRise_countReclaim u fs)) hu
  unfold State.takeCede
  split
  · exact rowsRise_ite ((counted (left _ _ _) _ _).trans (.of_skeleton (skeleton_reclaimDone _ _ _ _))) (counted (left _ _ _) _ _)
  · exact .refl s

/-- A swap's next phase names the same pairs at the same term. -/
theorem shrinks_phase (t : Term) (c sb : Pair) (lc : Option Station) (ph ph' : SwapPhase) :
    Shrinks (.swapping t c sb lc ph) (.swapping t c sb lc ph') := ⟨.refl _, id, fun _ => id⟩

theorem shrinks_offered (t : Term) (c sb : Pair) (lc : Option Station) (ph : SwapPhase) :
    Shrinks (.carried t c (some sb) lc) (.swapping t c sb lc ph) :=
  ⟨.refl _, fun h => h sb rfl, fun p hp => by simpa using hp⟩

theorem shrinks_done {t t' : Term} (h : t'.toNat = t.toNat + 1) (c sb : Pair) (lc lc' : Option Station) (ph : SwapPhase) :
    Shrinks (.swapping t c sb lc ph) (.carried t' sb (some c) lc') := by
  refine ⟨termRises_of_some rfl rfl (h ▸ Nat.le_succ _), fun hne p hp => ?_, fun p hp => ?_⟩
  · obtain rfl := Option.some.inj hp
    exact Ne.symm hne
  · rw [names_carried, Option.some.injEq] at hp
    exact (names_swapping _ _ _ _ _ _).2 hp.symm

theorem shrinks_dropped (t : Term) (c sb : Pair) (lc : Option Station) (ph : SwapPhase) (removes : Bool) :
    Shrinks (.swapping t c sb lc ph) (.carried t c (if removes = true then none else some sb) lc) := by
  cases removes with
  | true => exact shrinks_standbyLeft (.swapping t c sb lc ph)
  | false => exact ⟨.refl _, fun hne p hp => Option.some.inj hp ▸ hne, fun p hp => by simpa using hp⟩

theorem rowsRise_takeOffer (s : State) (sender : BitVec 4) (slot : Byte) (t : Term) :
    RowsRise s (s.takeOffer sender slot t) := by
  simp only [State.takeOffer]
  split
  · rename_i hr
    have put := rowsRise_putRow_shrinks s hr (shrinks_offered _ _ _ _ .offered)
    exact rowsRise_ite (rowsRise_ite (put.trans (.of_table rfl)) put) (.refl s)
  · exact .refl s

theorem rowsRise_takeReady (s : State) (sender : BitVec 4) (slot : Byte) (t : Term) :
    RowsRise s (s.takeReady sender slot t) := by
  simp only [State.takeReady]
  split
  · rename_i hr
    have put := rowsRise_putRow_shrinks s hr (shrinks_phase _ _ _ _ _ .ready)
    refine rowsRise_ite ?_ (.refl s)
    split
    · exact rowsRise_ite (put.trans (.of_table rfl)) put
    · exact put
  · exact .refl s

theorem rowsRise_takeGo (s : State) (sender : BitVec 4) (slot : Byte) (t : Term) (dc : Byte) :
    RowsRise s (s.takeGo sender slot t dc) := by
  simp only [State.takeGo]
  split
  · rename_i hr
    have put := rowsRise_putRow_shrinks s hr (shrinks_phase _ _ _ _ _ (.draining false dc.toNat))
    have given (c : Prop) [Decidable c] (l : LaneId) (f : Lane → Lane) :
        RowsRise s (if c then (s.putRow slot.toNat _).modLane l f else _) := rowsRise_ite (put.trans (.of_table rfl)) put
    exact rowsRise_ite (rowsRise_ite ((given _ _ _).trans (.of_skeleton (skeleton_takerGo _ _))) (given _ _ _)) (.refl s)
  · exact .refl s

theorem rowsRise_takeHold (s : State) (sender : BitVec 4) (slot : Byte) (t : Term) (hold : Byte) :
    RowsRise s (s.takeHold sender slot t hold) := by
  have compared (u : State) (k : Nat) : SameRows u (u.forLanes fun l s => if (s.lane l).ctx.isTaker k then s.holdCheck l else s) := by
    refine State.row_congr (table_forLanes _ (fun l s => ?_) u)
    split
    · exact table_holdCheck s l
    · rfl
  rw [State.takeHold]
  have noted : RowsRise s (match s.mayAct sender, s.row slot.toNat, holdOf hold with
      | some x, .swapping t' c sb lc (.draining _ dc), some h =>
        if sb.station = x ∧ t' = t then s.putRow slot.toNat (.swapping t' c sb lc (.draining h dc)) else s
      | _, _, _ => s) := by
    split
    · rename_i hr _
      exact rowsRise_ite (rowsRise_putRow_shrinks s hr (shrinks_phase _ _ _ _ _ _)) (.refl s)
    · exact .refl s
  exact rowsRise_ite (noted.trans (.of_same (compared _ _))) noted

theorem rowsRise_takeDone (s : State) (sender : BitVec 4) (slot : Byte) (t : Term) (lane : Byte) :
    RowsRise s (s.takeDone sender slot t lane) := by
  simp only [State.takeDone]
  split
  · rename_i c _ _ _ _ _ hr
    split
    · rename_i hdone
      obtain ⟨-, hterm, -⟩ := hdone
      have put := rowsRise_putRow_shrinks s hr (shrinks_done hterm _ _ _ (some c.station) _)
      have own (c : Prop) [Decidable c] (l : LaneId) : RowsRise s (if c then
          (s.putRow slot.toNat _).doneCarrier slot.toNat l else _) :=
        rowsRise_ite (put.trans (.of_skeleton (skeleton_doneCarrier _ _ _))) put
      exact rowsRise_ite ((own _ _).trans (.of_skeleton (skeleton_doneStandby _ _ _))) (own _ _)
    · exact .refl s
  · exact .refl s

theorem rowsRise_takeDrop (s : State) (sender : BitVec 4) (slot : Byte) (t : Term) (reason : Byte) :
    RowsRise s (s.takeDrop sender slot t reason) := by
  simp only [State.takeDrop]
  split
  · rename_i c _ _ _ r _ hr _
    have put := (rowsRise_putRow_shrinks s hr (shrinks_dropped _ _ _ _ _ r.removes)).trans
      (.of_skeleton (skeleton_giverKept _ slot.toNat c true true))
    refine rowsRise_ite (rowsRise_ite (rowsRise_ite ?_ ?_) put) (.refl s)
    · exact put.trans (.of_skeleton ((skeleton_withdraw _ _).trans (skeleton_unnamed _ _ _ _)))
    · exact put.trans (.of_skeleton (skeleton_dropStandby _ _ _))
  · exact .refl s

/-! ### Echoes -/

theorem pairNamedElsewhere_eq_false {s : State} {k : Nat} {p : Pair} (h : s.pairNamedElsewhere k p = false) {j : Nat}
    (hj : j ≠ k) : (s.row j).names p = false := by
  by_cases hlt : j < s.table.length
  · rw [State.pairNamedElsewhere, List.any_eq_false] at h
    simpa [hj] using h j (List.mem_range.2 hlt)
  · rw [s.row_of_length_le (Nat.le_of_not_lt hlt)]
    rfl

theorem rowOk_echoRow {dc : Nat} {e : RowRecord} {r : Row} (h : echoRow dc e = some r)
    (hboth : (r.carrier.any fun c => r.standby.any fun sb => sb.station == c.station) = false) : rowOk r := by
  cases r with
  | unknown => trivial
  | opened t lc n =>
    rw [echoRow.eq_def] at h
    split at h
    · split at h
      · rename_i hn
        obtain ⟨-, -, rfl⟩ := Row.opened.inj (Option.some.inj h)
        exact hn
      · cases h
    · split at h <;> cases h
    · split at h
      · obtain ⟨_, -, h⟩ := Option.map_eq_some_iff.1 h
        cases h
      · cases h
    · cases h
  | carried t c sb lc => exact fun p hp => by simpa [Row.carrier, Row.standby, hp] using hboth
  | swapping t c sb lc ph => simpa [Row.carrier, Row.standby, rowOk] using hboth

theorem rowsRise_takeEcho (s : State) (e : RowRecord) : RowsRise s (s.takeEcho e) := by
  simp only [State.takeEcho]
  split
  · exact .refl s
  · rename_i new hnew
    split
    · rename_i hc
      obtain ⟨-, hadopt⟩ := hc
      rw [State.adopts, Bool.and_eq_true, Bool.and_eq_true, Bool.and_eq_true, Bool.not_eq_true', Bool.not_eq_true',
        Bool.not_eq_true'] at hadopt
      obtain ⟨⟨⟨hhigher, hcarrier⟩, hstandby⟩, hboth⟩ := hadopt
      have put : RowsRise s (s.putRow e.slot.toNat new) := by
        refine rowsRise_putRow s _ _ (fun m hm => ?_) (fun _ => rowOk_echoRow hnew hboth) fun p hp => .inr fun j hj => ?_
        · rw [hm] at hhigher
          cases hn : new.term with
          | none => simp [hn] at hhigher
          | some n =>
            refine ⟨n, rfl, ?_⟩
            simp only [hn, Bool.or_eq_true, decide_eq_true_eq, Bool.and_eq_true, beq_iff_eq] at hhigher
            obtain hlt | ⟨rfl, -⟩ := hhigher
            · exact Nat.le_of_lt hlt
            · exact Nat.le_refl _
        · rw [Row.names, Bool.or_eq_true, beq_iff_eq, beq_iff_eq] at hp
          obtain hp | hp := hp
          · rw [hp] at hcarrier
            exact pairNamedElsewhere_eq_false hcarrier hj
          · rw [hp] at hstandby
            exact pairNamedElsewhere_eq_false hstandby hj
      refine put.trans (.of_same fun j => ?_)
      by_cases hj : j = e.slot.toNat
      · subst hj
        by_cases hk : e.slot.toNat < s.table.length
        · rw [row_adoptRow s new hk, s.row_putRow_self new hk]
        · rw [State.row_of_length_le, State.row_of_length_le]
          · rw [length_of_base (base_putRow s _ new)]
            exact Nat.le_of_not_lt hk
          · rw [length_of_base (base_adoptRow s _ new)]
            exact Nat.le_of_not_lt hk
      · rw [row_adoptRow_ne s new hj, s.row_putRow_ne new hj]
    · exact .refl s

theorem rowsRise_takeEchoes (s : State) (es : List RowRecord) : RowsRise s (s.takeEchoes es) := by
  rw [State.takeEchoes.eq_def]
  split
  · exact rowsRise_ite (.refl s) ((rowsRise_takeEcho s _).trans (rowsRise_takeEcho _ _))
  · exact rowsRise_foldl _ rowsRise_takeEcho _ s

theorem rowsRise_takeRoll (s : State) (sender : BitVec 4) (b : RollBody) : RowsRise s (s.takeRoll sender b) := by
  simp only [State.takeRoll]
  split
  · exact .refl s
  · split
    · exact rowsRise_removeStation s _
    · exact rowsRise_removeStation s _
    · exact rowsRise_ite (rowsRise_takeEchoes s _) (.refl s)
    · exact rowsRise_ite (rowsRise_takeEchoes s _) (.refl s)

/-! ### QUIET, directives, queries -/

theorem rowsStep_takeQuiet (s : State) (sender : BitVec 4) (subject roll : Byte) :
    RowsStep s (s.takeQuiet sender subject roll) := by
  simp only [State.takeQuiet]
  split
  · refine rowsStep_ite (fun _ => rowsStep_ite (fun _ => ?_) fun _ => .refl s) fun _ =>
      rowsStep_ite (fun _ => ?_) fun _ => .refl s
    · exact .of_unknown (row_enterJoining s _)
    · refine (RowsRise.trans ?_ (rowsRise_removeStation _ _)).step
      exact .of_table rfl
  · exact .refl s

theorem skeleton_yieldRole (s : State) (k : Nat) (role : CarriageRole) (l : LaneId) :
    (s.yieldRole k role l).1.skeleton = s.skeleton := by
  simp only [State.yieldRole]
  repeat' split
  all_goals simp

theorem skeleton_directClear (s : State) (a : Byte) : (s.directClear a).1.skeleton = s.skeleton := by
  simp only [State.directClear]
  split <;> simp

theorem skeleton_directYield (s : State) (a : Byte) : (s.directYield a).1.skeleton = s.skeleton := by
  simp only [State.directYield]
  repeat' split
  all_goals simp [skeleton_yieldRole]

theorem skeleton_directSwap (s : State) (a : Byte) : (s.directSwap a).1.skeleton = s.skeleton := by
  simp only [State.directSwap]
  repeat' split
  all_goals simp

theorem skeleton_directResume (s : State) : s.directResume.1.skeleton = s.skeleton := by
  simp only [State.directResume]
  split
  · dsimp only
    exact skeleton_enterJoined s
  · rfl

theorem skeleton_judge (s : State) (action a : Byte) : (s.judge action a).1.skeleton = s.skeleton := by
  rw [State.judge]
  repeat' split
  · exact skeleton_directClear s a
  · rfl
  · exact skeleton_directYield s a
  · rfl
  · exact skeleton_directSwap s a
  · rfl
  · exact skeleton_enterResting s
  · rfl
  · exact skeleton_directResume s
  · rfl
  · rfl

theorem row_takeDirective (s : State) (target action a : Byte) : SameRows s (s.takeDirective target action a) := by
  intro k
  rw [State.takeDirective]
  split
  · exact row_of_skeleton (skeleton_judge s action a) k
  · rfl

theorem row_takeQuery (s : State) (target kind index : Byte) : SameRows s (s.takeQuery target kind index) := by
  intro k
  rw [State.takeQuery]
  split <;> rfl

theorem rowsStep_actOn (s : State) (sender : BitVec 4) (f : Frame) : RowsStep s (s.actOn sender f) := by
  cases f with
  | quiet subject roll => exact rowsStep_takeQuiet s _ _ _
  | cede slot role term lane reason => exact (rowsRise_takeCede s _ _ _ _ _ _).step
  | swapDrop slot term reason => exact (rowsRise_takeDrop s _ _ _ _).step
  | swapDone slot newTerm lane => exact (rowsRise_takeDone s _ _ _ _).step
  | swapGo slot term dc => exact (rowsRise_takeGo s _ _ _ _).step
  | swapHold slot term hold => exact (rowsRise_takeHold s _ _ _ _).step
  | swapReady slot term => exact (rowsRise_takeReady s _ _ _).step
  | swapOffer slot term => exact (rowsRise_takeOffer s _ _ _).step
  | bid slot role term lane margin => exact rowsStep_takeBid s _ _ _ _ _
  | directive target action argument => exact (RowsRise.of_same (row_takeDirective s _ _ _)).step
  | query target kind index => exact (RowsRise.of_same (row_takeQuery s _ _ _)).step
  | report body => exact .refl s
  | roll b => exact (rowsRise_takeRoll s _ _).step

/-! ### The link's events -/

theorem rowsRise_applyOwnRoll (s : State) (b : RollBody) : RowsRise s (s.applyOwnRoll b) := by
  have noted : RowsRise s (s.noteOwnRoll b) := .of_table rfl
  have left : RowsRise s (if b.mode = .joining ∧ s.mode.appliesFrames = true then
      (s.noteOwnRoll b).removeStation s.number else s.noteOwnRoll b) :=
    rowsRise_ite (noted.trans (rowsRise_removeStation _ _)) noted
  refine rowsRise_ite (left.trans (.of_skeleton ?_)) left
  exact skeleton_foldl _ (fun s k => skeleton_setLoc s k _) _ _

/-- The station as a foreign frame finds it (R145, R150). -/
def State.heard (s : State) : State := s.markSeen.framesFallDue

/-- The station as an own frame that is applied finds it: the frame has left the line (R146). -/
def State.ownDone (s : State) (seen : Bool) : State :=
  State.framesFallDue { s with link := { s.link.leaveLine with spoil := 0, unseen := if seen then 0 else s.link.unseen } }

/-- What an own frame does (R8). -/
def State.applyOwn (s : State) (f : Frame) : State :=
  match f with
  | .roll b => s.applyOwnRoll b
  | _ => if s.mode.appliesFrames then s.actOn s.sender f else s

theorem ownApplied_eq (s : State) (seen : Bool) (f : Frame) :
    s.ownApplied seen f = ((s.ownDone seen).applyOwn f).settle true := by
  cases f <;> rfl

theorem foreignCompleted_eq (s : State) (sender : BitVec 4) (f : Frame) (h : s.mode ≠ .isolated) :
    s.foreignCompleted sender f = ((s.heard.actOn sender f).directoryTake sender f).settle true := if_neg h

theorem rowsStep_foreignCompleted (s : State) (sender : BitVec 4) (f : Frame) :
    RowsStep s (s.foreignCompleted sender f) := by
  by_cases hm : s.mode = .isolated
  · rw [State.foreignCompleted]
    exact (if_pos hm : ite _ _ _ = _) ▸ .of_unknown (row_enterJoining _ _)
  · rw [foreignCompleted_eq s sender f hm]
    have acted : RowsStep s (s.heard.actOn sender f) := .after (rowsStep_actOn s.heard sender f) fun _ => rfl
    exact (acted.trans_same (State.row_congr (table_directoryTake _ _ _))).trans_same (row_settle _ true)

theorem rowsStep_applyOwn (s : State) (f : Frame) : RowsStep s (s.applyOwn f) := by
  cases f with
  | roll b => exact (rowsRise_applyOwnRoll s b).step
  | _ => exact rowsStep_ite (fun _ => rowsStep_actOn s _ _) fun _ => .refl s

theorem rowsStep_ownApplied (s : State) (seen : Bool) (f : Frame) : RowsStep s (s.ownApplied seen f) := by
  rw [ownApplied_eq]
  exact RowsStep.trans_same (.after (rowsStep_applyOwn (s.ownDone seen) f) fun _ => rfl) (row_settle _ true)

theorem row_ownVoid (s : State) : SameRows s s.ownVoid := by
  intro k
  simp only [State.ownVoid]
  split
  · rfl
  · split
    · rfl
    · split
      · exact row_enterIsolated _ k
      · rw [row_settle, row_of_skeleton (skeleton_resendVoid _ _)]
        rfl

theorem rowsStep_ownCompleted (s : State) (seen : Bool) (f : Frame) : RowsStep s (s.ownCompleted seen f) :=
  rowsStep_ite (fun _ => rowsStep_ownApplied s seen f) fun _ => (RowsRise.of_same (row_ownVoid s)).step

theorem rowsStep_ownNumberHeard (s : State) (fresh : Bool) : RowsStep s (s.ownNumberHeard fresh) :=
  rowsStep_ite (fun _ => .of_unknown (row_enterBarred _ _)) fun _ => .refl s

theorem rowsStep_completeFrame (s : State) (rx : Rx) (f : Frame) : RowsStep s (s.completeFrame rx f) :=
  rowsStep_ite
    (fun _ => rowsStep_ite (fun _ => rowsStep_ownCompleted s _ _) fun _ => rowsStep_ownNumberHeard s _)
    fun _ => rowsStep_ite (fun _ => rowsStep_foreignCompleted s _ _) fun _ => .refl s

theorem row_checkFailed (s : State) (raw : RawFrame) : SameRows s (s.checkFailed raw) := by
  intro k
  simp only [State.checkFailed]
  split
  · exact row_enterIsolated _ k
  · rfl

theorem rowsStep_rawFrame (s : State) (raw : RawFrame) : RowsStep s (s.rawFrame raw) := by
  refine rowsStep_ite (fun _ => ?_) fun _ => .refl s
  split
  · exact (RowsRise.of_same (row_checkFailed s raw)).step
  · exact rowsStep_completeFrame s _ _

theorem rowsStep_spoiledFrame (s : State) (sender : BitVec 4) (fresh : Bool) : RowsStep s (s.spoiledFrame sender fresh) :=
  rowsStep_ite (fun _ => rowsStep_ownNumberHeard s _) fun _ => rowsStep_ite
    (fun _ => rowsStep_ite (fun _ => .of_unknown (row_enterJoining _ _)) fun _ => RowsRise.step (.of_table rfl)) fun _ => .refl s

theorem row_ownSpoiled (s : State) : SameRows s s.ownSpoiled := by
  intro k
  simp only [State.ownSpoiled]
  split
  · rfl
  · split
    · exact row_enterMute _ k
    · rfl

theorem row_startSending (s : State) (rivals : List Byte) : SameRows s (s.startSending rivals) := by
  intro k
  simp only [State.startSending]
  repeat' split
  all_goals rfl

theorem rowsStep_sendMismatch (s : State) : RowsStep s s.sendMismatch :=
  rowsStep_ite (fun _ => .of_unknown (row_enterBarred _ _)) fun _ => .refl s

/-! ### Packets and windows -/

@[simp] theorem table_sendOver (s : State) (f : Frame) : (s.sendOver f).table = s.table := table_holdsAgain _

@[simp] theorem table_openTaker (s : State) (l : LaneId) (k : Nat) (t : Term) : (s.openTaker l k t).table = s.table :=
  table_sendOver _ _

@[simp] theorem table_judgeTaker (s : State) (l : LaneId) (a b c : Bool) : (s.judgeTaker l a b c).table = s.table := by
  simp only [State.judgeTaker]
  repeat' split
  · rfl
  · rfl
  · rfl
  · rfl
  · exact table_openTaker s l _ _
  · exact table_holdCheck s l
  · rfl
  · rfl

@[simp] theorem table_traceArrival (s : State) (l : LaneId) (e : TraceEntry) : (s.traceArrival l e).table = s.table := by
  simp only [State.traceArrival]
  repeat' split
  · rfl
  · rfl
  · exact table_judgeTaker _ _ _ _ _

@[simp] theorem table_countPlaced (s : State) (d : Driven) : (s.countPlaced d).table = s.table := by
  simp only [State.countPlaced]
  repeat' split
  all_goals simp [State.setCtx]

@[simp] theorem table_markClash (s : State) (d : Driven) : (s.markClash d).table = s.table := by
  simp only [State.markClash]
  split
  · exact table_homeAssignment _
  · rfl

@[simp] theorem table_placed (s : State) (d : Driven) (w : WindowLines) : (s.placed d w).table = s.table := by
  simp only [State.placed]
  split <;> simp

@[simp] theorem table_readWindow (s : State) (n : Nat) (r : LaneId × Nat) (bytes : List Byte) (valid last : Bool) :
    (s.readWindow n r bytes valid last).table = s.table := by
  simp only [State.readWindow]
  split <;> simp

@[simp] theorem table_windowEnds (s : State) (w : WindowLines) : (s.windowEnds w).table = s.table := by
  simp only [State.windowEnds]
  split
  · cases s.bp.driven <;> cases s.bp.reader <;> simp
  · rfl

@[simp] theorem table_startWindow (s : State) (n : Nat) : (s.startWindow n).table = s.table := by
  simp only [State.startWindow]
  repeat' split
  all_goals rfl

@[simp] theorem table_windowStarts (s : State) (mark : Bool) : (s.windowStarts mark).table = s.table := by
  rw [State.windowStarts]
  repeat' split
  all_goals simp

@[simp] theorem table_cutShort (s : State) : s.cutShort.table = s.table := by
  rw [State.cutShort]
  split <;> simp

/-! ### Timers and the loader -/

theorem row_staleExpired (s : State) (x : Station) : SameRows s (s.staleExpired x) := by
  intro k
  simp only [State.staleExpired]
  repeat' split
  · rfl
  · exact row_settle _ false k
  · exact row_settle _ false k
  · rfl

theorem rowsRise_openUnknown (k : Nat) (s : State) : RowsRise s (State.openUnknown k s) := by
  rw [State.openUnknown]
  split
  · rename_i hk
    refine rowsRise_putRow s k _ (fun m hm => ?_) (fun _ => Nat.zero_le 3) fun p hp => absurd hp Bool.false_ne_true
    cases hr : s.row k <;> simp [hr, Row.isUnknown, Row.term] at hk hm
  · exact .refl s

theorem rowsRise_joinQuietExpired (s : State) : RowsRise s s.joinQuietExpired := by
  refine rowsRise_ite ?_ (.refl s)
  refine RowsRise.trans ?_ (.of_same (row_settle _ false))
  refine RowsRise.trans ?_ (rowsRise_foldl _ (fun s k => rowsRise_openUnknown k s) _ _)
  exact .of_table rfl

theorem rowsStep_attemptFails (s : State) (pulses : Nat) (port : List PortLines) : RowsStep s (s.attemptFails pulses port) :=
  rowsStep_ite (fun _ => RowsRise.step (.of_table rfl)) fun _ => .of_unknown (row_enterBarred _ _)

theorem rowsStep_startAttempt (s : State) (a : PortAnswer) : RowsStep s (s.startAttempt a) :=
  rowsStep_ite (fun _ => RowsRise.step (.of_table rfl)) fun _ => .after (rowsStep_attemptFails _ _ _) fun _ => rfl

theorem rowsStep_endReset (s : State) (pins : BitVec 3) (a : PortAnswer) : RowsStep s (s.endReset pins a) :=
  rowsStep_ite (fun _ => .after (rowsStep_startAttempt _ a) fun _ => rfl) fun _ => .refl s

theorem rowsStep_judgeLoad (s : State) (memory : List Byte) : RowsStep s (s.judgeLoad memory) := by
  refine rowsStep_ite (fun _ => ?_) fun _ => .refl s
  dsimp only
  split
  · exact .of_unknown (row_enterJoining _ _)
  · exact .of_unknown (row_enterBarred _ _)

/-! ### Every command -/

theorem rowsStep_exec {c : Instr} {s t : State} (h : exec c s = .next t) : RowsStep s t := by
  have table {u : State} (h : u.table = s.table) : RowsStep s u := (RowsRise.of_table h).step
  have same {u : State} (h : SameRows s u) : RowsStep s u := (RowsRise.of_same h).step
  have skel {u : State} (h : u.skeleton = s.skeleton) : RowsStep s u := (RowsRise.of_skeleton h).step
  cases c <;> obtain rfl := Host.Outcome.next.inj h
  case powerOnReset | pinReset => exact .of_unknown fun k => State.row_of_length_le _ (Nat.zero_le k)
  case resetEnd => exact rowsStep_endReset s _ _
  case clockHoldTimeout | loadNoAnswer => exact rowsStep_ite (fun _ => rowsStep_attemptFails s _ _) fun _ => .refl s
  case loadRetryWaitExpiry => exact rowsStep_ite (fun _ => rowsStep_startAttempt s _) fun _ => .refl s
  case loadAttemptComplete => exact rowsStep_judgeLoad s _
  case frameSendStart => exact same (row_startSending s _)
  case duplicateSendMismatch => exact rowsStep_sendMismatch s
  case frameOwnNumberReceived => exact rowsStep_ownNumberHeard s _
  case frameCheckFailed => exact rowsStep_rawFrame s _
  case frameSpoiled => exact rowsStep_spoiledFrame s _ _
  case ownFrameSpoiled => exact same (row_ownSpoiled s)
  case ownFrameVoid => exact same (row_ownVoid s)
  case spoilStreakLimit => exact rowsStep_ite (fun _ => same (row_ownSpoiled s)) fun _ => .refl s
  case unseenStreakLimit => exact rowsStep_ite (fun _ => same (row_ownVoid s)) fun _ => .refl s
  case badReceiveStreakLimit => exact rowsStep_ite (fun _ => rowsStep_rawFrame s _) fun _ => .refl s
  case rollTimerExpiry => exact skel (skeleton_rollExpired s)
  case staleTimerExpiry => exact same (row_staleExpired s _)
  case joinQuietExpiry => exact (rowsRise_joinQuietExpired s).step
  case muteRestExpiry => exact rowsStep_ite (fun _ => .of_unknown (row_enterJoining s _)) fun _ => .refl s
  case bidClockDue => exact skel (skeleton_bidDue s _)
  case standbyBidClockDue => exact skel (skeleton_standbyBidDue s _)
  case reclaimWaitExpiry => exact skel (skeleton_reclaimExpired s _)
  case alignTimerExpiry => exact skel (skeleton_alignExpired s _)
  case tuneTimeEnd => exact skel (skeleton_tuneEnd s _)
  case guardDetected => exact skel (skeleton_guard s _)
  case stageWindowExpiry => exact skel (skeleton_stageExpired s _ _)
  case qualityPeriodClose => exact skel (skeleton_periodClose s _ _)
  case acq3SyncLock => exact rowsStep_ite (fun _ => skel (skeleton_acq3Lock s _ _)) fun _ => .refl s
  case holdoverReturn => exact rowsStep_ite (fun _ => skel (skeleton_holdoverBack s _ _)) fun _ => .refl s
  case syncMissLimit => exact rowsStep_ite (fun _ => skel (skeleton_miss s _ _)) fun _ => .refl s
  case holdoverWindowExpiry => exact skel (skeleton_holdoverExpired s _)
  case retryLimitSpent => exact skel (skeleton_spendLoss s _)
  case retryPeriodEnd => exact skel (skeleton_retryEnd s _)
  case lockClock60s => exact skel (skeleton_lockMinute s _)
  case steadyRunComplete | qualityTrigger | clashStreakLimit =>
    exact rowsStep_ite (fun _ => skel (skeleton_periodClose s _ _)) fun _ => .refl s
  case overrunLimit => exact rowsStep_ite (fun _ => table (table_windowEnds s _)) fun _ => .refl s
  case drainCountdownEnd =>
    exact rowsStep_ite (fun _ => table ((table_windowEnds _ _).trans (table_windowStarts s _))) fun _ => .refl s
  case packetArrival => exact skel (skeleton_packetArrives s _ _ _ _)
  case windowStart => exact table (table_windowStarts s _)
  case windowEnd => exact table (table_windowEnds s _)
  case cycleCutShort => exact table (table_cutShort s)
  case syncHit => exact skel (skeleton_hit s _ _)
  case syncMiss => exact skel (skeleton_miss s _ _)
  all_goals exact rowsStep_completeFrame s _ _

/-- Settles O5: a row that stays learnt has risen. -/
theorem termsNeverFall : Obligations.TermsNeverFall := by
  intro c s t k m n h hm hn
  rcases (rowsStep_exec h).terms k with hu | hrises
  · rw [hu] at hn
    cases hn
  · obtain ⟨n', hn', hle⟩ := hrises m hm
    obtain rfl := Option.some.inj (hn.symm.trans hn')
    exact hle

theorem rowsStep_step {s t : State} (h : step s = .next t) : RowsStep s t := by
  rw [step] at h
  split at h
  · obtain rfl := Host.Outcome.next.inj h
    exact (RowsRise.of_same (row_tick s)).step
  · exact .after (rowsStep_exec h) fun _ => rfl

/-- Settles O6. -/
theorem tableNamesStayDistinct : Obligations.TableNamesStayDistinct := fun _ _ hs h => (rowsStep_step h).names hs

end Sys2Proof.Machine
end

section
/-! # Frames as bytes -/

namespace Sys2Proof.Machine

open Sys2Proof.Safety

/-! ### The parts of a body -/

theorem wordOf_wordBytes (w : Word16) : ∃ hi lo, wordBytes w = [hi, lo] ∧ wordOf hi lo = w := by
  refine ⟨_, _, rfl, ?_⟩
  rw [wordOf]
  ext i hi
  simp only [BitVec.getElem_append, BitVec.getElem_extractLsb']
  split
  · simp [BitVec.getLsbD_eq_getElem hi]
  · simp [show 8 + (i - 8) = i by omega, BitVec.getLsbD_eq_getElem hi]

theorem takeIf_toList (o : Option Byte) (rest : List Byte) : takeIf o.isSome (o.toList ++ rest) = some (o, rest) := by
  cases o <;> rfl

/-- Term and reclaims of a row record as bytes (R205). -/
def termReclaimsBytes : Option (Term × Byte) → List Byte
  | none => []
  | some (t, n) => wordBytes t ++ [n]

theorem takeTermIf_bytes (o : Option (Term × Byte)) (rest : List Byte) :
    takeTermIf o.isSome (termReclaimsBytes o ++ rest) = some (o, rest) := by
  cases o with
  | none => rfl
  | some p =>
    obtain ⟨t, n⟩ := p
    obtain ⟨hi, lo, hbytes, hword⟩ := wordOf_wordBytes t
    simp [termReclaimsBytes, hbytes, takeTermIf, hword]

theorem rowRecord_bytes_eq (r : RowRecord) : RowRecord.bytes r =
    [r.slot, RowCode.byte r.state, RowRecord.presence r] ++ termReclaimsBytes r.termReclaims ++ r.carrier.toList
      ++ r.standby.toList ++ r.lastCarrier.toList ++ r.phaseHold.toList ++ r.drainCount.toList := rfl

/-- A word that may be absent, as bytes. -/
def wordIfBytes : Option Word16 → List Byte
  | none => []
  | some d => wordBytes d

theorem takeWordIf_bytes (o : Option Word16) (rest : List Byte) :
    takeWordIf o.isSome (wordIfBytes o ++ rest) = some (o, rest) := by
  cases o with
  | none => rfl
  | some d =>
    obtain ⟨hi, lo, hbytes, hword⟩ := wordOf_wordBytes d
    simp [wordIfBytes, hbytes, takeWordIf, hword]

theorem byteOfBits_getLsbD : ∀ b0 b1 b2 b3 b4 b5 : Bool,
    (byteOfBits b0 b1 b2 b3 b4 b5).getLsbD 0 = b0 ∧ (byteOfBits b0 b1 b2 b3 b4 b5).getLsbD 1 = b1
      ∧ (byteOfBits b0 b1 b2 b3 b4 b5).getLsbD 2 = b2 ∧ (byteOfBits b0 b1 b2 b3 b4 b5).getLsbD 3 = b3
      ∧ (byteOfBits b0 b1 b2 b3 b4 b5).getLsbD 4 = b4 ∧ (byteOfBits b0 b1 b2 b3 b4 b5).getLsbD 5 = b5
      ∧ (byteOfBits b0 b1 b2 b3 b4 b5).getLsbD 6 = false ∧ (byteOfBits b0 b1 b2 b3 b4 b5).getLsbD 7 = false := by
  decide

theorem rowCodeOf_byte (c : RowCode) : rowCodeOf (RowCode.byte c) = some c := by cases c <;> rfl
theorem rollModeOf_byte (m : RollMode) : rollModeOf (RollMode.byte m) = some m := by cases m <;> rfl
theorem reasonOf_bytes (r : CedeReason) : reasonOf (reasonBytes r) = some r := by cases r <;> rfl

/-- A row record is read back from the front of any bytes (R205). -/
theorem rowRecordOf_bytes (r : RowRecord) (hr : r.wf = true) (rest : List Byte) :
    rowRecordOf (RowRecord.bytes r ++ rest) = some (r, rest) := by
  obtain ⟨h0, h1, h2, h3, h4, h5, h6, h7⟩ := byteOfBits_getLsbD r.termReclaims.isSome r.carrier.isSome r.standby.isSome
    r.lastCarrier.isSome r.phaseHold.isSome r.drainCount.isSome
  simp only [rowRecord_bytes_eq, List.append_assoc, List.cons_append, List.nil_append, rowRecordOf, RowRecord.presence, h0, h1, h2,
    h3, h4, h5, h6, h7, rowCodeOf_byte, takeTermIf_bytes, takeIf_toList, Bool.or_self, Bool.false_eq_true, if_false]
  exact if_pos hr

theorem rowRecordsOf_bytes (rs : List RowRecord) (h : ∀ r ∈ rs, r.wf = true) :
    rowRecordsOf rs.length (rs.map RowRecord.bytes).flatten = some rs := by
  induction rs with
  | nil => rfl
  | cons r rs ih =>
    obtain ⟨hr, hrs⟩ := List.forall_mem_cons.1 h
    rw [List.map_cons, List.flatten_cons, List.length_cons, rowRecordsOf, rowRecordOf_bytes r hr]
    simp only [ih hrs, Option.map_some]

theorem summaries_eq (v : Vector LaneSummary 4) : #v[v[0], v[1], v[2], v[3]] = v := by
  ext i hi
  interval_cases i <;> rfl

/-- Lane summaries that may be absent, as bytes. -/
def summariesIfBytes : Option (Vector LaneSummary 4) → List Byte
  | none => []
  | some v => summariesBytes v

theorem summariesIf_bytes (o : Option (Vector LaneSummary 4)) : summariesIf o.isSome (summariesIfBytes o) = some o := by
  cases o with
  | none => rfl
  | some v => exact congrArg (fun v => some (some v)) (summaries_eq v)

theorem peer_bytes_eq (st stale : Byte) (mode roll : Option Byte) (dg : Option Word16) (lanes : Option (Vector LaneSummary 4)) :
    RecordBody.bytes (.peer st stale mode roll dg lanes) =
      [st, byteOfBits mode.isSome roll.isSome dg.isSome lanes.isSome false false, stale] ++ mode.toList ++ roll.toList
        ++ wordIfBytes dg ++ summariesIfBytes lanes := rfl

theorem length_echoes {b : RollBody} (h : b.countWf = true) : b.echoes.length ≤ 2 := by
  rw [RollBody.countWf] at h
  split at h
  · exact (Nat.le_of_eq (beq_iff_eq.1 h)).trans (by decide)
  · exact (Nat.le_of_eq (beq_iff_eq.1 h)).trans (by decide)
  · rw [Bool.or_eq_true, beq_iff_eq, beq_iff_eq] at h
    omega
  · rw [Bool.or_eq_true, beq_iff_eq, beq_iff_eq] at h
    omega

theorem rollOf_body (b : RollBody) (hb : b.wf = true) : rollOf (Frame.body (.roll b)) = some b := by
  rw [RollBody.wf, Bool.and_eq_true, List.all_eq_true] at hb
  obtain ⟨hcount, hechoes⟩ := hb
  obtain ⟨hi, lo, hbytes, hword⟩ := wordOf_wordBytes b.digest
  have hlen : b.echoes.length < 256 := (length_echoes hcount).trans_lt (by decide)
  simp only [Frame.body, summariesBytes, summaryBytes, hbytes, List.cons_append, List.nil_append, rollOf, rollModeOf_byte,
    BitVec.toNat_ofNat, Nat.mod_eq_of_lt hlen, rowRecordsOf_bytes b.echoes hechoes, hword]
  rw [show (#v[b.lanes[0], b.lanes[1], b.lanes[2], b.lanes[3]] : Vector LaneSummary 4) = b.lanes from summaries_eq b.lanes]
  exact if_pos hcount

theorem recordOf_bytes (r : RecordBody) (h : ∀ row, r = .row row → row.wf = true) :
    recordOf (RecordBody.kind r) (RecordBody.bytes r) = some r := by
  cases r with
  | station m b r n sp un bad al pn dg =>
    obtain ⟨hi, lo, hbytes, hword⟩ := wordOf_wordBytes pn
    obtain ⟨hi', lo', hbytes', hword'⟩ := wordOf_wordBytes dg
    simp [recordOf, RecordBody.kind, RecordBody.bytes, hbytes, hbytes', hword, hword']
  | lane st ro sl inp se ma res re sy ga oc al =>
    obtain ⟨hi, lo, hbytes, hword⟩ := wordOf_wordBytes res
    simp [recordOf, RecordBody.kind, RecordBody.bytes, hbytes, hword]
  | row r =>
    have hr := rowRecordOf_bytes r (h r rfl) []
    rw [List.append_nil] at hr
    simp [recordOf, RecordBody.kind, RecordBody.bytes, hr]
  | peer st stale mode roll dg lanes =>
    obtain ⟨h0, h1, h2, h3, h4, h5, h6, h7⟩ := byteOfBits_getLsbD mode.isSome roll.isSome dg.isSome lanes.isSome false false
    have body : peerBodyOf (RecordBody.bytes (.peer st stale mode roll dg lanes)) = some (.peer st stale mode roll dg lanes) := by
      simp only [peer_bytes_eq, List.append_assoc, List.cons_append, List.nil_append, peerBodyOf, h0, h1, h2, h3, h4, h5, h6,
        h7, takeIf_toList, takeWordIf_bytes, summariesIf_bytes, Bool.or_self, Bool.false_eq_true, if_false, Option.map_some]
    exact body
  | plan f2 f1 f0 fl rk ou ho ma => rfl

theorem reportOf_body (b : ReportBody) (hb : b.wf = true) : reportOf (Frame.body (.report b)) = some b := by
  have hrecord : recordOf (RecordBody.kind b.record) (RecordBody.bytes b.record) = some b.record := by
    refine recordOf_bytes _ fun row hrow => ?_
    rwa [ReportBody.wf, hrow] at hb
  have hflag : (BitVec.ofNat 8 b.refused.toNat).getLsbD 0 = b.refused := by cases b.refused <;> rfl
  simp only [Frame.body, List.cons_append, List.nil_append, reportOf, hrecord, Option.map_some, hflag]

/-- A kind code and a body spell the frame they are of. -/
theorem frameOf_body (f : Frame) (hf : f.wf = true) : frameOf (Frame.code f) (Frame.body f) = some f := by
  have term (t : Term) := wordOf_wordBytes t
  cases f with
  | quiet => rfl
  | cede slot role t lane reason =>
    obtain ⟨hi, lo, hbytes, hword⟩ := term t
    simp [Frame.code, Frame.body, hbytes, frameOf, hword, reasonOf_bytes]
  | swapDrop slot t x | swapDone slot t x | swapGo slot t x | swapHold slot t x | swapReady slot t | swapOffer slot t
  | bid slot role t lane x =>
    obtain ⟨hi, lo, hbytes, hword⟩ := term t
    simp [Frame.code, Frame.body, hbytes, frameOf, hword]
  | directive => rfl
  | query => rfl
  | report b => exact congrArg (Option.map Frame.report) (reportOf_body b hf)
  | roll b => exact congrArg (Option.map Frame.roll) (rollOf_body b hf)

/-! ### The length -/

theorem length_wordBytes (w : Word16) : (wordBytes w).length = 2 := rfl

theorem length_toList_le (o : Option Byte) : o.toList.length ≤ 1 := by cases o <;> simp

theorem length_rowRecord (r : RowRecord) : (RowRecord.bytes r).length ≤ 11 := by
  have h1 := length_toList_le r.carrier
  have h2 := length_toList_le r.standby
  have h3 := length_toList_le r.lastCarrier
  have h4 := length_toList_le r.phaseHold
  have h5 := length_toList_le r.drainCount
  rw [rowRecord_bytes_eq]
  cases r.termReclaims <;> simp [termReclaimsBytes, length_wordBytes] <;> omega

theorem length_rowRecords (rs : List RowRecord) : ((rs.map RowRecord.bytes).flatten).length ≤ 11 * rs.length := by
  induction rs with
  | nil => simp
  | cons r rs ih =>
    have := length_rowRecord r
    rw [List.map_cons, List.flatten_cons, List.length_append, List.length_cons]
    omega

theorem length_recordBody (r : RecordBody) : (RecordBody.bytes r).length ≤ 25 := by
  cases r with
  | row r => exact (length_rowRecord r).trans (by omega)
  | peer st stale mode roll dg lanes =>
    have h1 := length_toList_le mode
    have h2 := length_toList_le roll
    rw [peer_bytes_eq]
    cases dg <;> cases lanes <;> simp [wordIfBytes, summariesIfBytes, length_wordBytes, summariesBytes, summaryBytes] <;> omega
  | _ => simp [RecordBody.bytes, length_wordBytes]

theorem length_body (f : Frame) (hf : f.wf = true) : (Frame.body f).length < 256 := by
  cases f with
  | report b =>
    have := length_recordBody b.record
    simp [Frame.body]
    omega
  | roll b =>
    have hrecords := length_rowRecords b.echoes
    rw [Frame.wf, RollBody.wf, Bool.and_eq_true] at hf
    have hcount := length_echoes hf.1
    simp only [Frame.body, summariesBytes, summaryBytes, List.length_append, List.length_cons, List.length_nil, length_wordBytes]
    omega
  | cede slot role t lane reason => cases reason <;> simp [Frame.body, length_wordBytes, reasonBytes]
  | _ => simp [Frame.body, length_wordBytes]

/-! ### The header -/

theorem toNat_headerByte (a : BitVec 4) {c : Nat} (hc : c < 16) : (headerByte a c).toNat = 16 * c + a.toNat := by
  rw [headerByte, BitVec.toNat_append, BitVec.toNat_ofNat, Nat.mod_eq_of_lt (by omega), ← Nat.shiftLeft_add_eq_or_of_lt a.isLt,
    Nat.shiftLeft_eq]
  omega

theorem extractLsb'_headerByte (a : BitVec 4) (c : Nat) : (headerByte a c).extractLsb' 0 4 = a := by
  rw [headerByte, BitVec.extractLsb'_append_eq_right]

theorem code_lt (f : Frame) : Frame.code f < 16 := by cases f <;> simp [Frame.code]

/-- Settles O11: a body reads back, and what stands before and behind it are the header, the length and the check sequence that
the receive check computes again. -/
theorem frameReadsBack : Obligations.FrameReadsBack := by
  intro sender f fresh hf
  have hlen : (BitVec.ofNat 8 (Frame.body f).length).toNat = (Frame.body f).length := by
    rw [BitVec.toNat_ofNat, Nat.mod_eq_of_lt (length_body f hf)]
  have hcode : (headerByte sender (Frame.code f)).toNat / 16 = Frame.code f := by
    rw [toNat_headerByte sender (code_lt f)]
    omega
  simp only [receiveCheck, encodeFrame, List.cons_append, hlen, List.take_left', List.drop_left', List.length_append,
    length_wordBytes, Bool.or_self, Bool.false_eq_true, if_false, and_self, if_true, hcode, frameOf_body f hf, Option.map_some,
    extractLsb'_headerByte]

/-- No frame has a kind code of 13 or more (R141). -/
theorem frameOf_of_le {c : Nat} (hc : 13 ≤ c) (body : List Byte) : frameOf c body = none := by
  obtain ⟨n, rfl⟩ := Nat.exists_eq_add_of_le' hc
  rfl

/-- What the receive check has found of a frame that passes it (R144). -/
theorem receiveCheck_some {raw : RawFrame} {p : BitVec 4 × Frame} (h : receiveCheck raw = some p) :
    raw.badStop = false ∧ raw.endless = false ∧ ∃ header len rest, raw.bytes = header :: len :: rest
      ∧ rest.length = len.toNat + 2
      ∧ wordBytes (checkSequence (header :: len :: rest.take len.toNat)) = rest.drop len.toNat
      ∧ frameOf (header.toNat / 16) (rest.take len.toNat) = some p.2 := by
  rw [receiveCheck] at h
  split at h
  · cases h
  · rename_i hstop
    rw [Bool.or_eq_true, not_or, Bool.not_eq_true, Bool.not_eq_true] at hstop
    split at h
    · rename_i header len rest hbytes
      split at h
      · rename_i hok
        obtain ⟨f, hf, rfl⟩ := Option.map_eq_some_iff.1 h
        exact ⟨hstop.1, hstop.2, header, len, rest, hbytes, hok.1, hok.2, hf⟩
      · cases h
    · cases h

/-- Settles O12: a frame that passes the receive check meets none of the failures. -/
theorem damagedFramesFail : Obligations.DamagedFramesFail := by
  intro raw
  refine ⟨fun h => ?_, fun h => ?_, fun h => ?_, fun hd n rest hbytes => ⟨fun h => ?_, fun h => ?_, fun h => ?_⟩⟩
  all_goals
    refine Option.eq_none_iff_forall_ne_some.2 fun p hp => ?_
    obtain ⟨hstop, hend, header, len, rest', hbytes', hlen, hsum, hframe⟩ := receiveCheck_some hp
  · exact Bool.false_ne_true (hstop.symm.trans h)
  · exact Bool.false_ne_true (hend.symm.trans h)
  · rw [hbytes', List.length_cons, List.length_cons] at h
    omega
  all_goals
    obtain ⟨rfl, rfl, rfl⟩ : header = hd ∧ len = n ∧ rest' = rest := by simpa [hbytes] using hbytes'.symm
  · rw [frameOf_of_le h] at hframe
    cases hframe
  · exact h hlen
  · exact h hsum

/-- The number that bits spell, the most significant first. -/
def bitsValue : List Bool → Nat
  | [] => 0
  | b :: bs => b.toNat * 2 ^ bs.length + bitsValue bs

theorem bitsValue_lt (bs : List Bool) : bitsValue bs < 2 ^ bs.length := by
  induction bs with
  | nil => exact Nat.one_pos
  | cons b bs ih =>
    rw [bitsValue, List.length_cons, Nat.pow_succ]
    cases b <;> simp <;> omega

/-- Of two bit strings the one that wins is the lower number (R142). -/
theorem winsOver_iff (as bs : List Bool) (h : as.length = bs.length) : winsOver as bs = true ↔ bitsValue as < bitsValue bs := by
  induction as generalizing bs with
  | nil =>
    cases bs with
    | nil => simp [winsOver]
    | cons b bs => simp at h
  | cons a as ih =>
    cases bs with
    | nil => simp at h
    | cons b bs =>
      have hlen : as.length = bs.length := Nat.succ.inj h
      have hlow := bitsValue_lt as
      have hlow' := bitsValue_lt bs
      rw [hlen] at hlow
      rw [winsOver, bitsValue, bitsValue, hlen]
      cases a <;> cases b <;> simp [ih bs hlen] <;> omega

theorem bitsValue_bitsMsbFirst (b : Byte) : bitsValue (bitsMsbFirst b) = b.toNat := by
  have bit (i : Nat) : (b.getLsbD i).toNat = b.toNat / 2 ^ i % 2 := by
    rw [BitVec.getLsbD, Nat.testBit_eq_decide_div_mod_eq]
    rcases Nat.mod_two_eq_zero_or_one (b.toNat / 2 ^ i) with h | h <;> simp [h]
  have hb := b.isLt
  simp only [bitsMsbFirst, List.map_cons, List.map_nil, bitsValue, List.length_cons, List.length_nil, bit]
  omega

theorem winsOver_bits (a b : Byte) : winsOver (bitsMsbFirst a) (bitsMsbFirst b) = true ↔ a.toNat < b.toNat := by
  rw [winsOver_iff (bitsMsbFirst a) (bitsMsbFirst b) rfl, bitsValue_bitsMsbFirst, bitsValue_bitsMsbFirst]

/-- Settles O13. -/
theorem arbitrationGoesToTheLowest : Obligations.ArbitrationGoesToTheLowest := by
  refine ⟨fun own rivals => ?_, fun a b c d hc hd => ?_⟩
  · simp [arbitrationLost, winsOver_bits]
  · have ha := a.isLt
    have hb := b.isLt
    rw [toNat_headerByte a hc, toNat_headerByte b hd]
    omega

end Sys2Proof.Machine
end

section
/-! # What settling changes, and how a property passes through it

After the join, settling changes rows' places, lanes and the send queue alone. A property that each of its parts keeps is kept by
the whole (`settle_keeps`). -/

namespace Sys2Proof.Machine

open Sys2Proof.Safety

/-! ### Operations that change places, lanes and the send queue alone -/

structure Within (s t : State) : Prop where
  eq : t = { s with table := t.table, lanes := t.lanes, link := t.link }
  skeleton : t.skeleton = s.skeleton
  locs : ∀ k, (t.loc k).unplaced = (s.loc k).unplaced

theorem Within.refl (s : State) : Within s s := ⟨rfl, rfl, fun _ => rfl⟩

theorem Within.trans {s t u : State} (h : Within s t) (h' : Within t u) : Within s u := by
  refine ⟨?_, h'.skeleton.trans h.skeleton, fun k => (h'.locs k).trans (h.locs k)⟩
  rw [h'.eq, h.eq]

/-- An operation that leaves the table as it is. -/
theorem Within.of_table {s t : State} (eq : t = { s with table := t.table, lanes := t.lanes, link := t.link })
    (skeleton : t.skeleton = s.skeleton) (table : t.table = s.table) : Within s t :=
  ⟨eq, skeleton, fun k => by rw [State.loc_congr table]⟩

section
variable {s t : State} (h : Within s t)
include h

theorem Within.mode : t.mode = s.mode := (congrArg State.mode h.eq :)
theorem Within.joinQuiet : t.joinQuiet = s.joinQuiet := (congrArg State.joinQuiet h.eq :)
theorem Within.rollTimer : t.rollTimer = s.rollTimer := (congrArg State.rollTimer h.eq :)
theorem Within.number : t.number = s.number := (congrArg State.number h.eq :)
theorem Within.plan : t.plan = s.plan := (congrArg State.plan h.eq :)
theorem Within.dir : t.dir = s.dir := (congrArg State.dir h.eq :)
theorem Within.clashBarred : t.clashBarred = s.clashBarred := (congrArg State.clashBarred h.eq :)
theorem Within.row (k : Nat) : t.row k = s.row k := row_of_skeleton h.skeleton k
theorem Within.length : t.table.length = s.table.length := length_of_skeleton h.skeleton
theorem Within.peer (x : Station) : t.peer x = s.peer x := peer_of_skeleton h.skeleton x
theorem Within.slotRec (k : Nat) : t.slotRec k = s.slotRec k := by rw [State.slotRec, State.slots, h.plan]; rfl
theorem Within.slotCount : t.slotCount = s.slotCount := by rw [State.slotCount, State.slots, h.plan]; rfl
theorem Within.drainCount : t.drainCount = s.drainCount := by rw [State.drainCount, h.plan]; rfl
theorem Within.standbyWanted (k : Nat) : t.standbyWanted k = s.standbyWanted k := by
  rw [State.standbyWanted, h.slotRec]; rfl
theorem Within.termOf (k : Nat) : t.termOf k = s.termOf k := by rw [State.termOf, h.row]; rfl
theorem Within.claimActive : t.claimActive = s.claimActive := by rw [State.claimActive, h.mode, h.number, h.peer]; rfl
theorem Within.ownPair (l : LaneId) : t.ownPair l = s.ownPair l := by rw [State.ownPair, h.number]; rfl
theorem Within.swappingAt (k : Nat) (n : Term) (p : SwapPhase → Bool) : t.swappingAt k n p = s.swappingAt k n p := by
  rw [State.swappingAt, h.row]; rfl
theorem Within.tried (k : Nat) : (t.loc k).tried = (s.loc k).tried := (congrArg RowLocal.tried (h.locs k) :)
theorem Within.standbyTried (k : Nat) : (t.loc k).standbyTried = (s.loc k).standbyTried :=
  (congrArg RowLocal.standbyTried (h.locs k) :)
theorem Within.swapReason : t.swapReason = s.swapReason := by rw [State.swapReason, h.mode]; rfl

end

theorem within_ite {s t u : State} {c : Prop} [Decidable c] (ht : Within s t) (hu : Within s u) :
    Within s (if c then t else u) := by
  split
  · exact ht
  · exact hu

theorem within_foldl {α : Type} (f : State → α → State) (h : ∀ s a, Within s (f s a)) (xs : List α) (s : State) :
    Within s (xs.foldl f s) := by
  induction xs generalizing s with
  | nil => exact .refl s
  | cons x xs ih => exact (h s x).trans (ih _)

theorem within_forLanes (f : LaneId → State → State) (h : ∀ l s, Within s (f l s)) (s : State) : Within s (s.forLanes f) :=
  within_foldl _ (fun s l => h l s) _ s

theorem within_modLane (s : State) (l : LaneId) (f : Lane → Lane) : Within s (s.modLane l f) := .of_table rfl rfl rfl
theorem within_withdraw (s : State) (p : Frame → Bool) : Within s (s.withdraw p) := .of_table rfl rfl rfl
theorem within_send (s : State) (f : Frame) : Within s (s.send f) := .of_table rfl (skeleton_send s f) rfl
theorem within_setCtx (s : State) (l : LaneId) (c : SwapCtx) : Within s (s.setCtx l c) := .of_table rfl rfl rfl
theorem within_sendCede (s : State) (k : Nat) (role : CarriageRole) (l : LaneId) (r : CedeReason) :
    Within s (s.sendCede k role l r) := within_send s _
theorem within_giveUp (s : State) (k : Nat) (role : CarriageRole) (l : LaneId) (r : CedeReason) :
    Within s (s.giveUp k role l r) := .of_table rfl (skeleton_giveUp s k role l r) rfl
theorem within_offerSwap (s : State) (k : Nat) (l : LaneId) : Within s (s.offerSwap k l) :=
  .of_table rfl (skeleton_offerSwap s k l) rfl
theorem within_dropTrial (s : State) (l : LaneId) : Within s (s.dropTrial l) := .of_table rfl rfl rfl
theorem within_bindLane (s : State) (l : LaneId) (k : Nat) (role : LaneRole) (m : ClaimMark) :
    Within s (s.bindLane l k role m) := .of_table rfl rfl rfl

theorem within_drainLane (s : State) (k : Nat) (l : LaneId) : Within s (s.drainLane k l) := by
  rw [State.drainLane]
  split
  · exact within_ite (within_offerSwap s k l) (within_giveUp s k _ l _)
  · exact within_giveUp s k _ l _
  · exact .refl s

theorem within_drainIfResting (s : State) (k : Nat) (l : LaneId) : Within s (s.drainIfResting k l) :=
  within_ite (within_drainLane s k l) (.refl s)

theorem within_namedInVain (s : State) (k : Nat) (l : LaneId) (role : CarriageRole) (r : CedeReason) (after : Bool) :
    Within s (s.namedInVain k l role r after) := by
  refine .of_table ?_ (skeleton_namedInVain s k l role r after) ?_
  all_goals
    simp only [State.namedInVain]
    repeat' split
    all_goals rfl

theorem within_settleTrial (l : LaneId) (s : State) : Within s (State.settleTrial l s) :=
  within_ite (within_dropTrial s l) (.refl s)

theorem within_replaceRow (k : Nat) (s : State) : Within s (State.replaceRow k s) := by
  refine ⟨?_, skeleton_replaceRow k s, unplaced_replaceRow k s⟩
  have kept (f : LaneId → State → State) (h : ∀ l s, Within s (f l s)) (u : State) := (within_forLanes f h u).eq
  simp only [State.replaceRow]
  refine (kept _ (fun l s => ?_) _).trans rfl
  refine within_ite ?_ (.refl s)
  split
  · exact within_ite (within_dropTrial s l) (.refl s)
  · exact within_ite (within_dropTrial s l) (.refl s)
  · exact .refl s

theorem within_unheld (s : State) (l : LaneId) (k : Nat) : Within s (s.unheld l k) := by
  simp only [State.unheld]
  split
  · exact (within_withdraw s _).trans (within_modLane _ l _)
  · exact (within_withdraw s _).trans (within_ite ((within_modLane _ l _).trans (within_drainIfResting _ k l))
      ((within_modLane _ l _).trans (within_sendCede _ _ _ _ _)))

theorem within_settleHeldLane (l : LaneId) (s : State) : Within s (State.settleHeldLane l s) := by
  simp only [State.settleHeldLane]
  split
  · exact within_ite (.refl s) (within_ite (.refl s) ((within_withdraw s _).trans (within_unheld _ l _)))
  · exact .refl s

theorem within_settleSwap (l : LaneId) (s : State) : Within s (State.settleSwap l s) := by
  simp only [State.settleSwap]
  split
  · exact .refl s
  · have ends (k : Nat) : Within s ((s.withdraw (isGiverFrame k)).endCtx l) := (within_withdraw s _).trans (within_modLane _ l _)
    exact within_ite (.refl s) (within_ite (.refl s) (within_ite ((ends _).trans (within_giveUp _ _ _ l _)) (ends _)))
  · exact within_ite (within_ite ((within_withdraw s _).trans (within_setCtx _ l _)) (within_withdraw s _))
      ((within_withdraw s _).trans (within_modLane _ l _))

theorem within_compareHold (s : State) (k : Nat) (t : Term) (wanted : Bool) (fuel : Nat) :
    Within s (s.compareHold k t wanted fuel) := by
  induction fuel generalizing s with
  | zero => exact .refl s
  | succ n ih =>
    rw [State.compareHold]
    split
    · refine within_ite (.refl s) (within_ite (within_send s _) (.trans ?_ (ih _)))
      exact .of_table rfl (skeleton_queue s _) rfl
    · exact within_ite (.refl s) (within_send s _)

theorem within_holdCheck (s : State) (l : LaneId) : Within s (s.holdCheck l) := by
  simp only [State.holdCheck]
  split
  · refine .trans ?_ (within_compareHold _ _ _ _ _)
    exact .of_table rfl rfl rfl
  · exact .refl s

theorem within_holdAgain (l : LaneId) (s : State) : Within s (State.holdAgain l s) := by
  simp only [State.holdAgain]
  split
  · exact within_ite (within_holdCheck s l) (.refl s)
  · exact .refl s

theorem within_holdsAgain (s : State) : Within s s.holdsAgain := within_forLanes _ within_holdAgain s

theorem within_sendOver (s : State) (f : Frame) : Within s (s.sendOver f) := (within_send s f).trans (within_holdsAgain _)

theorem within_sendAgain (s : State) (q : QFrame) : Within s (s.sendAgain q) := by
  rw [State.sendAgain.eq_def]
  split
  · exact within_forLanes _ (fun l s => within_ite (within_holdCheck s l) (.refl s)) s
  · exact within_ite ((within_withdraw s _).trans (within_send _ _)) (.refl s)
  · exact .refl s

theorem within_sendDue (s : State) : Within s s.sendDue := by
  refine .trans ?_ (within_foldl _ within_sendAgain _ _)
  exact .of_table rfl rfl rfl

theorem within_assignOne (s : State) : Within s s.assignOne := by
  simp only [State.assignOne]
  repeat' split
  · exact .refl s
  · exact within_bindLane s _ _ _ _
  · exact (within_dropTrial s _).trans (within_bindLane _ _ _ _ _)
  · exact .refl s

theorem within_assignStandbyOne (s : State) : Within s s.assignStandbyOne := by
  simp only [State.assignStandbyOne]
  split
  · exact within_bindLane s _ _ _ _
  · exact .refl s

theorem within_assignHome (k : Nat) (s : State) : Within s (State.assignHome k s) := by
  simp only [State.assignHome]
  split
  · exact within_ite (within_bindLane s _ _ _ _) (.refl s)
  · exact .refl s

theorem within_homeAssignment (s : State) : Within s s.homeAssignment :=
  within_ite (within_foldl _ (fun s k => within_assignHome k s) _ s) (.refl s)

/-! ### A property that every part of settling keeps -/

/-- Every part of settling before lanes are assigned, from the state that the join has left, keeps the property. `completed` says
that frames which have fallen due are queued again too. -/
structure PartsKeep (s : State) (completed : Bool) (I : State → Prop) : Prop where
  quiets : ∀ u, Within s u → I u → I (u.withdraw fun f => isQuiet f && !u.wants f)
  replaceRow : ∀ k u, Within s u → I u → I (State.replaceRow k u)
  trial : ∀ l u, Within s u → I u → I (State.settleTrial l u)
  held : ∀ l u, Within s u → I u → I (State.settleHeldLane l u)
  swap : ∀ l u, Within s u → I u → I (State.settleSwap l u)
  moot : ∀ u, Within s u → I u → I u.withdrawMoot
  holdAgain : ∀ l u, Within s u → I u → I (State.holdAgain l u)
  sendDue : completed = true → ∀ u, Within s u → I u → I u.sendDue

/-- Every part of settling keeps the property. -/
structure SettleKeeps (s : State) (completed : Bool) (I : State → Prop) : Prop extends PartsKeep s completed I where
  assign : s.claimActive = true → ∀ u, Within s u → I u → I u.assignOne
  assignStandby : s.claimActive = true → ∀ u, Within s u → I u → I u.assignStandbyOne

/-- The settling of a station in a mode in which frames reach the table, once the join is done, before lanes are assigned. -/
def State.settleParts (s : State) (completed : Bool) : State :=
  let s := s.withdraw fun f => isQuiet f && !s.wants f
  let s := s.replace
  let s := s.forLanes State.settleTrial
  let s := s.forLanes State.settleHeldLane
  let s := s.forLanes State.settleSwap
  let s := s.withdrawMoot.holdsAgain
  if completed then s.sendDue.holdsAgain.forLanes State.settleHeldLane else s

/-- The settling of a station in a mode in which frames reach the table, once the join is done. -/
def State.settleBlocks (s : State) (completed : Bool) : State := (s.settleParts completed).assignLanes

theorem ne_isolated_of_appliesFrames {m : Mode} (h : m.appliesFrames = true) : m ≠ .isolated := by
  rintro rfl
  cases h

theorem settle_eq {s : State} (h : s.mode.appliesFrames = true) (c : Bool) : s.settle c = s.joinIfComplete.settleBlocks c := by
  rw [State.settle, if_neg (ne_isolated_of_appliesFrames h), if_neg (by simp [h])]
  rfl

theorem settle_isolated {s : State} (h : s.mode = .isolated) (c : Bool) : s.settle c = s.homeAssignment := if_pos h

theorem settle_other {s : State} (h : s.mode.appliesFrames = false) (hiso : s.mode ≠ .isolated) (c : Bool) : s.settle c = s := by
  rw [State.settle, if_neg hiso, if_pos (by simp [h])]

theorem joinIfComplete_of_ne {s : State} (h : s.mode ≠ .joining) : s.joinIfComplete = s := if_neg fun hj => h hj.1

section
variable {s : State} {c : Bool} {I : State → Prop}

/-- The property along an operation that stays within what settling changes. -/
theorem foldl_keeps {α : Type} (f : State → α → State) (hw : ∀ u a, Within u (f u a))
    (hI : ∀ a u, Within s u → I u → I (f u a)) (xs : List α) (u : State) (h : Within s u ∧ I u) :
    Within s (xs.foldl f u) ∧ I (xs.foldl f u) := by
  induction xs generalizing u with
  | nil => exact h
  | cons x xs ih => exact ih _ ⟨h.1.trans (hw u x), hI x u h.1 h.2⟩

theorem settleParts_keeps (keeps : PartsKeep s c I) (h : I s) : Within s (s.settleParts c) ∧ I (s.settleParts c) := by
  have loop (f : LaneId → State → State) (hw : ∀ l u, Within u (f l u)) (hI : ∀ l u, Within s u → I u → I (f l u))
      (u : State) (h : Within s u ∧ I u) : Within s (u.forLanes f) ∧ I (u.forLanes f) :=
    foldl_keeps _ (fun u l => hw l u) (fun l u => hI l u) _ u h
  have holds (u : State) (h : Within s u ∧ I u) := loop State.holdAgain within_holdAgain keeps.holdAgain u h
  have held (u : State) (h : Within s u ∧ I u) := loop State.settleHeldLane within_settleHeldLane keeps.held u h
  have blocks : Within s (((((s.withdraw fun f => isQuiet f && !s.wants f).replace.forLanes State.settleTrial).forLanes
      State.settleHeldLane).forLanes State.settleSwap).withdrawMoot.holdsAgain)
      ∧ I (((((s.withdraw fun f => isQuiet f && !s.wants f).replace.forLanes State.settleTrial).forLanes
      State.settleHeldLane).forLanes State.settleSwap).withdrawMoot.holdsAgain) := by
    have h1 : Within s (s.withdraw fun f => isQuiet f && !s.wants f) ∧ I (s.withdraw fun f => isQuiet f && !s.wants f) :=
      ⟨within_withdraw s _, keeps.quiets s (.refl s) h⟩
    have h2 := foldl_keeps (s := s) (I := I) (fun s k => State.replaceRow k s) (fun u k => within_replaceRow k u)
      keeps.replaceRow (List.range (s.withdraw fun f => isQuiet f && !s.wants f).table.length) _ h1
    have h3 := loop State.settleTrial within_settleTrial keeps.trial _ h2
    have h5 := loop State.settleSwap within_settleSwap keeps.swap _ (held _ h3)
    exact holds _ ⟨h5.1.trans (within_withdraw _ _), keeps.moot _ h5.1 h5.2⟩
  rw [State.settleParts]
  split
  · rename_i hc
    exact held _ (holds _ ⟨blocks.1.trans (within_sendDue _), keeps.sendDue hc _ blocks.1 blocks.2⟩)
  · exact blocks

theorem settleBlocks_keeps (keeps : SettleKeeps s c I) (h : I s) : Within s (s.settleBlocks c) ∧ I (s.settleBlocks c) := by
  have parts := settleParts_keeps keeps.toPartsKeep h
  rw [State.settleBlocks, State.assignLanes]
  split
  · rename_i hactive
    rw [parts.1.claimActive] at hactive
    have one (u : State) (h : Within s u ∧ I u) : Within s u.assignOne ∧ I u.assignOne :=
      ⟨h.1.trans (within_assignOne u), keeps.assign hactive u h.1 h.2⟩
    have standbyOne (u : State) (h : Within s u ∧ I u) : Within s u.assignStandbyOne ∧ I u.assignStandbyOne :=
      ⟨h.1.trans (within_assignStandbyOne u), keeps.assignStandby hactive u h.1 h.2⟩
    exact standbyOne _ (standbyOne _ (standbyOne _ (standbyOne _ (one _ (one _ (one _ (one _ parts)))))))
  · exact parts

theorem within_settleBlocks (s : State) (c : Bool) : Within s (s.settleBlocks c) :=
  (settleBlocks_keeps (I := fun _ => True) (c := c)
    ⟨⟨fun _ _ _ => trivial, fun _ _ _ _ => trivial, fun _ _ _ _ => trivial, fun _ _ _ _ => trivial, fun _ _ _ _ => trivial,
      fun _ _ _ => trivial, fun _ _ _ _ => trivial, fun _ _ _ _ => trivial⟩, fun _ _ _ _ => trivial, fun _ _ _ _ => trivial⟩
    trivial).1

end

/-! ### The mode and the timers after settling -/

/-- A join is due: the station is JOINING, its join mark is set, no row is UNKNOWN (R165). -/
def State.joins (s : State) : Prop :=
  s.mode = .joining ∧ s.joinMark = true ∧ s.table.all (fun e => !e.row.isUnknown) = true

theorem joinIfComplete_joins {s : State} (h : s.joins) : s.joinIfComplete = s.enterJoined := if_pos h
theorem joinIfComplete_of_not {s : State} (h : ¬s.joins) : s.joinIfComplete = s := if_neg h

/-- The QUIETs that a join queues change the queue alone. -/
theorem quietStale_eq (s : State) : s.quietStale = { s with link := s.quietStale.link } := by
  rw [State.quietStale]
  induction allStations generalizing s with
  | nil => rfl
  | cons x xs ih =>
    rw [List.foldl_cons, ih]
    split <;> rfl

theorem enterJoined_eq (s : State) :
    s.enterJoined = { s with mode := .joined, joinQuiet := none, rollTimer := some 250, link := s.enterJoined.link } := by
  conv => lhs; rw [State.enterJoined, quietStale_eq]
  rfl

theorem appliesFrames_joinIfComplete {s : State} (h : s.mode.appliesFrames = true) :
    s.joinIfComplete.mode.appliesFrames = true := by
  by_cases hj : s.joins
  · rw [joinIfComplete_joins hj, enterJoined_eq]
    rfl
  · rwa [joinIfComplete_of_not hj]

/-- Settling without a join changes places, lanes and the queue alone. -/
theorem within_settle {s : State} (h : ¬s.joins) (c : Bool) : Within s (s.settle c) := by
  by_cases hm : s.mode.appliesFrames = true
  · rw [settle_eq hm, joinIfComplete_of_not h]
    exact within_settleBlocks s c
  · by_cases hiso : s.mode = .isolated
    · rw [settle_isolated hiso]
      exact within_homeAssignment s
    · rw [settle_other (Bool.eq_false_iff.2 hm) hiso]
      exact .refl s

theorem within_settle_joins {s : State} (h : s.joins) (c : Bool) : Within s.enterJoined (s.settle c) := by
  rw [settle_eq (by rw [h.1]; rfl), joinIfComplete_joins h]
  exact within_settleBlocks _ c

theorem mode_settle {s : State} (h : ¬s.joins) (c : Bool) : (s.settle c).mode = s.mode := (within_settle h c).mode

theorem mode_settle_joins {s : State} (h : s.joins) (c : Bool) : (s.settle c).mode = .joined := by
  rw [(within_settle_joins h c).mode, enterJoined_eq]

theorem not_joins_of_mode {s : State} (h : s.mode ≠ .joining) : ¬s.joins := fun hj => h hj.1

end Sys2Proof.Machine
end

section
/-! # Entries into a mode, the loader, the link's failures, the station's timers -/

namespace Sys2Proof.Machine

open Sys2Proof.Safety

/-! ### Entries into a mode -/

theorem clearUnspent_of_ne {x : Lane} (h : x.state ≠ .spent) : x.clearUnspent = x.clearAll := if_neg h

theorem barredAfter_enterBarred (s : State) (cause : BarredCause) : BarredAfter s (s.enterBarred cause) cause := by
  refine ⟨rfl, rfl, rfl, rfl, rfl, row_enterBarred s cause, rfl, rfl, rfl, fun l hl => ?_⟩
  rw [lane_of_map (s := s) rfl l, clearUnspent_of_ne hl]
  exact ⟨rfl, rfl, rfl, rfl⟩

/-- A cleared queue takes the request for a ROLL. -/
theorem queue_requestRoll_clear (l : Link) : l.clear.requestRoll.queue = [{ frame := .roll, onLine := false }] := rfl

theorem joiningAfter_enterJoining (s : State) (cause : ResetCause) : JoiningAfter s (s.enterJoining (some cause)) cause := by
  refine ⟨rfl, rfl, row_enterJoining s _, fun l => ?_, rfl, rfl, rfl, rfl, rfl, rfl, rfl, fun e he => ?_, ?_, rfl, rfl, rfl⟩
  · rw [lane_of_map (s := s) (f := Lane.clearAll) rfl l]
    exact ⟨rfl, rfl, rfl, rfl, rfl, rfl, rfl⟩
  · obtain rfl := List.mem_singleton.1 (show e ∈ [{ frame := .roll, onLine := false }] from he)
    rfl
  · exact List.cons_ne_nil _ _

theorem muteAfter_enterMute (s : State) : MuteAfter s s.enterMute := by
  refine ⟨rfl, rfl, rfl, rfl, rfl, rfl, rfl, rfl, row_enterMute s, rfl, rfl, fun l hl => ?_⟩
  rw [lane_of_map (s := s) rfl l, clearUnspent_of_ne hl]
  exact ⟨rfl, rfl, rfl, rfl⟩

/-! ### The home assignment -/

/-- The home assignment changes lanes alone. -/
theorem homeAssignment_eq (s : State) : s.homeAssignment = { s with lanes := s.homeAssignment.lanes } := by
  have fold (ks : List Nat) (s : State) : ks.foldl (fun s k => State.assignHome k s) s
      = { s with lanes := (ks.foldl (fun s k => State.assignHome k s) s).lanes } := by
    induction ks generalizing s with
    | nil => rfl
    | cons k ks ih =>
      rw [List.foldl_cons, ih]
      have one : State.assignHome k s = { s with lanes := (State.assignHome k s).lanes } := by
        simp only [State.assignHome]
        repeat' split
        all_goals rfl
      rw [one]
  rw [State.homeAssignment]
  split
  · exact fold _ s
  · rfl

/-- What holds of a lane, and stays when it is bound for home carriage, holds after the home assignment. -/
theorem lane_homeAssignment_of_bind (P : Lane → Prop) (s : State) (l : LaneId)
    (hP : ∀ k r x, k ∉ s.clashBarred → x.available = true → P x → P (Lane.bind k r .home .none x)) (h : P (s.lane l)) :
    P (s.homeAssignment.lane l) := by
  have one (k : Nat) (u : State) (hu : u.clashBarred = s.clashBarred) (h : P (u.lane l)) :
      P ((State.assignHome k u).lane l) := by
    simp only [State.assignHome]
    split
    · rename_i m _ hm
      split
      · rename_i hfree
        by_cases hlm : l = m
        · subst hlm
          rw [State.bindLane_eq, State.lane_modLane_self]
          exact hP _ _ _ (hu ▸ hfree.2.2) (availableLane_available hm) h
        · rwa [lane_bindLane_ne u _ _ _ hlm]
      · exact h
    · exact h
  have fold (ks : List Nat) (u : State) (hu : u.clashBarred = s.clashBarred) (h : P (u.lane l)) :
      P ((ks.foldl (fun s k => State.assignHome k s) u).lane l) := by
    induction ks generalizing u with
    | nil => exact h
    | cons k ks ih => exact ih _ ((within_assignHome k u).clashBarred.trans hu) (one k u hu h)
  rw [State.homeAssignment]
  split
  · exact fold _ s rfl h
  · exact h

/-- A lane of an ISOLATED station that is no SPENT one (R105, R132). -/
def HomeOrFree (x : Lane) : Prop := (x.role = .free ∨ x.role = .home) ∧ x.gate = false ∧ x.ctx = .none

theorem homeOrFree_bind (k : Nat) (r : Option SlotRec) (x : Lane) (h : HomeOrFree x) :
    HomeOrFree (Lane.bind k r .home .none x) := by
  refine ⟨.inr rfl, ?_, h.2.2⟩
  show (x.gate && LaneRole.mayOpen .home) = false
  rw [h.2.1, Bool.false_and]

/-- A queue holds nothing after an arrival but what it held and the frame that arrived. -/
theorem of_mem_arrive {f : QFrame} {q : List QEntry} {e : QEntry} (h : e ∈ (arrive f q).1) :
    e ∈ q ∨ e = { frame := f, onLine := false } := by
  have inserted {q : List QEntry} (h : e ∈ insertEntry { frame := f, onLine := false } q) :
      e ∈ q ∨ e = { frame := f, onLine := false } :=
    (List.mem_cons.1 ((insertEntry_perm _ q).mem_iff.1 h)).symm
  simp only [arrive] at h
  split at h
  · exact inserted h
  · split at h
    · exact .inl h
    · rename_i rest victim hv
      split at h
      · refine (inserted h).imp_left fun hrest => ?_
        exact (takeNewestIdle_perm q hv).1.subset hrest
      · exact .inl h

theorem isolatedAfter_enterIsolated (s : State) : IsolatedAfter s s.enterIsolated := by
  have lanesOnly := homeAssignment_eq (State.requestRoll { s with
    mode := .isolated, lanes := s.lanes.map Lane.clearUnspent, table := s.table.map Entry.stopClaims,
    link := { s.link.clearToRoll with spoil := 0, unseen := 0 }, joinQuiet := none })
  have rolls : ∀ e ∈ ({ s.link.clearToRoll with spoil := 0, unseen := 0 } : Link).requestRoll.queue, e.frame = .roll := by
    have kept : ∀ e ∈ s.link.clearToRoll.queue, e.frame = .roll := fun e he => by
      simpa using (List.mem_filter.1 he).2
    intro e he
    rw [Link.requestRoll] at he
    split at he
    · exact kept e he
    · split at he
      · exact kept e he
      · rw [Link.join_queue] at he
        obtain he | rfl := of_mem_arrive he
        · exact kept e he
        · rfl
  rw [State.enterIsolated]
  refine ⟨?_, ?_, ?_, row_enterIsolated s, ?_, ?_, ?_, ?_, ?_, fun l hl => ?_⟩
  case _ => rw [lanesOnly]; rfl
  case _ => rw [lanesOnly]; exact spoil_of_skeleton (skeleton_requestRoll _)
  case _ => rw [lanesOnly]; exact unseen_of_skeleton (skeleton_requestRoll _)
  case _ => rw [lanesOnly]; rfl
  case _ => rw [lanesOnly]; rfl
  case _ => rw [lanesOnly]; exact rolls
  case _ => rw [lanesOnly]; rfl
  case _ => rw [lanesOnly]; rfl
  case _ =>
    refine lane_homeAssignment_of_bind HomeOrFree _ l (fun k r x _ _ => homeOrFree_bind k r x) ?_
    rw [lane_requestRoll, lane_of_map (s := s) rfl l, clearUnspent_of_ne hl]
    exact ⟨.inl rfl, rfl, rfl⟩

/-! ### The loader -/

theorem startAttempt_clear (s : State) {a : PortAnswer} (h : a.lowReads ≤ 9) :
    s.startAttempt a = { s with loader := { s.loader with
      phase := .reading, wait := none, pulses := a.lowReads, working := [], port := portLines (busClear a.lowReads),
      answer := a } } := if_pos h

/-- A bus that stays stuck through the bus clear is an attempt without an answer (R182, R184). -/
theorem startAttempt_stuck (s : State) {a : PortAnswer} (h : 10 ≤ a.lowReads) :
    s.startAttempt a = State.attemptFails { s with loader := { s.loader with answer := a } } 9 (portLines (busClear a.lowReads)) :=
  if_neg (by omega)

theorem attemptFails_again (s : State) (pulses : Nat) (port : List PortLines) (h : s.loader.attempts < 2) :
    s.attemptFails pulses port = { s with loader := { s.loader with
      phase := .waiting, attempts := s.loader.attempts + 1, wait := some 20, pulses := pulses, working := [], port := port } } :=
  if_pos (by omega)

theorem attemptFails_last (s : State) (pulses : Nat) (port : List PortLines) (h : 2 ≤ s.loader.attempts) :
    s.attemptFails pulses port = State.enterBarred { s with loader := { s.loader with
      phase := .off, attempts := s.loader.attempts + 1, wait := none, pulses := pulses, working := [], port := port } } .planBad :=
  if_neg (by omega)

theorem peer_resetDir (n x : Station) : (resetDir n)[x].state = if x = n then .self else .absent := by
  by_cases h : x = n
  · subst h
    simp [resetDir]
  · rw [if_neg h]
    have hne : n.val ≠ x.val := fun e => h (Fin.ext e.symm)
    simp [resetDir, hne, PeerRec.absent]

/-- Settles O16. -/
theorem resetEndSamplesTheNumber : Obligations.ResetEndSamplesTheNumber := by
  intro s pins a h
  have hn : (Fin.ofNat 8 pins.toNat).val = pins.toNat := Nat.mod_eq_of_lt pins.isLt
  by_cases hclear : a.lowReads ≤ 9
  · refine ⟨_, congrArg Host.Outcome.next ((if_pos h).trans (startAttempt_clear _ hclear)), rfl, hn, rfl, rfl, fun _ => rfl,
      peer_resetDir _, rfl, rfl, fun _ => ⟨rfl, rfl, rfl⟩, fun h => ?_⟩
    omega
  · have hstuck : 10 ≤ a.lowReads := by omega
    refine ⟨_, congrArg Host.Outcome.next (((if_pos h).trans (startAttempt_stuck _ hstuck)).trans
      (attemptFails_again _ _ _ (by decide : 0 < 2))), rfl, hn, rfl, rfl, fun _ => rfl, peer_resetDir _, rfl, rfl, fun h => ?_,
      fun _ => ⟨rfl, rfl, rfl⟩⟩
    omega

/-- What an attempt without an answer leaves (R184). -/
theorem attemptFails_cases {s : State} {pulses : Nat} {port : List PortLines} {o : Host.Outcome State Fault Refusal}
    (ho : o = .next (s.attemptFails pulses port)) :
    (s.loader.attempts < 2 → ∃ t, o = .next t ∧ t.loader.phase = .waiting ∧ t.loader.wait = some 20
      ∧ t.loader.attempts = s.loader.attempts + 1 ∧ t.loader.working = [] ∧ t.loader.port = port ∧ t.mode = s.mode
      ∧ t.plan = s.plan)
    ∧ (2 ≤ s.loader.attempts → ∃ t, o = .next t ∧ t.loader.phase = .off ∧ t.loader.working = [] ∧ t.loader.port = port
      ∧ BarredAfter s t .planBad) := by
  constructor
  · intro h
    rw [attemptFails_again s pulses port h] at ho
    exact ⟨_, ho, rfl, rfl, rfl, rfl, rfl, rfl, rfl⟩
  · intro h
    rw [attemptFails_last s pulses port h] at ho
    exact ⟨_, ho, rfl, rfl, rfl, barredAfter_enterBarred _ _⟩

/-- Settles O17. -/
theorem unansweredLoadIsRepeated : Obligations.UnansweredLoadIsRepeated := by
  intro s
  refine ⟨fun h => ⟨?_, ?_⟩, fun h a => ⟨fun ha => ?_, fun ha => ?_⟩⟩
  · exact attemptFails_cases (congrArg Host.Outcome.next (if_pos h))
  · exact attemptFails_cases (congrArg Host.Outcome.next (if_pos h))
  · exact congrArg Host.Outcome.next ((if_pos h).trans (startAttempt_clear s ha))
  · exact attemptFails_cases (s := { s with loader := { s.loader with answer := a } })
      (congrArg Host.Outcome.next ((if_pos h).trans (startAttempt_stuck s ha)))

/-- Settles O18. -/
theorem completedLoadIsJudged : Obligations.CompletedLoadIsJudged := by
  intro s memory h
  let driven : State := { s with loader := { s.loader with port := attemptLines s.loader.pulses memory } }
  have judged : s.judgeLoad memory = match judgeImage (readImage memory) with
      | some p => driven.acceptPlan p
      | none => State.enterBarred { driven with loader := { driven.loader with
          phase := .off, working := readImage memory } } .planBad := if_pos h
  constructor
  · intro p hp
    rw [hp] at judged
    have judged : s.judgeLoad memory = driven.acceptPlan p := judged
    refine ⟨_, congrArg Host.Outcome.next judged, rfl, rfl, rfl, ?_, row_enterJoining _ _, fun l => ?_, rfl, rfl, rfl, rfl, rfl, ?_⟩
    · simp [State.acceptPlan, State.enterJoining]
    · rw [lane_of_map (s := s) (t := driven.acceptPlan p) (f := Lane.clearAll) rfl l]
      exact ⟨rfl, rfl, rfl, rfl, rfl, rfl, rfl⟩
    · simp [driven, State.acceptPlan, State.enterJoining, State.peer, State.setPeer, PeerRec.restart]
  · intro hp
    rw [hp] at judged
    exact ⟨_, congrArg Host.Outcome.next judged, rfl, rfl, barredAfter_enterBarred _ _⟩

/-! ### Sending, and frames that do not complete -/

/-- Settles O19. -/
theorem sendingStartsWithTheFirstFrame : Obligations.SendingStartsWithTheFirstFrame := by
  intro s rivals e rest hmode hq
  have starts : s.startSending rivals = if (s.mode.onLink && s.lineIdle
      && !arbitrationLost (headerByte s.sender (QFrame.code e.frame)) rivals) = true then
      { s with link := s.link.start s.contents } else s := by
    rw [State.startSending, hq]
  have started : s.link.start s.contents
      = { s.link with queue := { e with onLine := true } :: rest, onAir := some (s.contents e.frame) } := by
    rw [Link.start, hq]
  refine ⟨fun hfound hair hwon => ?_, fun hfound hair hlost => ?_, fun hbusy => ?_, rfl, rfl, rfl, fun _ => rfl⟩
  all_goals
    refine congrArg Host.Outcome.next (starts.trans ?_)
  · rw [if_pos (by simp [hmode, State.lineIdle, hfound, hair, hwon]), started]
  · exact if_neg (by simp [hlost])
  · refine if_neg fun hidle => ?_
    simp only [State.lineIdle, Bool.and_eq_true] at hidle
    rcases hbusy with hb | hb
    · simp [hb] at hidle
    · cases hair : s.link.onAir <;> simp [hair] at hb hidle

/-- Settles O20. -/
theorem duplicateNumberBars : Obligations.DuplicateNumberBars := by
  intro s
  refine ⟨fun hair => ?_, fun hmode hair => ?_⟩
  · exact ⟨_, congrArg Host.Outcome.next (if_pos hair), barredAfter_enterBarred s _⟩
  · have heard : s.ownNumberHeard true = s.markSeen.enterBarred .duplicate := if_pos (by simp [hmode, hair])
    exact ⟨_, congrArg Host.Outcome.next heard, barredAfter_enterBarred s.markSeen _, rfl⟩

theorem satInc_lt {limit n : Nat} (h : n < limit) : satInc limit n = n + 1 := if_pos h
theorem satInc_le {limit n : Nat} (h : limit ≤ n + 1) : satInc limit n = limit := by
  rw [satInc]
  split <;> omega

theorem appliesFrames_of_onLink {m : Mode} (h : m.onLink = true) (hm : m ≠ .isolated) : m.appliesFrames = true := by
  cases m <;> simp_all [Mode.onLink, Mode.appliesFrames]

theorem onLink_of_appliesFrames {m : Mode} (h : m.appliesFrames = true) : m.onLink = true := by
  cases m <;> simp_all [Mode.onLink, Mode.appliesFrames]

/-- A failed frame's mark on the line (R145). -/
def State.failMark (s : State) (raw : RawFrame) : AckMark :=
  if raw.endless = true ∨ s.mode = .isolated then .none else .spoil

theorem checkFailed_eq (s : State) (raw : RawFrame) :
    s.checkFailed raw = if satInc 8 s.link.badRx = 8 ∧ s.mode.appliesFrames = true then
        State.enterIsolated { s with link := { s.link with ack := s.failMark raw, badRx := satInc 8 s.link.badRx } }
      else { s with link := { s.link with ack := s.failMark raw, badRx := satInc 8 s.link.badRx } } := by
  have mark : s.failMark raw = if raw.endless || s.mode == .isolated then AckMark.none else AckMark.spoil := by
    simp [State.failMark]
  rw [mark]
  rfl

/-- Settles O21. -/
theorem foreignFramesThatDoNotComplete : Obligations.ForeignFramesThatDoNotComplete := by
  refine ⟨fun s raw hmode hfresh hcheck => ?_, fun s sender hne => ⟨fun hmode => ?_, fun hmode => ?_⟩⟩
  · have failed : s.rawFrame raw = s.checkFailed raw := by
      rw [State.rawFrame, if_pos (by simp [hmode, hfresh]), hcheck]
    refine ⟨fun hfew => congrArg Host.Outcome.next ?_, fun hmany hiso => ?_⟩
    · rw [failed, checkFailed_eq, if_neg]
      · rfl
      · rintro ⟨h8, happlies⟩
        rcases hfew with hfew | hiso
        · rw [satInc_lt (by omega)] at h8
          omega
        · exact ne_isolated_of_appliesFrames happlies hiso
    · have h8 := satInc_le (limit := 8) (n := s.link.badRx) (by omega)
      rw [checkFailed_eq, if_pos ⟨h8, appliesFrames_of_onLink hmode hiso⟩] at failed
      refine ⟨_, congrArg Host.Outcome.next ((if_pos ?_).trans failed), congrArg Host.Outcome.next failed, ?_, ?_⟩
      · exact ⟨hmany, appliesFrames_of_onLink hmode hiso, hcheck⟩
      · exact isolatedAfter_enterIsolated _
      · rw [State.enterIsolated, homeAssignment_eq]
        exact (badRx_of_skeleton (skeleton_requestRoll _)).trans h8
  · have spoiled : s.spoiledFrame sender true = s.markSeen := by
      have hiso : s.markSeen.mode ≠ .isolated := ne_isolated_of_appliesFrames hmode
      rw [State.spoiledFrame, if_neg hne, if_pos (by simp [onLink_of_appliesFrames hmode])]
      exact if_neg hiso
    exact congrArg Host.Outcome.next spoiled
  · have spoiled : s.spoiledFrame sender true = s.markSeen.enterJoining (some .isolationEnd) := by
      have hiso : s.markSeen.mode = .isolated := hmode
      rw [State.spoiledFrame, if_neg hne, if_pos (by simp [hmode, Mode.onLink])]
      exact if_pos hiso
    exact ⟨_, congrArg Host.Outcome.next spoiled, joiningAfter_enterJoining s.markSeen _⟩

/-- Settles O22. -/
theorem spoiledOwnFrameStaysQueued : Obligations.SpoiledOwnFrameStaysQueued := by
  intro s hair
  obtain ⟨f, hf⟩ := Option.isSome_iff_exists.1 hair
  have spoiled : s.ownSpoiled = if satInc 8 s.link.spoil = 8 then
      State.enterMute { s with link := { s.link.stayQueued with spoil := satInc 8 s.link.spoil } }
      else { s with link := { s.link.stayQueued with spoil := satInc 8 s.link.spoil } } := by
    rw [State.ownSpoiled, hf]
  refine ⟨fun hfew => ?_, fun hmany => ?_⟩
  · rw [satInc_lt (by omega), if_neg (by omega)] at spoiled
    exact ⟨_, congrArg Host.Outcome.next spoiled, rfl, rfl, rfl, rfl, rfl, rfl, rfl, rfl⟩
  · rw [if_pos (satInc_le (by omega))] at spoiled
    exact ⟨_, congrArg Host.Outcome.next ((if_pos (by simp [hmany])).trans spoiled), congrArg Host.Outcome.next spoiled,
      muteAfter_enterMute _⟩

/-- Leaving the line touches no streak and no roll number. -/
theorem wires_leaveLine (l : Link) : l.leaveLine.wires = { l.wires with onAir := none } := by
  simp only [Link.leaveLine]
  split
  · exact wires_join _ _
  · split
    · exact wires_join _ _
    · rfl

/-- Settles O23: no block applies a void frame, and settling keeps what the skeleton holds. -/
theorem unseenOwnFrameIsVoid : Obligations.UnseenOwnFrameIsVoid := by
  intro s hair hpeer hmode
  obtain ⟨f, hf⟩ := Option.isSome_iff_exists.1 hair
  let left (n : Nat) : State := { s with link := { s.link.leaveLine with spoil := 0, unseen := n } }
  have void : s.ownVoid = if satInc 8 s.link.unseen = 8 ∧ s.mode.appliesFrames = true then
      (left (satInc 8 s.link.unseen)).enterIsolated
      else ((left (satInc 8 s.link.unseen)).framesFallDue.resendVoid f).settle true := by
    rw [State.ownVoid, hf]
    exact if_neg (by simp [hpeer])
  have hwires (n : Nat) : (left n).link.onAir = none ∧ (left n).link.lastRoll = s.link.lastRoll := by
    have h := wires_leaveLine s.link
    exact ⟨(congrArg Link.onAir h :), (congrArg Link.lastRoll h :)⟩
  refine ⟨fun hfew => ?_, fun hmany => ?_⟩
  · rw [if_neg] at void
    · have hskel : s.ownVoid.skeleton = (left (satInc 8 s.link.unseen)).skeleton := by simp [void]
      obtain ⟨honAir, hroll⟩ := hwires (satInc 8 s.link.unseen)
      exact ⟨_, rfl, (unseen_of_skeleton hskel).trans (satInc_lt (by omega)), spoil_of_skeleton hskel,
        (onAir_of_skeleton hskel).trans honAir, fun k => (row_of_skeleton hskel k :), (dir_of_skeleton hskel :),
        (lastRoll_of_skeleton hskel).trans hroll, (echoPointer_of_skeleton hskel :), (sel_of_skeleton hskel :),
        (joinMark_of_skeleton hskel :)⟩
    · rw [satInc_lt (by omega)]
      omega
  · rw [if_pos ⟨satInc_le (by omega), hmode⟩] at void
    exact ⟨_, congrArg Host.Outcome.next ((if_pos (by simp [hmode, hmany])).trans void),
      congrArg Host.Outcome.next void, isolatedAfter_enterIsolated _⟩

/-! ### The station's timers -/

/-- What the expiry of the join quiet timer makes of a row. -/
theorem row_openUnknown (k : Nat) (s : State) (hk : k < s.table.length) :
    (State.openUnknown k s).row k = if s.row k = .unknown then .opened 0#16 none 0 else s.row k := by
  rw [State.openUnknown]
  cases hr : s.row k with
  | unknown => exact s.row_putRow_self _ hk
  | _ => simp [Row.isUnknown, hr]

theorem row_openUnknown_ne {k j : Nat} (s : State) (hj : j ≠ k) : (State.openUnknown k s).row j = s.row j := by
  rw [State.openUnknown]
  split
  · exact s.row_putRow_ne _ hj
  · rfl

theorem length_openUnknown (k : Nat) (s : State) : (State.openUnknown k s).table.length = s.table.length := by
  rw [State.openUnknown]
  split
  · exact s.length_setEntry k _
  · rfl

theorem row_openSlots (ks : List Nat) (hks : ks.Nodup) (s : State) (j : Nat) (hj : j < s.table.length) :
    (ks.foldl (fun s k => State.openUnknown k s) s).row j
      = if j ∈ ks ∧ s.row j = .unknown then .opened 0#16 none 0 else s.row j := by
  induction ks generalizing s with
  | nil => simp
  | cons k ks ih =>
    obtain ⟨hnot, hks⟩ := List.nodup_cons.1 hks
    rw [List.foldl_cons, ih hks _ (by rwa [length_openUnknown])]
    by_cases hjk : j = k
    · subst hjk
      rw [if_neg (fun h => hnot h.1), row_openUnknown j s hj]
      simp
    · rw [row_openUnknown_ne s hjk]
      simp [hjk]

theorem length_openSlots (ks : List Nat) (s : State) :
    (ks.foldl (fun s k => State.openUnknown k s) s).table.length = s.table.length := by
  induction ks generalizing s with
  | nil => rfl
  | cons k ks ih => rw [List.foldl_cons, ih, length_openUnknown]

/-- A table without an UNKNOWN row, row by row. -/
theorem all_known_iff (s : State) :
    s.table.all (fun e => !e.row.isUnknown) = true ↔ ∀ k, k < s.table.length → (s.row k).isUnknown = false := by
  rw [List.all_eq_true]
  constructor
  · intro h k hk
    simpa [State.row, List.getElem?_eq_getElem hk] using h s.table[k] (List.getElem_mem hk)
  · intro h e he
    obtain ⟨k, hk, rfl⟩ := List.getElem_of_mem he
    simpa [State.row, List.getElem?_eq_getElem hk] using h k hk

/-- The station after the expiry of the join quiet timer has opened the rows still UNKNOWN (R164). -/
def State.opened (s : State) : State :=
  (List.range s.table.length).foldl (fun s k => State.openUnknown k s) { s with joinQuiet := none }

theorem opened_eq (s : State) : s.opened = { s with joinQuiet := none, table := s.opened.table } := by
  have fold (ks : List Nat) (u : State) : ks.foldl (fun s k => State.openUnknown k s) u
      = { u with table := (ks.foldl (fun s k => State.openUnknown k s) u).table } := by
    induction ks generalizing u with
    | nil => rfl
    | cons k ks ih =>
      have one : State.openUnknown k u = { u with table := (State.openUnknown k u).table } := by
        rw [State.openUnknown]
        split <;> rfl
      rw [List.foldl_cons, ih, one]
  exact fold _ _

theorem row_opened (s : State) {k : Nat} (hk : k < s.table.length) :
    s.opened.row k = if s.row k = .unknown then .opened 0#16 none 0 else s.row k := by
  have h := row_openSlots (List.range s.table.length) List.nodup_range { s with joinQuiet := none } k hk
  have hmem : k ∈ List.range s.table.length := List.mem_range.2 hk
  exact h.trans (if_congr (and_iff_right hmem) rfl rfl)

theorem opened_joins_iff {s : State} (h : s.mode = .joining) : s.opened.joins ↔ s.joinMark = true := by
  have hmode : s.opened.mode = .joining := by rw [opened_eq]; exact h
  have hmark : s.opened.joinMark = s.joinMark := by rw [opened_eq]
  have hrows : s.opened.table.all (fun e => !e.row.isUnknown) = true := by
    refine (all_known_iff _).2 fun k hk => ?_
    rw [State.opened, length_openSlots] at hk
    rw [row_opened s hk]
    cases hr : s.row k <;> simp [Row.isUnknown]
  rw [State.joins, hmark]
  exact ⟨fun hj => hj.2.1, fun hj => ⟨hmode, hj, hrows⟩⟩

/-- Settles O44. -/
theorem rollMuteAndJoinTimers : Obligations.RollMuteAndJoinTimers := by
  intro s
  refine ⟨fun h => congrArg Host.Outcome.next (if_pos h), fun h => ?_, fun h hmode => ?_⟩
  · exact ⟨_, congrArg Host.Outcome.next (if_pos h), joiningAfter_enterJoining s _⟩
  · have expired : s.joinQuietExpired = s.opened.settle false := if_pos h
    refine ⟨_, congrArg Host.Outcome.next expired, ?_, fun k hk => ?_, ?_⟩
    · by_cases hj : s.opened.joins
      · rw [(within_settle_joins hj false).joinQuiet, enterJoined_eq]
      · rw [(within_settle hj false).joinQuiet, opened_eq]
    · rw [row_settle, row_opened s hk]
    · by_cases hj : s.opened.joins
      · rw [mode_settle_joins hj, if_pos ((opened_joins_iff hmode).1 hj)]
      · rw [mode_settle hj, if_neg (mt (opened_joins_iff hmode).2 hj), opened_eq]
        exact hmode

end Sys2Proof.Machine
end

section
/-! # Lane events that do not settle: the ladder, sync hits and misses (R87 to R111) -/

namespace Sys2Proof.Machine

open Sys2Proof.Safety

/-! ### A frame that joins a queue with room -/

/-- A queue that is not full takes every frame (R152). -/
theorem queued_send {s : State} {f : Frame} {p : Frame → Bool} (hroom : s.link.queue.length < 8) (hp : p f = true) :
    (s.send f).link.queued p = true := by
  have hqueue : (s.send f).link.queue = insertEntry { frame := .fixed f, onLine := false } s.link.queue := by
    rw [State.send_link, Link.join_queue, arrive, if_pos hroom]
  rw [Link.queued, hqueue]
  exact List.any_eq_true.2 ⟨{ frame := .fixed f, onLine := false }, (insertEntry_perm _ _).symm.subset (by simp), hp⟩

/-! ### The BID of a locked trial -/

theorem sendBid_carrier {s : State} {l : LaneId} {k : Nat} (hslot : (s.lane l).slot = some k)
    (hmark : (s.lane l).mark.bidsCarrier = true) (hopen : (s.row k).isOpen = true) :
    s.sendBid l = (s.modLane l fun x => { x with bidTerm := some (s.termOf k + 1#16) }).send
      (.bid (byteOf k) 0#8 (s.termOf k + 1#16) (byteOf l.val) (byteOf (s.lane l).margin)) := by
  simp only [State.sendBid, hslot]
  exact if_pos (by simp [hmark, hopen])

theorem not_bidsCarrier_of_bidsStandby {m : ClaimMark} (h : m.bidsStandby = true) : m.bidsCarrier = false := by
  rcases m with _ | _ | _ | b | _ | _
  case late => cases b <;> first | rfl | cases h
  all_goals first | rfl | cases h

theorem sendBid_standby {s : State} {l : LaneId} {k : Nat} (hslot : (s.lane l).slot = some k)
    (hmark : (s.lane l).mark.bidsStandby = true) (hlacks : (s.row k).lacksStandby = true) :
    s.sendBid l = (s.modLane l fun x => { x with bidTerm := some (s.termOf k) }).send
      (.bid (byteOf k) 1#8 (s.termOf k) (byteOf l.val) (byteOf (s.lane l).margin)) := by
  simp only [State.sendBid, hslot, not_bidsCarrier_of_bidsStandby hmark]
  rw [if_neg (by simp), if_pos (by simp [hmark, hlacks])]

/-- The BID of a trial changes the term that the lane bids at and the queue. -/
theorem sendBid_cases (s : State) (l : LaneId) :
    s.sendBid l = s ∨ ∃ t f, s.sendBid l = (s.modLane l fun x => { x with bidTerm := some t }).send f := by
  simp only [State.sendBid]
  repeat' split
  · exact .inl rfl
  · exact .inr ⟨_, _, rfl⟩
  · exact .inr ⟨_, _, rfl⟩
  · exact .inl rfl

theorem within_sendBid (s : State) (l : LaneId) : Within s (s.sendBid l) := by
  obtain h | ⟨t, f, h⟩ := sendBid_cases s l
  · rw [h]
    exact .refl s
  · rw [h]
    exact (within_modLane s l _).trans (within_send _ f)

/-- The lane's own record that a BID is out, blanked. -/
theorem lane_sendBid (s : State) (l : LaneId) :
    ∃ b, (s.sendBid l).lane l = { s.lane l with bidTerm := b } := by
  obtain h | ⟨t, f, h⟩ := sendBid_cases s l
  · exact ⟨_, by rw [h]⟩
  · exact ⟨some t, by rw [h, lane_send, State.lane_modLane_self]⟩

/-! ### Locked events -/

theorem within_lockedEvent (s : State) (l : LaneId) (again : Bool) : Within s (s.lockedEvent l again) := by
  simp only [State.lockedEvent]
  split
  · exact within_ite (.refl s) (within_sendBid s l)
  · exact within_ite (.refl s) (within_modLane s l _)
  · exact .refl s

theorem table_sendBid (s : State) (l : LaneId) : (s.sendBid l).table = s.table := by
  obtain h | ⟨t, f, h⟩ := sendBid_cases s l
  · rw [h]
  · rw [h]
    rfl

theorem table_lockedEvent (s : State) (l : LaneId) (again : Bool) : (s.lockedEvent l again).table = s.table := by
  simp only [State.lockedEvent]
  repeat' split
  · rfl
  · exact table_sendBid s l
  all_goals rfl

theorem Within.eq_of_table {s t : State} (h : Within s t) (ht : t.table = s.table) :
    t = { s with lanes := t.lanes, link := t.link } := h.eq.trans (by rw [ht])

/-- A locked event changes the lane's BID term, or opens the gate of a HOME lane. -/
theorem lane_lockedEvent (s : State) (l : LaneId) (again : Bool) :
    (∃ b, (s.lockedEvent l again).lane l = { s.lane l with bidTerm := b })
      ∨ (s.lane l).role = .home ∧ (s.lockedEvent l again).lane l = (s.lane l).openGate := by
  simp only [State.lockedEvent]
  split
  · split
    · exact .inl ⟨_, rfl⟩
    · exact .inl (lane_sendBid s l)
  · split
    · exact .inl ⟨_, rfl⟩
    · exact .inr ⟨‹_›, State.lane_modLane_self s l _⟩
  · exact .inl ⟨_, rfl⟩

theorem lockedEvent_home {s : State} {l : LaneId} (h : (s.lane l).role = .home) :
    s.lockedEvent l false = s.modLane l Lane.openGate := by
  simp only [State.lockedEvent, h]
  rfl

theorem lockedEvent_trial {s : State} {l : LaneId} (h : (s.lane l).role = .trial) : s.lockedEvent l false = s.sendBid l := by
  simp only [State.lockedEvent, h]
  rfl

/-- A lane that has just locked. -/
def State.locking (s : State) (l : LaneId) (pos : Nat) : State :=
  s.modLane l fun x => x.lock pos (syncHitsK (s.profile x.slot))

theorem lane_locking (s : State) (l : LaneId) (pos : Nat) :
    (s.locking l pos).lane l = (s.lane l).lock pos (syncHitsK (s.profile (s.lane l).slot)) := State.lane_modLane_self s l _

/-- What every locked event leaves of the lane that has locked. -/
theorem lane_locked (s : State) (l : LaneId) (pos : Nat) (again : Bool) {y : Lane}
    (hy : y = ((s.locking l pos).lockedEvent l again).lane l) :
    y.state = .locked ∧ y.sync = ((s.lane l).lock pos (syncHitsK (s.profile (s.lane l).slot))).sync
      ∧ y.lockClock = some 0 ∧ y.stateTimer = none ∧ y.role = (s.lane l).role ∧ y.settings = (s.lane l).settings
      ∧ y.buffer = (s.lane l).buffer := by
  obtain ⟨b, h⟩ | ⟨-, h⟩ := lane_lockedEvent (s.locking l pos) l again
  all_goals
    rw [hy, h, lane_locking]
    simp [Lane.lock]

/-- Settles O49: each event is a write to its lane. -/
theorem tuneGuardAndLockMinute : Obligations.TuneGuardAndLockMinute :=
  ⟨fun _ _ => ⟨fun h => congrArg Host.Outcome.next (if_pos h), fun h => congrArg Host.Outcome.next (if_pos h),
    fun h hclock => congrArg Host.Outcome.next (if_pos ⟨h, hclock⟩)⟩, rfl, rfl⟩

/-- Settles O53: the cases of `State.hit` and `State.miss`. -/
theorem hitsAndMisses : Obligations.HitsAndMisses := by
  intro s l pos
  refine ⟨fun hstate hhit hlocks hreturns => ?_, fun hboundary => ⟨fun hstate => ?_, fun hlocked hfew => ?_,
    fun hlocked hmany => ?_⟩⟩
  · refine congrArg Host.Outcome.next ?_
    rw [State.hit, if_neg (by simp [hlocks]), if_neg (by simp [hreturns])]
    exact if_pos ⟨hstate, hhit⟩
  · have hends : s.missEnds l pos = false := by
      rcases hstate with h | h <;> simp [State.missEnds, h]
    refine congrArg Host.Outcome.next ?_
    simp only [State.miss, hends, if_pos hboundary, Bool.false_eq_true, if_false]
    rcases hstate with h | h <;> simp only [h]
  · have hends : s.missEnds l pos = false := by
      simp [State.missEnds, hlocked]
      omega
    refine congrArg Host.Outcome.next ?_
    simp only [State.miss, hends, if_pos hboundary, Bool.false_eq_true, if_false, hlocked]
  · have hends : s.missEnds l pos = true := by simp [State.missEnds, hlocked, hboundary, hmany]
    have hmiss : s.miss l pos = s.setLane l ((s.lane l).holdOver (s.profile (s.lane l).slot)) := if_pos hends
    exact ⟨_, congrArg Host.Outcome.next ((if_pos hends).trans hmiss), congrArg Host.Outcome.next hmiss, rfl, rfl, rfl, rfl,
      rfl, rfl, rfl, rfl, rfl, rfl, rfl⟩

theorem eq_locked (s : State) (l : LaneId) (pos : Nat) (again : Bool) :
    (s.locking l pos).lockedEvent l again
      = { s with lanes := ((s.locking l pos).lockedEvent l again).lanes,
                 link := ((s.locking l pos).lockedEvent l again).link } :=
  ((within_modLane s l _).trans (within_lockedEvent _ l again)).eq_of_table (table_lockedEvent _ l again)

theorem acq3Lock_trial {s : State} {l : LaneId} {pos : Nat} (h : (s.lane l).role = .trial) :
    s.acq3Lock l pos = (s.locking l pos).sendBid l :=
  lockedEvent_trial (s := s.locking l pos) (by rw [lane_locking]; exact h)

/-- Settles O52: the hit that brings the counter to K locks the lane, and a locked event follows. -/
theorem lanesLock : Obligations.LanesLock := by
  intro s l pos hhit hcount
  refine ⟨fun hstate => ?_, fun hstate hqualified => ?_⟩
  · have hlocks : s.locksAt l pos = true := by simp [State.locksAt, hstate, hhit, hcount]
    obtain ⟨state, sync, clock, timer, role, settings, -⟩ := lane_locked s l pos false rfl
    refine ⟨_, congrArg Host.Outcome.next (if_pos hlocks), congrArg Host.Outcome.next (if_pos hlocks), ?_, state,
      congrArg Sync.synced sync, congrArg Sync.boundary sync, congrArg Sync.misses sync, clock, timer, role, settings,
      fun hhome => ?_, fun k htrial hslot hmark hopen hroom => ?_, fun k htrial hslot hmark hlacks hroom => ?_⟩
    · exact eq_locked s l pos false
    · have hrole : ((s.locking l pos).lane l).role = .home := by rw [lane_locking]; exact hhome
      rw [State.acq3Lock, ← State.locking, lockedEvent_home hrole, State.lane_modLane_self, Lane.openGate_gate]
    · have hbid := sendBid_carrier (s := s.locking l pos) (l := l) (k := k) (by rw [lane_locking]; exact hslot)
        (by rw [lane_locking]; exact hmark) hopen
      rw [acq3Lock_trial htrial, hbid, lane_send, State.lane_modLane_self, lane_locking]
      exact ⟨queued_send hroom (beq_self_eq_true _), rfl⟩
    · have hbid := sendBid_standby (s := s.locking l pos) (l := l) (k := k) (by rw [lane_locking]; exact hslot)
        (by rw [lane_locking]; exact hmark) hlacks
      rw [acq3Lock_trial htrial, hbid, lane_send, State.lane_modLane_self, lane_locking]
      exact ⟨queued_send hroom (beq_self_eq_true _), rfl⟩
  · have hlocks : s.locksAt l pos = false := by simp [State.locksAt, hstate]
    have hreturns : s.returnsAt l pos = true := by simp [State.returnsAt, hstate, hqualified, hhit, hcount]
    obtain ⟨state, sync, clock, -, role, settings, buffer⟩ := lane_locked s l pos true rfl
    have hsame : s.hit l pos = s.holdoverBack l pos := (if_neg (by simp [hlocks])).trans (if_pos hreturns)
    exact ⟨_, congrArg Host.Outcome.next (if_pos hreturns), congrArg Host.Outcome.next hsame, eq_locked s l pos true, state,
      congrArg Sync.synced sync, congrArg Sync.qualified sync, clock, settings, role, buffer⟩

end Sys2Proof.Machine
end

section
/-! # Operations that change the link alone

The comparison of R67 and the frames that are queued again change the link and nothing else of a station, so what they do is said of
the link; a property of the link that each of the comparison's three steps keeps is kept by the whole (`HoldKeeps`). -/

namespace Sys2Proof.Machine

open Sys2Proof.Safety

/-- Nothing but the link differs. -/
def LinkOnly (s t : State) : Prop := t = { s with link := t.link }

theorem LinkOnly.refl (s : State) : LinkOnly s s := rfl

theorem LinkOnly.trans {s t u : State} (h : LinkOnly s t) (h' : LinkOnly t u) : LinkOnly s u := by
  rw [LinkOnly] at *
  rw [h', h]

theorem LinkOnly.lane {s t : State} (h : LinkOnly s t) (l : LaneId) : t.lane l = s.lane l := by rw [h]; rfl
theorem LinkOnly.row {s t : State} (h : LinkOnly s t) (k : Nat) : t.row k = s.row k := by rw [h]; rfl
theorem LinkOnly.lanes {s t : State} (h : LinkOnly s t) : t.lanes = s.lanes := by rw [h]
theorem LinkOnly.table {s t : State} (h : LinkOnly s t) : t.table = s.table := by rw [h]

theorem linkOnly_ite {s t u : State} {c : Prop} [Decidable c] (ht : LinkOnly s t) (hu : LinkOnly s u) :
    LinkOnly s (if c then t else u) := by
  split
  · exact ht
  · exact hu

theorem linkOnly_foldl {α : Type} (f : State → α → State) (h : ∀ s a, LinkOnly s (f s a)) (xs : List α) (s : State) :
    LinkOnly s (xs.foldl f s) := by
  induction xs generalizing s with
  | nil => exact .refl s
  | cons x xs ih => exact (h s x).trans (ih _)

theorem linkOnly_send (s : State) (f : Frame) : LinkOnly s (s.send f) := rfl
theorem linkOnly_withdraw (s : State) (p : Frame → Bool) : LinkOnly s (s.withdraw p) := rfl

theorem linkOnly_compareHold (s : State) (k : Nat) (t : Term) (w : Bool) (n : Nat) : LinkOnly s (s.compareHold k t w n) := by
  induction n generalizing s with
  | zero => exact .refl s
  | succ n ih =>
    rw [State.compareHold]
    split
    · refine linkOnly_ite (.refl s) (linkOnly_ite (linkOnly_send s _) (LinkOnly.trans ?_ (ih _)))
      rfl
    · exact linkOnly_ite (.refl s) (linkOnly_send s _)

theorem linkOnly_holdCheck (s : State) (l : LaneId) : LinkOnly s (s.holdCheck l) := by
  simp only [State.holdCheck]
  split
  · refine LinkOnly.trans ?_ (linkOnly_compareHold _ _ _ _ _)
    rfl
  · exact .refl s

theorem linkOnly_holdAgain (l : LaneId) (s : State) : LinkOnly s (State.holdAgain l s) := by
  simp only [State.holdAgain]
  split
  · exact linkOnly_ite (linkOnly_holdCheck s l) (.refl s)
  · exact .refl s

theorem linkOnly_holdsAgain (s : State) : LinkOnly s s.holdsAgain := linkOnly_foldl _ (fun s l => linkOnly_holdAgain l s) _ s

theorem linkOnly_sendOver (s : State) (f : Frame) : LinkOnly s (s.sendOver f) :=
  (linkOnly_send s f).trans (linkOnly_holdsAgain _)

theorem linkOnly_sendAgain (s : State) (q : QFrame) : LinkOnly s (s.sendAgain q) := by
  rw [State.sendAgain.eq_def]
  split
  · exact linkOnly_foldl _ (fun s l => linkOnly_ite (linkOnly_holdCheck s l) (.refl s)) _ s
  · exact linkOnly_ite ((linkOnly_withdraw s _).trans (linkOnly_send _ _)) (.refl s)
  · exact .refl s

theorem linkOnly_sendDue (s : State) : LinkOnly s s.sendDue := by
  refine LinkOnly.trans ?_ (linkOnly_foldl _ linkOnly_sendAgain _ _)
  rfl

/-! ### What the comparison of R67 keeps -/

/-- An entry that holds a SWAP-HOLD of the slot and is not on the line: what the comparison takes out of the queue. -/
def idleHold (k : Nat) (e : QEntry) : Bool := !e.onLine && e.frame.meets (isHoldFrame k)

/-- The three things that the comparison of R67 for a slot does to the link keep the property. -/
structure HoldKeeps (k : Nat) (I : Link → Prop) : Prop where
  forget : ∀ L, I L → I { L with owed := L.owed.filter (fun q => !q.meets (isHoldFrame k)),
                                 due := L.due.filter (fun q => !q.meets (isHoldFrame k)) }
  drop : ∀ L, I L → I { L with queue := dropLastWhere (idleHold k) L.queue }
  send : ∀ L t v, I L → I (L.join (.fixed (.swapHold (byteOf k) t v)))

theorem compareHold_succ (s : State) (k : Nat) (t : Term) (w : Bool) (n : Nat) :
    s.compareHold k t w (n + 1) = match s.link.latestHold k with
      | some (v, onLine) =>
        if v = w then s
        else if onLine then s.send (.swapHold (byteOf k) t (holdByte w))
        else State.compareHold { s with link := { s.link with queue := dropLastWhere (idleHold k) s.link.queue } } k t w n
      | none => if (s.row k).hold = w then s else s.send (.swapHold (byteOf k) t (holdByte w)) := rfl

section
variable {k : Nat} {I : Link → Prop}

theorem HoldKeeps.compareHold (keeps : HoldKeeps k I) {s : State} (h : I s.link) (t : Term) (w : Bool) (n : Nat) :
    I (s.compareHold k t w n).link := by
  induction n generalizing s with
  | zero => exact h
  | succ n ih =>
    rw [State.compareHold]
    split
    · split
      · exact h
      · split
        · exact keeps.send _ _ _ h
        · exact ih (keeps.drop _ h)
    · split
      · exact h
      · exact keeps.send _ _ _ h

theorem HoldKeeps.holdCheck {s : State} {l : LaneId}
    (keeps : ∀ k, (s.lane l).ctx.isTaker k = true → HoldKeeps k I) (h : I s.link) : I (s.holdCheck l).link := by
  simp only [State.holdCheck]
  split
  · rename_i k' t al tk hctx htk
    have keeps := keeps k' (by rw [hctx]; exact beq_self_eq_true k')
    exact keeps.compareHold (s := { s with link := _ }) (keeps.forget _ h) _ _ _
  · exact h

theorem HoldKeeps.holdAgain {s : State} {l : LaneId}
    (keeps : ∀ k, (s.lane l).ctx.isTaker k = true → HoldKeeps k I) (h : I s.link) : I (State.holdAgain l s).link := by
  simp only [State.holdAgain]
  split
  · split
    · exact HoldKeeps.holdCheck keeps h
    · exact h
  · exact h

theorem HoldKeeps.holdsAgain {s : State} (keeps : ∀ l k, (s.lane l).ctx.isTaker k = true → HoldKeeps k I) (h : I s.link) :
    I s.holdsAgain.link := by
  rw [State.holdsAgain, State.forLanes]
  induction allLanes generalizing s with
  | nil => exact h
  | cons l ls ih =>
    refine ih (fun m k hm => keeps m k ?_) (HoldKeeps.holdAgain (keeps l) h)
    rwa [(linkOnly_holdAgain l s).lane] at hm

end

/-! ### Frames that stay with their owner -/

theorem heldFrame_iff (L : Link) (p : Frame → Bool) :
    L.heldFrame p = true ↔ (∃ e ∈ L.queue, e.frame.meets p = true) ∨ (∃ q ∈ L.owed, q.meets p = true)
      ∨ ∃ q ∈ L.due, q.meets p = true := by
  simp [Link.heldFrame, Link.queued, or_assoc]

/-- An owed-kind frame that is held stays held while other frames join the queue: what the queue discards is owed (R64, R147). -/
theorem heldFrame_join_of_held {L : Link} {p : Frame → Bool} (howed : ∀ f, p f = true → isOwed (.fixed f) = true)
    (h : L.heldFrame p = true) (q : QFrame) : (L.join q).heldFrame p = true := by
  have hdue : (L.join q).due = L.due := by
    rw [Link.join, Link.discard.eq_def]
    repeat' split
    all_goals rfl
  have howedList : ∀ x ∈ L.owed, x ∈ (L.join q).owed := by
    intro x hx
    rw [Link.join, Link.discard.eq_def]
    repeat' split
    · exact hx
    · exact List.mem_append_left _ hx
    · exact hx
  have hqueue : ∀ e ∈ L.queue, e ∈ (L.join q).queue ∨ (arrive q L.queue).2 = some e.frame := by
    intro e he
    rw [Link.join_queue, arrive]
    split
    · exact .inl ((insertEntry_perm _ _).symm.subset (List.mem_cons_of_mem _ he))
    · split
      · exact .inl he
      · rename_i rest victim hv
        obtain ⟨-, hperm, -⟩ := takeNewestIdle_perm _ hv
        split
        · rcases List.mem_cons.1 (hperm.subset he) with rfl | hrest
          · exact .inr rfl
          · exact .inl ((insertEntry_perm _ _).symm.subset (List.mem_cons_of_mem _ hrest))
        · exact .inl he
  rw [heldFrame_iff] at h ⊢
  rcases h with ⟨e, he, hp⟩ | ⟨x, hx, hp⟩ | ⟨x, hx, hp⟩
  · rcases hqueue e he with hin | hout
    · exact .inl ⟨e, hin, hp⟩
    · refine .inr (.inl ⟨e.frame, ?_, hp⟩)
      cases hf : e.frame with
      | fixed f =>
        rw [hf] at hout hp
        rw [Link.join, hout, Link.discard, if_pos (howed f hp)]
        exact List.mem_append_right _ (List.mem_singleton_self _)
      | report => rw [hf] at hp; cases hp
      | roll => rw [hf] at hp; cases hp
  · exact .inr (.inl ⟨x, howedList x hx, hp⟩)
  · exact .inr (.inr ⟨x, hdue ▸ hx, hp⟩)

/-- A held frame that the withdrawal does not mean stays held. -/
theorem heldFrame_withdraw {L : Link} {p q : Frame → Bool} (hpq : ∀ f, p f = true → q f = false)
    (h : L.heldFrame p = true) : (L.withdraw q).heldFrame p = true := by
  have hmeets : ∀ x : QFrame, x.meets p = true → x.meets q = false := by
    intro x hx
    cases x with
    | fixed f => exact hpq f hx
    | report => rfl
    | roll => rfl
  rw [heldFrame_iff] at h ⊢
  rcases h with ⟨e, he, hp⟩ | ⟨x, hx, hp⟩ | ⟨x, hx, hp⟩
  · exact .inl ⟨e, List.mem_filter.2 ⟨he, by simp [hmeets _ hp]⟩, hp⟩
  · exact .inr (.inl ⟨x, List.mem_filter.2 ⟨hx, by simp [hmeets _ hp]⟩, hp⟩)
  · exact .inr (.inr ⟨x, List.mem_filter.2 ⟨hx, by simp [hmeets _ hp]⟩, hp⟩)

theorem mem_dropLastWhere {p : QEntry → Bool} {q : List QEntry} {e : QEntry} (he : e ∈ q) (hp : p e = false) :
    e ∈ dropLastWhere p q := by
  induction q with
  | nil => cases he
  | cons x xs ih =>
    rw [dropLastWhere]
    split
    · rename_i hx
      rcases List.mem_cons.1 he with rfl | he
      · simp [hp] at hx
      · exact he
    · rcases List.mem_cons.1 he with rfl | he
      · exact List.mem_cons_self
      · exact List.mem_cons_of_mem _ (ih he)

/-- The comparison of R67 keeps every frame but SWAP-HOLDs with its owner. -/
theorem holdKeeps_held {p : Frame → Bool} (howed : ∀ f, p f = true → isOwed (.fixed f) = true) {k : Nat}
    (hhold : ∀ f, p f = true → isHoldFrame k f = false) : HoldKeeps k fun L => L.heldFrame p = true := by
  have hmeets : ∀ x : QFrame, x.meets p = true → x.meets (isHoldFrame k) = false := by
    intro x hx
    cases x with
    | fixed f => exact hhold f hx
    | report => rfl
    | roll => rfl
  refine ⟨fun L h => ?_, fun L h => ?_, fun L t v h => heldFrame_join_of_held howed h _⟩
  · rw [heldFrame_iff] at h ⊢
    rcases h with h | ⟨x, hx, hp⟩ | ⟨x, hx, hp⟩
    · exact .inl h
    · exact .inr (.inl ⟨x, List.mem_filter.2 ⟨hx, by simp [hmeets _ hp]⟩, hp⟩)
    · exact .inr (.inr ⟨x, List.mem_filter.2 ⟨hx, by simp [hmeets _ hp]⟩, hp⟩)
  · rw [heldFrame_iff] at h ⊢
    rcases h with ⟨e, he, hp⟩ | h
    · exact .inl ⟨e, mem_dropLastWhere he (by simp [idleHold, hmeets _ hp]), hp⟩
    · exact .inr h

/-- No entry that is not on the line holds a frame that the test means. -/
def NoIdle (p : Frame → Bool) (L : Link) : Prop := ∀ e ∈ L.queue, e.onLine = false → e.frame.meets p = false

theorem noIdle_withdraw (L : Link) (p : Frame → Bool) : NoIdle p (L.withdraw p) := by
  intro e he hidle
  simpa [hidle] using (List.mem_filter.1 he).2

theorem NoIdle.withdraw {L : Link} {p : Frame → Bool} (h : NoIdle p L) (q : Frame → Bool) : NoIdle p (L.withdraw q) :=
  fun e he => h e (List.mem_filter.1 he).1

theorem NoIdle.join {L : Link} {p : Frame → Bool} (h : NoIdle p L) {q : QFrame} (hq : q.meets p = false) :
    NoIdle p (L.join q) := by
  intro e he hidle
  rw [Link.join_queue] at he
  rcases of_mem_arrive he with he | rfl
  · exact h e he hidle
  · exact hq

/-- The comparison of R67 queues SWAP-HOLDs alone. -/
theorem holdKeeps_noIdle {p : Frame → Bool} {k : Nat} (hhold : ∀ t v, p (.swapHold (byteOf k) t v) = false) :
    HoldKeeps k (NoIdle p) :=
  ⟨fun _ h => h, fun _ h e he => h e ((dropLastWhere_sublist _ _).subset he), fun _ t v h => h.join (hhold t v)⟩

/-- A frame that is no SWAP-HOLD, handed over outside a settling event, is held. -/
theorem heldFrame_sendOver {f : Frame} (howed : isOwed (.fixed f) = true) (hhold : ∀ k, isHoldFrame k f = false) (s : State) :
    (s.sendOver f).link.heldFrame (· == f) = true := by
  have means {P : Frame → Prop} (h : P f) (g : Frame) (hg : (g == f) = true) : P g := by rwa [beq_iff_eq.1 hg]
  exact HoldKeeps.holdsAgain (fun _ k _ => holdKeeps_held (means howed) (means (P := fun f => isHoldFrame k f = false) (hhold k)))
    (heldFrame_join _ f _ (beq_self_eq_true f) howed)

/-- Settles O48: nothing but the lane's context and the link changes. -/
theorem alignTimerDropsTheSwap : Obligations.AlignTimerDropsTheSwap := by
  intro s l k a term st hctx hst
  have expired : s.alignExpired l = ((s.withdraw (isReadyFrame k)).setCtx l (.taker k term (.dropping .alignTimeout) none)).sendOver
      (.swapDrop (byteOf k) term 0#8) := by
    simp only [State.alignExpired]
    rcases hst with rfl | rfl <;> rw [hctx] <;> rfl
  have only := linkOnly_sendOver ((s.withdraw (isReadyFrame k)).setCtx l (.taker k term (.dropping .alignTimeout) none))
    (.swapDrop (byteOf k) term 0#8)
  refine ⟨_, congrArg Host.Outcome.next expired, only.lanes, ?_, heldFrame_sendOver rfl (fun _ => rfl) _, ?_⟩
  · conv => lhs; rw [only]
    rw [only.lanes]
    rfl
  · intro e he hidle r hframe
    have noReady : NoIdle (isReadyFrame k) (State.sendOver ((s.withdraw (isReadyFrame k)).setCtx l
        (.taker k term (.dropping .alignTimeout) none)) (.swapDrop (byteOf k) term 0#8)).link :=
      HoldKeeps.holdsAgain (fun _ _ _ => holdKeeps_noIdle fun _ _ => rfl) ((noIdle_withdraw s.link _).join rfl)
    have := noReady e he hidle
    rw [hframe] at this
    exact absurd this (by simp [QFrame.meets, isReadyFrame])

end Sys2Proof.Machine
end

section
/-! # Windows: what is driven, what a giver counts, where a clash is marked (R123 to R134) -/

namespace Sys2Proof.Machine

open Sys2Proof.Safety

/-! ### The start of a window -/

theorem startWindow_idle {s : State} {n : Nat} (h : s.drivingLane n = none) :
    s.startWindow n = { s with bp := { pos := .inside n, driven := none, reader := s.readingLane n } } := by
  simp only [State.startWindow, h]

theorem startWindow_drives {s : State} {n k : Nat} {l : LaneId} {r : PacketRec} {rest : List PacketRec}
    (h : s.drivingLane n = some l) (hbuffer : (s.lane l).buffer = r :: rest) (hslot : (s.lane l).slot = some k) :
    s.startWindow n = { s.setLane l { s.lane l with buffer := rest } with
      bp := { pos := .inside n, reader := s.readingLane n,
              driven := some { lane := l, slot := k, packet := r, last := s.asksLast (s.lane l) } } } := by
  simp only [State.startWindow, h, hbuffer, hslot]

/-- The lane that drives a window has its gate open and is bound to a slot of the outlet (R125). -/
theorem drivingLane_some {s : State} {n : Nat} {l : LaneId} (h : s.drivingLane n = some l) :
    (s.lane l).gate = true ∧ s.onOutlet (s.lane l) n = true := by
  have := List.find?_some h
  simp only [Bool.and_eq_true] at this
  exact this.1

theorem outlet_of_onOutlet {s : State} {x : Lane} {n k : Nat} (h : s.onOutlet x n = true) (hslot : x.slot = some k) :
    s.outlet k = some n := by
  simpa [State.onOutlet, hslot] using h

theorem windowStarts_eq {s : State} {mark : Bool} {n : Nat} (h : s.bp.nextOutlet mark = some n) :
    s.windowStarts mark = s.startWindow n := by
  cases mark with
  | true =>
    obtain rfl := Option.some.inj h
    rfl
  | false =>
    rw [State.windowStarts, if_neg Bool.false_ne_true]
    rw [Backplane.nextOutlet, if_neg Bool.false_ne_true] at h
    split at h
    · obtain rfl := Option.some.inj h
      simp only
    · cases h

/-- A window that starts takes at most a record from a buffer. -/
theorem startWindow_leaves (s : State) (n : Nat) :
    (s.startWindow n).bp.pos = .inside n
      ∧ s.startWindow n = { s with lanes := (s.startWindow n).lanes, bp := (s.startWindow n).bp }
      ∧ ∀ l, ∃ b, (s.startWindow n).lane l = { s.lane l with buffer := b } := by
  simp only [State.startWindow]
  split
  · exact ⟨rfl, rfl, fun l => ⟨_, rfl⟩⟩
  · split
    · rename_i l _ _ _ r rest k hbuffer hslot
      refine ⟨rfl, rfl, fun m => ?_⟩
      by_cases hm : m = l
      · subst hm
        exact ⟨rest, s.lane_setLane_self m _⟩
      · exact ⟨_, s.lane_setLane_ne _ hm⟩
    · exact ⟨rfl, rfl, fun l => ⟨_, rfl⟩⟩

/-- Settles O58. -/
theorem windowsTakeTheHead : Obligations.WindowsTakeTheHead := by
  refine ⟨fun s mark n hn => ?_, fun s n hpos => ?_, fun s clock => ⟨fun h => ?_, fun d hd hclock => ?_⟩⟩
  · have hstart : exec (.windowStart mark) s = .next (s.startWindow n) := congrArg Host.Outcome.next (windowStarts_eq hn)
    refine ⟨fun hnone => hstart.trans (congrArg _ (startWindow_idle hnone)), fun l r rest k hl hbuffer hslot => ?_⟩
    obtain ⟨hgate, hon⟩ := drivingLane_some hl
    exact ⟨hgate, outlet_of_onOutlet hon hslot, hstart.trans (congrArg _ (startWindow_drives hl hbuffer hslot))⟩
  · obtain ⟨pos, eq, lanes⟩ := startWindow_leaves s 0
    refine ⟨s.startWindow 0, congrArg Host.Outcome.next (by simp only [State.cutShort, hpos]), rfl, pos, eq, fun l => ?_⟩
    obtain ⟨b, hl⟩ := lanes l
    rw [hl]
    exact ⟨rfl, rfl, rfl⟩
  · rcases h with h | h
    · simp only [State.busDriven, h]
    · simp only [State.busDriven]
      split
      · rfl
      · exact linesAt_tail _ h
  · simp only [State.busDriven, hd]
    exact linesAt_data d hclock

/-! ### The end of a window -/

/-- Where the cycle stands after window `n` (R123). -/
def portAfter (n : Nat) : Backplane :=
  { pos := if n < 19 then .between (n + 1) else .awaiting, driven := none, reader := none }

section
variable {s : State} {n : Nat} {w : WindowLines} (hpos : s.bp.pos = .inside n)
include hpos

theorem windowEnds_driven {d : Driven} (hdriven : s.bp.driven = some d) (hreader : s.bp.reader = none) :
    s.windowEnds w = State.placed { s with bp := portAfter n } d w := by
  simp only [State.windowEnds, hpos, hdriven, hreader]
  rfl

theorem windowEnds_idle (hdriven : s.bp.driven = none) (hreader : s.bp.reader = none) :
    s.windowEnds w = { s with bp := portAfter n } := by
  simp only [State.windowEnds, hpos, hdriven, hreader]
  rfl

theorem windowEnds_read {r : LaneId × Nat} (hdriven : s.bp.driven = none) (hreader : s.bp.reader = some r) :
    s.windowEnds w = State.readWindow { s with bp := portAfter n } n r w.bytes w.valid w.last := by
  simp only [State.windowEnds, hpos, hdriven, hreader]
  rfl

end

theorem placed_agrees {s : State} {d : Driven} {w : WindowLines} (h : readBackDiffers d w = false) :
    s.placed d w = s.countPlaced d := if_neg (by simp [h])

theorem placed_differs {s : State} {d : Driven} {w : WindowLines} (h : readBackDiffers d w = true) :
    s.placed d w = (s.countPlaced d).markClash d := if_pos h

/-! ### What a giver counts -/

section
variable {s : State} {d : Driven} {k rem ov : Nat} {t : Term} {stage : GiverStage}

theorem countPlaced_of_not_giver (h : (s.lane d.lane).ctx.isGiver d.slot = false) : s.countPlaced d = s := by
  simp only [State.countPlaced]
  split
  · rename_i k t st rem ov hctx
    rw [hctx] at h
    have hk : k ≠ d.slot := by simpa [SwapCtx.isGiver] using h
    rw [if_pos hk]
  · rfl

variable (hctx : (s.lane d.lane).ctx = .giver d.slot t stage rem ov)
include hctx

/-- A packet placed with LAST closes the giver (R72). -/
theorem countPlaced_last (hlast : d.last = true) (hstage : stage = .draining ∨ stage = .overrun) :
    s.countPlaced d = s.modLane d.lane fun x => { x with gate := false, ctx := .giver d.slot t .closed rem ov } := by
  simp only [State.countPlaced, hctx]
  rcases hstage with rfl | rfl <;> simp [hlast]

theorem countPlaced_counting (hstage : stage ∈ [.offering, .going, .dropping]) : s.countPlaced d = s := by
  simp only [State.countPlaced, hctx]
  simp only [List.mem_cons, List.not_mem_nil, or_false] at hstage
  rcases hstage with rfl | rfl | rfl <;> simp

end

section
variable {s : State} {d : Driven} {rem ov : Nat} {t : Term} (hlast : d.last = false)
include hlast

theorem countPlaced_draining (hctx : (s.lane d.lane).ctx = .giver d.slot t .draining (rem + 1) ov) :
    s.countPlaced d = s.setCtx d.lane (.giver d.slot t .draining rem ov) := by
  simp only [State.countPlaced, hctx]
  simp [hlast]

theorem countPlaced_overruns (hctx : (s.lane d.lane).ctx = .giver d.slot t .draining 0 ov) :
    s.countPlaced d = s.setCtx d.lane (.giver d.slot t .overrun 0 1) := by
  simp only [State.countPlaced, hctx]
  simp [hlast]

theorem countPlaced_limit (hctx : (s.lane d.lane).ctx = .giver d.slot t .overrun rem ov)
    (hlimit : (s.row d.slot).overrunLimit ≤ ov + 1) :
    s.countPlaced d
      = (s.setCtx d.lane (.giver d.slot t .dropping rem (ov + 1))).sendOver (.swapDrop (byteOf d.slot) t 2#8) := by
  simp only [State.countPlaced, hctx]
  simp [hlast, hlimit, DropReason.byte]

theorem countPlaced_overrun (hctx : (s.lane d.lane).ctx = .giver d.slot t .overrun rem ov)
    (hlimit : ov + 1 < (s.row d.slot).overrunLimit) :
    s.countPlaced d = s.setCtx d.lane (.giver d.slot t .overrun rem (ov + 1)) := by
  simp only [State.countPlaced, hctx]
  rw [if_neg (by simp), if_neg (by simp [hlast]), if_neg (by omega)]

end

/-- Settles O60: the cases of `State.countPlaced`. -/
theorem giversCloseOrOverrun : Obligations.GiversCloseOrOverrun := by
  intro s w l k n term
  refine ⟨fun mark r rest ov hn hl hreading hbuffer hslot hctx hagrees => ?_, ?_, ?_⟩
  · obtain ⟨hgate, -⟩ := drivingLane_some hl
    have hover : s.countdownOver mark = true := by simp [State.countdownOver, hn, hl, hctx]
    have hlast : s.asksLast (s.lane l) = !(s.row k).hold := by simp [State.asksLast, hctx]
    have hstart := startWindow_drives hl hbuffer hslot
    rw [hlast, hreading] at hstart
    obtain ⟨u, hu⟩ : ∃ u, u = ({ s.setLane l { s.lane l with buffer := rest } with bp := portAfter n } : State) := ⟨_, rfl⟩
    have hlane : u.lane l = { s.lane l with buffer := rest } := by rw [hu]; exact s.lane_setLane_self l _
    have hctx : (u.lane l).ctx = .giver k term .draining 0 ov := by rw [hlane]; exact hctx
    have hend : exec (.drainCountdownEnd mark w) s
        = .next (u.countPlaced { lane := l, slot := k, packet := r, last := !(s.row k).hold }) := by
      refine congrArg Host.Outcome.next ((if_pos hover).trans ?_)
      rw [windowStarts_eq hn, hstart, windowEnds_driven rfl rfl rfl, placed_agrees hagrees, hu]
    rw [hend]
    cases hhold : (s.row k).hold with
    | false =>
      rw [countPlaced_last hctx rfl (.inl rfl)]
      refine ⟨_, rfl, by rw [hu]; rfl, by rw [hu]; rfl, ?_, fun _ => ?_, nofun⟩
      all_goals rw [State.lane_modLane_self]
      · rw [hlane]
      · exact ⟨rfl, rfl⟩
    | true =>
      rw [countPlaced_overruns rfl hctx]
      refine ⟨_, rfl, by rw [hu]; rfl, by rw [hu]; rfl, ?_, nofun, fun _ => ?_⟩
      all_goals rw [State.setCtx, State.lane_modLane_self]
      · rw [hlane]
      · exact ⟨by rw [hlane]; exact hgate, rfl⟩
  · rintro d rem ov dc t' c sb lc h hpos hreader hdriven rfl rfl hlast hctx hrow hlimit hagrees
    have hat : s.overrunAtLimit = true := by simp [State.overrunAtLimit, hpos, hdriven, hctx, hlast, hrow, Row.overrunLimit, hlimit]
    have hend : s.windowEnds w = (State.setCtx { s with bp := portAfter n } d.lane
        (.giver d.slot term .dropping rem (ov + 1))).sendOver (.swapDrop (byteOf d.slot) term 2#8) := by
      rw [windowEnds_driven hpos hdriven hreader, placed_agrees hagrees]
      refine countPlaced_limit hlast hctx ?_
      have : State.row { s with bp := portAfter n } d.slot = s.row d.slot := rfl
      rw [this, hrow]
      exact hlimit
    refine ⟨_, congrArg Host.Outcome.next ((if_pos hat).trans hend), congrArg Host.Outcome.next hend, ?_, ?_, ?_,
      heldFrame_sendOver rfl (fun _ => rfl) _⟩
    · exact (linkOnly_sendOver _ _).table
    all_goals rw [(linkOnly_sendOver _ _).lane, State.setCtx, State.lane_modLane_self]
    rfl
  · rintro d stage rem ov hpos hreader hdriven rfl rfl hctx hagrees
    have counts {u : State} (h : State.countPlaced { s with bp := portAfter n } d = u) :
        exec (.windowEnd w) s = .next u :=
      congrArg Host.Outcome.next (by rw [windowEnds_driven hpos hdriven hreader, placed_agrees hagrees, h])
    have becomes (f : Lane → Lane) {gate : Bool} {ctx : SwapCtx} (hf : f (s.lane d.lane) = { s.lane d.lane with gate := gate, ctx := ctx })
        (h : State.countPlaced { s with bp := portAfter n } d = State.modLane { s with bp := portAfter n } d.lane f) :
        ∃ t, exec (.windowEnd w) s = .next t ∧ t.table = s.table ∧ t.link = s.link
          ∧ (∀ i, i ≠ d.lane → t.lane i = s.lane i) ∧ t.lane d.lane = { s.lane d.lane with gate := gate, ctx := ctx } :=
      ⟨_, counts h, rfl, rfl, fun i hi => State.lane_modLane_ne _ _ hi, (State.lane_modLane_self _ _ _).trans hf⟩
    refine ⟨fun m hlast hstage hrem => ?_, fun dc t' c sb lc h hlast hstage hrow hlimit => ?_, fun hlast hstage => ?_,
      fun hstage => ?_⟩
    · subst hstage hrem
      exact becomes _ rfl (countPlaced_draining hlast hctx)
    · subst hstage
      refine becomes _ rfl (countPlaced_overrun hlast hctx ?_)
      have : State.row { s with bp := portAfter n } d.slot = s.row d.slot := rfl
      rw [this, hrow]
      exact hlimit
    · exact becomes _ rfl (countPlaced_last hctx hlast hstage)
    · exact ⟨_, counts (countPlaced_counting hctx hstage), rfl, rfl, fun _ _ => rfl, rfl⟩

end Sys2Proof.Machine
end

section
/-! # The alignment test and the pairing meet their rules (R119, R120) -/

namespace Sys2Proof.Machine

open Sys2Proof.Safety

/-! ### Pairing -/

/-- The pairing of an ALIGNED lane is the one of R68 and R120. -/
theorem paired_pairUp (tr : List TraceEntry) (buf : List PacketRec) :
    paired tr buf (pairUp tr buf).1 (pairUp tr buf).2.1 (pairUp tr buf).2.2.1 (pairUp tr buf).2.2.2 := by
  induction tr, buf using pairUp.induct with
  | case1 buf => exact ⟨0, Nat.zero_le _, Nat.zero_le _, rfl, rfl, nofun, rfl, rfl, .inl ⟨rfl, .inr (.inl rfl)⟩⟩
  | case2 t ts => exact ⟨0, Nat.zero_le _, Nat.zero_le _, rfl, rfl, nofun, rfl, rfl, .inl ⟨rfl, .inr (.inr rfl)⟩⟩
  | case3 t ts b bs hs hl =>
    rw [pairUp, if_pos hs, if_pos hl]
    refine ⟨1, by simp, by simp, rfl, rfl, fun i e c hi he hc => ?_, rfl, by simp [hl], .inl ⟨rfl, .inl rfl⟩⟩
    obtain rfl : i = 0 := by omega
    obtain rfl := Option.some.inj he
    obtain rfl := Option.some.inj hc
    exact hs
  | case4 t ts b bs hs hl ih =>
    rw [pairUp, if_pos hs, if_neg hl]
    obtain ⟨n, htr, hbuf, htr', hbuf', hequal, hbefore, hconsumed, hend⟩ := ih
    refine ⟨n + 1, by simpa using htr, by simpa using hbuf, htr', hbuf', fun i e c hi he hc => ?_, ?_, ?_, hend⟩
    · cases i with
      | zero =>
        obtain rfl := Option.some.inj he
        obtain rfl := Option.some.inj hc
        exact hs
      | succ i => exact hequal i e c (by omega) he hc
    · cases n with
      | zero => rfl
      | succ n => simpa [hl] using hbefore
    · rw [hconsumed, List.take_succ_cons, List.any_cons, Bool.eq_false_iff.2 hl, Bool.false_or]
  | case5 t ts b bs hs =>
    rw [pairUp, if_neg hs]
    exact ⟨0, Nat.zero_le _, Nat.zero_le _, rfl, rfl, nofun, rfl, rfl, .inr ⟨rfl, rfl, t, ts, b, bs, rfl, rfl, hs⟩⟩

/-! ### The newest record with a signature -/

theorem afterNewest_none {sig : Word16} {buf : List PacketRec} (h : afterNewest sig buf = none) :
    ∀ b ∈ buf, b.signature ≠ sig := by
  induction buf with
  | nil => nofun
  | cons x xs ih =>
    rw [afterNewest] at h
    split at h
    · cases h
    · rename_i hrest
      split at h
      · cases h
      · intro b hb
        rcases List.mem_cons.1 hb with rfl | hb
        · assumption
        · exact ih hrest b hb

theorem afterNewest_some {sig : Word16} {buf rest : List PacketRec} (h : afterNewest sig buf = some rest) :
    ∃ i b, buf[i]? = some b ∧ b.signature = sig ∧ (∀ j c, i < j → buf[j]? = some c → c.signature ≠ sig)
      ∧ rest = buf.drop (i + 1) := by
  induction buf generalizing rest with
  | nil => cases h
  | cons x xs ih =>
    rw [afterNewest] at h
    split at h
    · rename_i r hr
      obtain rfl := Option.some.inj h
      obtain ⟨i, b, hb, hsig, hnewer, hdrop⟩ := ih hr
      refine ⟨i + 1, b, hb, hsig, fun j c hj hc => ?_, hdrop⟩
      cases j with
      | zero => omega
      | succ j => exact hnewer j c (by omega) hc
    · rename_i hnone
      split at h
      · rename_i hsig
        obtain rfl := Option.some.inj h
        refine ⟨0, x, rfl, hsig, fun j c hj hc => ?_, rfl⟩
        cases j with
        | zero => omega
        | succ j => exact afterNewest_none hnone c (List.mem_of_getElem? hc)
      · cases h

/-! ### The comparison of the entries after a match -/

/-- The first `n` entries, as many as there are, equal the records. -/
def firstAgree (n : Nat) (ts : List TraceEntry) (bs : List PacketRec) : Prop :=
  ∀ m f, m < n → ts[m]? = some f → ∃ c, bs[m]? = some c ∧ c.signature = f.signature

theorem firstAgree_succ {n : Nat} {t : TraceEntry} {ts : List TraceEntry} {b : PacketRec} {bs : List PacketRec}
    (h : t.signature = b.signature) (hrest : firstAgree n ts bs) : firstAgree (n + 1) (t :: ts) (b :: bs) := by
  intro m f hm hf
  cases m with
  | zero =>
    obtain rfl := Option.some.inj hf
    exact ⟨b, rfl, h.symm⟩
  | succ m => exact hrest m f (by omega) hf

/-- The three outcomes of the comparison (R119, steps 3 to 7). -/
theorem comparePairs_spec (n : Nat) (ts : List TraceEntry) (bs : List PacketRec) :
    comparePairs n ts bs = .equal ∧ n ≤ ts.length ∧ firstAgree n ts bs
      ∨ comparePairs n ts bs = .undecided ∧ ts.length < n ∧ firstAgree n ts bs
      ∨ comparePairs n ts bs = .differs ∧ ¬firstAgree n ts bs := by
  induction n, ts, bs using comparePairs.induct with
  | case1 ts bs => exact .inl ⟨rfl, Nat.zero_le _, nofun⟩
  | case2 n bs => exact .inr (.inl ⟨rfl, Nat.succ_pos n, nofun⟩)
  | case3 n t ts =>
    refine .inr (.inr ⟨rfl, fun h => ?_⟩)
    obtain ⟨c, hc, -⟩ := h 0 t (Nat.succ_pos n) rfl
    cases hc
  | case4 n t ts b bs hs ih =>
    rw [comparePairs, if_pos hs]
    rcases ih with ⟨hout, hlen, hagree⟩ | ⟨hout, hlen, hagree⟩ | ⟨hout, hdiffer⟩
    · exact .inl ⟨hout, Nat.succ_le_succ hlen, firstAgree_succ hs hagree⟩
    · exact .inr (.inl ⟨hout, Nat.succ_lt_succ hlen, firstAgree_succ hs hagree⟩)
    · exact .inr (.inr ⟨hout, fun h => hdiffer fun m f hm hf => h (m + 1) f (by omega) hf⟩)
  | case5 n t ts b bs hs =>
    rw [comparePairs, if_neg hs]
    refine .inr (.inr ⟨rfl, fun h => ?_⟩)
    obtain ⟨c, hc, hsig⟩ := h 0 t (Nat.succ_pos n) rfl
    obtain rfl := Option.some.inj hc
    exact hs hsig.symm

/-! ### The alignment test -/

/-- A match is at the newest record with the oldest entry's signature, and the entries after it agree. -/
theorem matchesAt_iff {t : TraceEntry} {ts : List TraceEntry} {buf rest : List PacketRec} {i : Nat} {b : PacketRec}
    (hb : buf[i]? = some b) (hsig : b.signature = t.signature)
    (hnewer : ∀ j c, i < j → buf[j]? = some c → c.signature ≠ t.signature) (hrest : rest = buf.drop (i + 1)) (i' : Nat) :
    matchesAt (t :: ts) buf i' ↔ i' = i ∧ firstAgree 3 ts rest := by
  have hat (n : Nat) : rest[n]? = buf[i + 1 + n]? := by rw [hrest, List.getElem?_drop]
  constructor
  · rintro ⟨e, es, b', heq, hb', hsig', hnewer', hagree⟩
    obtain ⟨rfl, rfl⟩ : t = e ∧ ts = es := by simpa using heq
    have hi : i' = i := by
      rcases Nat.lt_trichotomy i' i with hlt | rfl | hlt
      · exact absurd hsig (hnewer' i b hlt hb)
      · rfl
      · exact absurd hsig' (hnewer i' b' hlt hb')
    subst hi
    exact ⟨rfl, fun m f hm hf => by rw [hat]; exact hagree m f hm hf⟩
  · rintro ⟨rfl, hagree⟩
    exact ⟨t, ts, b, rfl, hb, hsig, hnewer, fun m f hm hf => by rw [← hat]; exact hagree m f hm hf⟩

/-- An oldest entry that does not match leaves the test to the entries after it. -/
theorem alignTested_cons {t : TraceEntry} {ts : List TraceEntry} {buf : List PacketRec} {tr' : List TraceEntry}
    {buf' : List PacketRec} {aligned consumed : Bool} (hno : ∀ i, ¬matchesAt (t :: ts) buf i)
    (h : alignTested ts buf tr' buf' aligned consumed) : alignTested (t :: ts) buf tr' buf' aligned consumed := by
  obtain ⟨d, hd, hbefore, hcases⟩ := h
  refine ⟨d + 1, Nat.succ_le_succ hd, fun c i hc => ?_, ?_⟩
  · cases c with
    | zero => exact hno i
    | succ c => exact hbefore c i (by omega)
  · rcases hcases with ⟨hlen, hrest⟩ | ⟨i, hi, hrest⟩
    · exact .inl ⟨by rw [hlen]; rfl, hrest⟩
    · refine .inr ⟨i, hi, ?_⟩
      have hlen : (t :: ts).length - (d + 1) = ts.length - d := by simp
      rw [hlen]
      exact hrest

/-- The alignment test is the one of R119. -/
theorem alignTested_alignTest (tr : List TraceEntry) (buf : List PacketRec) :
    alignTested tr buf (alignTest tr buf).1 (alignTest tr buf).2.1 (alignTest tr buf).2.2.1 (alignTest tr buf).2.2.2 := by
  induction tr with
  | nil => exact ⟨0, Nat.le_refl _, nofun, .inl ⟨rfl, rfl, rfl, rfl, rfl⟩⟩
  | cons t ts ih =>
    rw [alignTest]
    split
    · rename_i hnone
      refine alignTested_cons (fun i hmatch => ?_) ih
      obtain ⟨e, es, b, heq, hb, hsig, -⟩ := hmatch
      obtain ⟨rfl, rfl⟩ : t = e ∧ ts = es := by simpa using heq
      exact afterNewest_none hnone b (List.mem_of_getElem? hb) hsig
    · rename_i rest hrest
      obtain ⟨i, b, hb, hsig, hnewer, hdrop⟩ := afterNewest_some hrest
      have hmatch := matchesAt_iff (ts := ts) hb hsig hnewer hdrop
      rcases comparePairs_spec 3 ts rest with ⟨hout, hlen, hagree⟩ | ⟨hout, hlen, hagree⟩ | ⟨hout, hdiffer⟩
      all_goals rw [hout]; dsimp only
      · refine ⟨0, Nat.zero_le _, nofun, .inr ⟨i, (hmatch i).2 ⟨rfl, hagree⟩, ?_⟩⟩
        rw [if_pos (by simp only [List.length_cons]; omega)]
        refine ⟨rfl, ?_, rfl, ?_⟩
        · rw [hdrop, List.drop_drop]
        · rfl
      · refine ⟨0, Nat.zero_le _, nofun, .inr ⟨i, (hmatch i).2 ⟨rfl, hagree⟩, ?_⟩⟩
        rw [if_neg (by simp only [List.length_cons]; omega)]
        exact ⟨rfl, rfl, rfl, rfl⟩
      · exact alignTested_cons (fun i' hi' => hdiffer ((hmatch i').1 hi').2) ih

/-- What an arrival at a trace leads to (R118 to R120). -/
theorem traceTakes_traceStep (aligned : Bool) (tr : List TraceEntry) (buf : List PacketRec) (e : TraceEntry) :
    traceTakes aligned tr e buf (traceStep aligned tr buf e).1 (traceStep aligned tr buf e).2.1
      (traceStep aligned tr buf e).2.2.1 (traceStep aligned tr buf e).2.2.2 := by
  rw [traceTakes, traceStep]
  cases aligned with
  | true => exact ⟨_, paired_pairUp _ _, rfl⟩
  | false => exact alignTested_alignTest _ _

end Sys2Proof.Machine
end

section
/-! # The taker's pending hold (R67) and what the swap unit makes of an arrival (R65 to R69, R121) -/

namespace Sys2Proof.Machine

open Sys2Proof.Safety

/-! ### The latest SWAP-HOLD in the queue -/

/-- One entry of the queue, read for the latest SWAP-HOLD of the slot. -/
def holdRead (k : Nat) (acc : Option (Bool × Bool)) (e : QEntry) : Option (Bool × Bool) :=
  match e.frame with
  | .fixed (.swapHold slot _ hold) => if slot == byteOf k then some (hold == 1#8, e.onLine) else acc
  | _ => acc

theorem latestHold_eq (L : Link) (k : Nat) : L.latestHold k = L.queue.foldl (holdRead k) none := rfl

/-- An entry that holds no SWAP-HOLD of the slot is passed over. -/
theorem holdRead_of_not {k : Nat} {e : QEntry} (h : e.frame.meets (isHoldFrame k) = false) (acc : Option (Bool × Bool)) :
    holdRead k acc e = acc := by
  rw [holdRead]
  split
  · rename_i slot t v hf
    rw [hf] at h
    have hslot : ¬(slot == byteOf k) = true := by
      rw [Bool.eq_false_iff] at h
      exact h
    rw [if_neg hslot]
  · rfl

theorem foldl_holdRead_of_not {k : Nat} {q : List QEntry} (h : ∀ e ∈ q, e.frame.meets (isHoldFrame k) = false)
    (acc : Option (Bool × Bool)) : q.foldl (holdRead k) acc = acc := by
  induction q generalizing acc with
  | nil => rfl
  | cons x xs ih =>
    rw [List.foldl_cons, holdRead_of_not (h x List.mem_cons_self)]
    exact ih (fun e he => h e (List.mem_cons_of_mem _ he)) acc

theorem holdRead_some {k : Nat} {acc : Option (Bool × Bool)} {e : QEntry} {v on : Bool} (h : holdRead k acc e = some (v, on)) :
    acc = some (v, on) ∨ e.frame.meets (isHoldFrame k) = true ∧ e.onLine = on := by
  rw [holdRead] at h
  split at h
  · rename_i slot t w hf
    split at h
    · rename_i hslot
      obtain ⟨-, rfl⟩ : (w == 1#8) = v ∧ e.onLine = on := by simpa using h
      exact .inr ⟨by rw [hf]; exact hslot, rfl⟩
    · exact .inl h
  · exact .inl h

/-- The latest SWAP-HOLD stands in the queue. -/
theorem foldl_holdRead_some {k : Nat} {q : List QEntry} {acc : Option (Bool × Bool)} {v on : Bool}
    (h : q.foldl (holdRead k) acc = some (v, on)) :
    acc = some (v, on) ∨ ∃ e ∈ q, e.frame.meets (isHoldFrame k) = true ∧ e.onLine = on := by
  induction q generalizing acc with
  | nil => exact .inl h
  | cons x xs ih =>
    rcases ih h with hacc | ⟨e, he, hhold⟩
    · rcases holdRead_some hacc with hacc | hx
      · exact .inl hacc
      · exact .inr ⟨x, List.mem_cons_self, hx⟩
    · exact .inr ⟨e, List.mem_cons_of_mem _ he, hhold⟩

/-- An entry joins a sorted queue in front of entries of higher codes alone. -/
theorem insertEntry_split (e : QEntry) (q : List QEntry)
    (h : q.Pairwise fun a b => QFrame.code a.frame ≤ QFrame.code b.frame) :
    ∃ front back, insertEntry e q = front ++ e :: back ∧ ∀ x ∈ back, QFrame.code e.frame < QFrame.code x.frame := by
  induction q with
  | nil => exact ⟨[], [], rfl, nofun⟩
  | cons x xs ih =>
    rw [List.pairwise_cons] at h
    rw [insertEntry]
    split
    · rename_i hlt
      refine ⟨[], x :: xs, rfl, fun y hy => ?_⟩
      rcases List.mem_cons.1 hy with rfl | hy
      · exact hlt
      · exact Nat.lt_of_lt_of_le hlt (h.1 y hy)
    · obtain ⟨front, back, heq, hback⟩ := ih h.2
      exact ⟨x :: front, back, by rw [heq]; rfl, hback⟩

theorem code_of_hold {k : Nat} {q : QFrame} (h : q.meets (isHoldFrame k) = true) : q.code = 5 := by
  rcases q with f | _ | _
  · cases f <;> first | rfl | cases h
  · cases h
  · cases h

/-- The SWAP-HOLD that joins a sorted queue with room is the latest. -/
theorem latestHold_send {s : State} {k : Nat} {t : Term} {w : Bool}
    (hsorted : s.link.queue.Pairwise fun a b => QFrame.code a.frame ≤ QFrame.code b.frame) (hroom : s.link.queue.length < 8) :
    (s.send (.swapHold (byteOf k) t (holdByte w))).link.latestHold k = some (w, false) := by
  have hqueue : (s.send (.swapHold (byteOf k) t (holdByte w))).link.queue
      = insertEntry { frame := .fixed (.swapHold (byteOf k) t (holdByte w)), onLine := false } s.link.queue := by
    rw [State.send_link, Link.join_queue, arrive, if_pos hroom]
  obtain ⟨front, back, hsplit, hback⟩ := insertEntry_split
    { frame := .fixed (.swapHold (byteOf k) t (holdByte w)), onLine := false } _ hsorted
  have hnone : ∀ e ∈ back, e.frame.meets (isHoldFrame k) = false := by
    intro e he
    refine Bool.eq_false_iff.2 fun hhold => ?_
    have := hback e he
    rw [code_of_hold hhold] at this
    exact absurd this (Nat.lt_irrefl 5)
  have hvalue : (holdByte w == 1#8) = w := by cases w <;> rfl
  rw [latestHold_eq, hqueue, hsplit, List.foldl_append, List.foldl_cons, foldl_holdRead_of_not hnone]
  simp [holdRead, hvalue]

theorem countP_dropLastWhere {p : QEntry → Bool} {q : List QEntry} (h : q.any p = true) :
    (dropLastWhere p q).countP p + 1 = q.countP p := by
  induction q with
  | nil => cases h
  | cons x xs ih =>
    rw [dropLastWhere]
    split
    · rename_i hx
      rw [Bool.and_eq_true] at hx
      rw [List.countP_cons_of_pos hx.1]
    · rename_i hx
      have hxs : xs.any p = true := by
        cases hany : xs.any p with
        | true => rfl
        | false => simp_all
      rw [List.countP_cons, List.countP_cons, ← ih hxs]
      omega

/-- After the comparison the pending hold is the wanted one, where the queue has room for it. -/
theorem pendingHold_compareHold {s : State} {k : Nat} (t : Term) (w : Bool) {n : Nat}
    (hsorted : s.link.queue.Pairwise fun a b => QFrame.code a.frame ≤ QFrame.code b.frame) (hroom : s.link.queue.length < 8)
    (hfuel : s.link.queue.countP (idleHold k) < n) : pendingHold (s.compareHold k t w n) k = w := by
  induction n generalizing s with
  | zero => omega
  | succ n ih =>
    have sent : pendingHold (s.send (.swapHold (byteOf k) t (holdByte w))) k = w := by
      rw [pendingHold, latestHold_send hsorted hroom]
    rw [compareHold_succ]
    split
    · rename_i v on hlatest
      split
      · rename_i hv
        rw [pendingHold, hlatest]
        exact hv
      · split
        · exact sent
        · rename_i hon
          obtain hnone | ⟨e, he, hhold, hline⟩ := foldl_holdRead_some hlatest
          · cases hnone
          · have hany : s.link.queue.any (idleHold k) = true :=
              List.any_eq_true.2 ⟨e, he, by simp [idleHold, hhold, hline, hon]⟩
            have hcount := countP_dropLastWhere hany
            have hsub := dropLastWhere_sublist (idleHold k) s.link.queue
            exact ih (hsorted.sublist hsub) (Nat.lt_of_le_of_lt hsub.length_le hroom) (by dsimp only; omega)
    · rename_i hlatest
      split
      · rename_i hrow
        rw [pendingHold, hlatest]
        exact hrow
      · exact sent

/-- The comparison of a taker in DRAINING makes its pending hold the one it wants (R67). -/
theorem pendingHold_holdCheck {s : State} {l : LaneId} {k : Nat} {t : Term} {al : Option Nat} {tk : Taker}
    (hctx : (s.lane l).ctx = .taker k t .draining al) (htk : (s.lane l).taker = some tk) (hq : queueOk s.link.queue)
    (hroom : s.link.queue.length < 8) : pendingHold (s.holdCheck l) k = !tk.aligned := by
  simp only [State.holdCheck, hctx, htk]
  refine pendingHold_compareHold (s := { s with link := _ }) t _ hq.2.1 hroom ?_
  have := List.countP_le_length (p := idleHold k) (l := s.link.queue)
  dsimp only
  omega

/-! ### The swap unit judges a taker -/

/-- The lane after the trace and the buffer have been compared. -/
def State.compared (s : State) (l : LaneId) (tk : Taker) (tr : List TraceEntry) (buf : List PacketRec) (now : Bool) : State :=
  s.modLane l fun x => { x with buffer := buf, taker := some { tk with trace := tr, aligned := now } }

section
variable (s : State) (l : LaneId) (tk : Taker) (tr : List TraceEntry) (buf : List PacketRec) (now : Bool)

theorem lane_compared : (s.compared l tk tr buf now).lane l
    = { s.lane l with buffer := buf, taker := some { tk with trace := tr, aligned := now } } := State.lane_modLane_self s l _

theorem lane_compared_ne {i : LaneId} (h : i ≠ l) : (s.compared l tk tr buf now).lane i = s.lane i :=
  State.lane_modLane_ne s _ h

end

/-- Lane `l` alone has changed, besides the link. -/
structure LaneAndLink (s t : State) (l : LaneId) : Prop where
  eq : t = { s with lanes := t.lanes, link := t.link }
  others : ∀ i, i ≠ l → t.lane i = s.lane i

theorem LaneAndLink.refl (s : State) (l : LaneId) : LaneAndLink s s l := ⟨rfl, fun _ _ => rfl⟩

theorem LaneAndLink.trans {s t u : State} {l : LaneId} (h : LaneAndLink s t l) (h' : LaneAndLink t u l) : LaneAndLink s u l :=
  ⟨by rw [h'.eq, h.eq], fun i hi => (h'.others i hi).trans (h.others i hi)⟩

theorem laneAndLink_modLane (s : State) (l : LaneId) (f : Lane → Lane) : LaneAndLink s (s.modLane l f) l :=
  ⟨rfl, fun _ h => State.lane_modLane_ne s f h⟩

theorem LinkOnly.laneAndLink {s t : State} (h : LinkOnly s t) (l : LaneId) : LaneAndLink s t l :=
  ⟨by rw [h], fun i _ => h.lane i⟩

theorem laneAndLink_openTaker (s : State) (l : LaneId) (k : Nat) (t : Term) : LaneAndLink s (s.openTaker l k t) l :=
  ((laneAndLink_modLane s l _).trans ((linkOnly_withdraw _ _).laneAndLink l)).trans ((linkOnly_sendOver _ _).laneAndLink l)

theorem lane_openTaker (s : State) (l : LaneId) (k : Nat) (t : Term) :
    (s.openTaker l k t).lane l = { (s.lane l).openGate with
      taker := (s.lane l).taker.map fun tk => { tk with trace := [], feeding := false },
      ctx := .taker k t .opened none } := by
  rw [State.openTaker, (linkOnly_sendOver _ _).lane, lane_withdraw, State.lane_modLane_self]

theorem heldFrame_withdraw_ready (L : Link) (k : Nat) : (L.withdraw (isReadyFrame k)).onLineFrame (isReadyFrame k) = false →
    (L.withdraw (isReadyFrame k)).heldFrame (isReadyFrame k) = false := by
  intro hline
  refine Bool.eq_false_iff.2 fun h => ?_
  obtain ⟨e, he, hp⟩ | ⟨q, hq, hp⟩ | ⟨q, hq, hp⟩ := (heldFrame_iff _ _).1 h
  · have hidle := (List.mem_filter.1 he).2
    rw [hp, Bool.not_true, Bool.or_false] at hidle
    have hon := List.any_eq_false.1 hline e he
    simp [hidle, hp] at hon
  · simpa [hp] using (List.mem_filter.1 hq).2
  · simpa [hp] using (List.mem_filter.1 hq).2

theorem onLineFrame_withdraw {L : Link} {p : Frame → Bool} (h : L.onLineFrame p = false) (q : Frame → Bool) :
    (L.withdraw q).onLineFrame p = false :=
  List.any_eq_false.2 fun e he => List.any_eq_false.1 h e (List.mem_filter.1 he).1

/-- What the judging of a taker leaves alone. -/
theorem laneAndLink_judgeTaker (s : State) (l : LaneId) (was consumed lost : Bool) :
    LaneAndLink s (s.judgeTaker l was consumed lost) l := by
  simp only [State.judgeTaker]
  repeat' split
  · exact (laneAndLink_modLane s l _).trans ((linkOnly_send _ _).laneAndLink l)
  · exact .refl s l
  · exact ((linkOnly_withdraw s _).laneAndLink l).trans (laneAndLink_modLane _ l _)
  · exact .refl s l
  · exact laneAndLink_openTaker s l _ _
  · exact (linkOnly_holdCheck s l).laneAndLink l
  all_goals exact .refl s l

/-- The judging of a taker leaves its role, its slot and its buffer. -/
theorem lane_judgeTaker (s : State) (l : LaneId) (was consumed lost : Bool) :
    ((s.judgeTaker l was consumed lost).lane l).role = (s.lane l).role
      ∧ ((s.judgeTaker l was consumed lost).lane l).slot = (s.lane l).slot
      ∧ ((s.judgeTaker l was consumed lost).lane l).buffer = (s.lane l).buffer := by
  simp only [State.judgeTaker]
  repeat' split
  all_goals simp [State.setCtx, lane_send, lane_withdraw, lane_openTaker, lane_holdCheck]

theorem takerAfter_judgeTaker (s : State) (l : LaneId) (tk : Taker) (tr : List TraceEntry) (buf : List PacketRec)
    (now consumed lost : Bool) (opens : Prop) (hopens : opens ↔ (consumed || lost || (!now && tr.any (·.last))) = true) :
    takerAfter s ((s.compared l tk tr buf now).judgeTaker l tk.aligned consumed lost) l tk tr buf now opens := by
  have hall := (laneAndLink_modLane s l _).trans (laneAndLink_judgeTaker (s.compared l tk tr buf now) l tk.aligned consumed lost)
  obtain ⟨hrole, hslot, hbuffer⟩ := lane_judgeTaker (s.compared l tk tr buf now) l tk.aligned consumed lost
  rw [lane_compared] at hrole hslot hbuffer
  refine ⟨hall.eq, hall.others, hbuffer, hrole, hslot, fun k term st al hctx => ?_⟩
  have hctx1 : ((s.compared l tk tr buf now).lane l).ctx = .taker k term st al := by rw [lane_compared]; exact hctx
  have htk1 : ((s.compared l tk tr buf now).lane l).taker = some { tk with trace := tr, aligned := now } := by
    rw [lane_compared]
  have stays {u : State} (h : u = s.compared l tk tr buf now) :
      ((u.lane l).taker = some { tk with trace := tr, aligned := now } ∧ (u.lane l).gate = (s.lane l).gate)
        ∧ (u.lane l).ctx = (s.lane l).ctx ∧ u.link = s.link := by
    rw [h, lane_compared]
    exact ⟨⟨rfl, rfl⟩, rfl, rfl⟩
  cases st with
  | seeking =>
    have hjudge : (s.compared l tk tr buf now).judgeTaker l tk.aligned consumed lost
        = if !tk.aligned && now then
            ((s.compared l tk tr buf now).setCtx l (.taker k term .readied al)).send (.swapReady (byteOf k) term)
          else s.compared l tk tr buf now := by
      simp only [State.judgeTaker, hctx1, htk1]
    dsimp only
    rw [hjudge]
    by_cases hgain : tk.aligned = false ∧ now = true
    · rw [if_pos hgain, if_pos (by simp [hgain.1, hgain.2]), lane_send, State.setCtx, State.lane_modLane_self, lane_compared]
      exact ⟨⟨rfl, rfl⟩, rfl, heldFrame_join _ _ _ (beq_self_eq_true _) rfl⟩
    · rw [if_neg hgain, if_neg (by simpa using hgain)]
      exact stays rfl
  | readied =>
    have hjudge : (s.compared l tk tr buf now).judgeTaker l tk.aligned consumed lost
        = if tk.aligned && !now && s.link.heldFrame (isReadyFrame k) && !s.link.onLineFrame (isReadyFrame k) then
            ((s.compared l tk tr buf now).withdraw (isReadyFrame k)).setCtx l (.taker k term .seeking al)
          else s.compared l tk tr buf now := by
      simp only [State.judgeTaker, hctx1, htk1]
      rfl
    dsimp only
    rw [hjudge]
    refine ⟨fun hloses => ?_, fun hkeeps => ?_⟩
    · obtain ⟨hwas, hnow, hheld, hidle⟩ := hloses
      rw [if_pos (by simp [hwas, hnow, hheld, hidle]), State.setCtx, State.lane_modLane_self, lane_withdraw, lane_compared]
      exact ⟨⟨rfl, rfl⟩, rfl, heldFrame_withdraw_ready s.link k (onLineFrame_withdraw hidle _)⟩
    · rw [if_neg (by simpa [and_assoc] using hkeeps)]
      exact stays rfl
  | draining =>
    have hjudge : (s.compared l tk tr buf now).judgeTaker l tk.aligned consumed lost
        = if consumed || lost || (!now && tr.any (·.last)) then (s.compared l tk tr buf now).openTaker l k term
          else if tk.aligned != now then (s.compared l tk tr buf now).holdCheck l
          else s.compared l tk tr buf now := by
      simp only [State.judgeTaker, hctx1, htk1]
    dsimp only
    rw [hjudge]
    refine ⟨fun ho => ?_, fun ho hsame => ?_, fun ho hdiff => ?_⟩
    · rw [if_pos (hopens.1 ho), lane_openTaker, lane_compared]
      refine ⟨by simp, rfl, by simp, ?_⟩
      rw [State.openTaker]
      exact heldFrame_sendOver rfl (fun _ => rfl) _
    · rw [if_neg (mt hopens.2 ho), if_neg (by simp [hsame])]
      exact stays rfl
    · rw [if_neg (mt hopens.2 ho), if_pos (by simpa using hdiff), lane_holdCheck, lane_compared]
      exact ⟨⟨rfl, rfl⟩, rfl, fun hq hroom => pendingHold_holdCheck hctx1 htk1 hq hroom⟩
  | opened =>
    refine stays ?_
    simp only [State.judgeTaker, hctx1]
  | dropping r =>
    refine stays ?_
    simp only [State.judgeTaker, hctx1]

end Sys2Proof.Machine
end

section
/-! # Packets enter the buffer, windows are read and clashes marked (R111 to R121, R126 to R134) -/

namespace Sys2Proof.Machine

open Sys2Proof.Safety

theorem modLane_modLane (s : State) (l : LaneId) (f g : Lane → Lane) :
    (s.modLane l f).modLane l g = s.modLane l fun x => g (f x) := by
  have hlane : (s.modLane l f).lane l = f (s.lane l) := State.lane_modLane_self s l f
  rw [State.modLane, hlane]
  simp [State.modLane, State.setLane]

theorem insertSlot_mem (k : Nat) (ks : List Nat) : k ∈ insertSlot k ks := by
  induction ks with
  | nil => simp [insertSlot]
  | cons j js ih =>
    rw [insertSlot]
    split
    · exact List.mem_cons_self
    · split
      · rename_i h
        rw [h]
        exact List.mem_cons_self
      · exact List.mem_cons_of_mem _ ih

/-! ### A packet is delivered -/

section
variable {s : State} {l : LaneId} {pos : Nat} {bytes : List Byte} {unrepaired : Bool}

theorem fills_countDelivery (x : Lane) (pos : Nat) (unrepaired : Bool) : (x.countDelivery pos unrepaired).fills = x.fills := rfl

theorem packetArrives_discards (h : (s.lane l).delivers pos = true)
    (hdiscard : (packetRecOf bytes unrepaired).isNull = true ∨ (s.lane l).fills = false) :
    s.packetArrives l pos bytes unrepaired = s.setLane l ((s.lane l).countDelivery pos unrepaired) := by
  rw [State.packetArrives, if_pos h]
  refine if_pos ?_
  rw [State.lane_modLane_self, fills_countDelivery]
  rcases hdiscard with h | h <;> simp [h]

/-- A lane that has taken a packet into its buffer. -/
def State.packetJoined (s : State) (l : LaneId) (pos : Nat) (bytes : List Byte) (unrepaired : Bool) : State :=
  s.setLane l { (s.lane l).countDelivery pos unrepaired with
    buffer := joinBuffer (s.lane l).buffer (packetRecOf bytes unrepaired) }

theorem packetArrives_joins (h : (s.lane l).delivers pos = true) (hnull : (packetRecOf bytes unrepaired).isNull = false)
    (hfills : (s.lane l).fills = true) :
    s.packetArrives l pos bytes unrepaired = (s.packetJoined l pos bytes unrepaired).pairArrival l := by
  rw [State.packetArrives, if_pos h]
  refine (if_neg ?_).trans ?_
  · rw [State.lane_modLane_self, fills_countDelivery]
    simp [hnull, hfills]
  · rw [modLane_modLane]
    rfl

end

theorem pairArrival_unpaired {s : State} {l : LaneId}
    (h : ∀ tk, (s.lane l).taker = some tk → tk.aligned = false ∨ (s.lane l).gate = true) : s.pairArrival l = s := by
  simp only [State.pairArrival]
  split
  · rfl
  · rename_i tk htk
    rw [if_pos (by rcases h tk htk with h | h <;> simp [h])]

theorem pairArrival_paired {s : State} {l : LaneId} {tk : Taker} (htk : (s.lane l).taker = some tk)
    (haligned : tk.aligned = true) (hgate : (s.lane l).gate = false) :
    s.pairArrival l = (s.compared l tk (pairUp tk.trace (s.lane l).buffer).1 (pairUp tk.trace (s.lane l).buffer).2.1
      (pairUp tk.trace (s.lane l).buffer).2.2.1).judgeTaker l true (pairUp tk.trace (s.lane l).buffer).2.2.2 false := by
  simp only [State.pairArrival, htk]
  rw [if_neg (by simp [haligned, hgate])]
  rfl

/-- Settles O57: the branches of `State.packetArrives`, the pairing as `paired_pairUp` has it. -/
theorem packetsEnterTheBuffer : Obligations.PacketsEnterTheBuffer := by
  intro s l pos bytes unrepaired hdelivers
  have hjoined : (s.packetJoined l pos bytes unrepaired).lane l = { (s.lane l).countDelivery pos unrepaired with
      buffer := joinBuffer (s.lane l).buffer (packetRecOf bytes unrepaired) } := State.lane_setLane_self _ _ _
  refine ⟨fun h => congrArg Host.Outcome.next (packetArrives_discards hdelivers h), fun hnull hfills hunpaired => ?_,
    fun tk hnull hfills htk haligned hgate => ?_, rfl, rfl, rfl, rfl, fun h => ?_⟩
  · refine congrArg Host.Outcome.next ((packetArrives_joins hdelivers hnull hfills).trans ?_)
    rw [pairArrival_unpaired]
    · rfl
    · rw [hjoined]
      exact hunpaired
  · have hpair := pairArrival_paired (s := s.packetJoined l pos bytes unrepaired) (l := l) (tk := tk)
      (by rw [hjoined]; exact htk) haligned (by rw [hjoined]; exact hgate)
    have hcompared (tr : List TraceEntry) (buf : List PacketRec) (now : Bool) :
        (s.packetJoined l pos bytes unrepaired).compared l tk tr buf now
          = (s.setLane l ((s.lane l).countDelivery pos unrepaired)).compared l tk tr buf now := by
      rw [State.compared, State.compared, State.modLane, State.modLane, hjoined, State.lane_setLane_self]
      simp [State.packetJoined, State.setLane]
    rw [hjoined, hcompared] at hpair
    refine ⟨_, _, _, _, _, congrArg Host.Outcome.next ((packetArrives_joins hdelivers hnull hfills).trans hpair),
      paired_pairUp tk.trace (joinBuffer (s.lane l).buffer (packetRecOf bytes unrepaired)), ?_⟩
    have := takerAfter_judgeTaker (s.setLane l ((s.lane l).countDelivery pos unrepaired)) l tk
    rw [haligned] at this
    exact this _ _ _ _ _ _ (by simp)
  · simp [packetRecOf, h]

/-! ### The end of a window that the station drove -/

/-- The counts change the lane's context, close its gate, or hand a SWAP-DROP over besides. -/
theorem countPlaced_cases (s : State) (d : Driven) :
    s.countPlaced d = s
      ∨ (∃ gate ctx, s.countPlaced d = s.setLane d.lane { s.lane d.lane with gate := gate, ctx := ctx })
      ∨ ∃ ctx f, s.countPlaced d = (s.setCtx d.lane ctx).sendOver f := by
  have ctx (c : SwapCtx) :
      s.setCtx d.lane c = s.setLane d.lane { s.lane d.lane with gate := (s.lane d.lane).gate, ctx := c } := rfl
  simp only [State.countPlaced]
  split
  · split
    · exact .inl rfl
    · split
      · split
        · exact .inr (.inl ⟨_, _, rfl⟩)
        · exact .inr (.inl ⟨_, _, rfl⟩)
        · exact .inl rfl
      · split
        · exact .inr (.inl ⟨_, _, ctx _⟩)
        · exact .inr (.inl ⟨_, _, ctx _⟩)
        · split
          · exact .inr (.inr ⟨_, _, rfl⟩)
          · exact .inr (.inl ⟨_, _, ctx _⟩)
        · exact .inl rfl
  · exact .inl rfl

theorem laneAndLink_countPlaced (s : State) (d : Driven) : LaneAndLink s (s.countPlaced d) d.lane := by
  obtain h | ⟨gate, ctx, h⟩ | ⟨ctx, f, h⟩ := countPlaced_cases s d
  all_goals rw [h]
  · exact .refl s _
  · exact laneAndLink_modLane s d.lane fun _ => { s.lane d.lane with gate := gate, ctx := ctx }
  · exact (laneAndLink_modLane s _ _).trans ((linkOnly_sendOver _ _).laneAndLink _)

/-- The counts of a giver change its context and close its gate, no more. -/
theorem lane_countPlaced (s : State) (d : Driven) :
    ∃ gate ctx, (s.countPlaced d).lane d.lane = { s.lane d.lane with gate := gate, ctx := ctx } := by
  obtain h | ⟨gate, ctx, h⟩ | ⟨ctx, f, h⟩ := countPlaced_cases s d
  all_goals rw [h]
  · exact ⟨_, _, rfl⟩
  · exact ⟨_, _, s.lane_setLane_self _ _⟩
  · exact ⟨_, ctx, ((linkOnly_sendOver _ _).lane _).trans (State.lane_modLane_self s _ _)⟩

theorem markClash_home {s : State} {d : Driven} (hrole : (s.lane d.lane).role = .home)
    (hslot : (s.lane d.lane).slot = some d.slot) :
    s.markClash d = State.homeAssignment
      { s.releaseLane d.lane with clashBarred := insertSlot d.slot s.clashBarred } := if_pos ⟨hrole, hslot⟩

theorem markClash_other {s : State} {d : Driven}
    (h : (s.lane d.lane).role ≠ .home ∨ (s.lane d.lane).slot ≠ some d.slot) :
    s.markClash d = s.setLane d.lane { s.lane d.lane with clashSeen := true } :=
  if_neg fun hhome => h.elim (· hhome.1) (· hhome.2)

theorem markClash_eq (s : State) (d : Driven) :
    s.markClash d = { s with lanes := (s.markClash d).lanes, clashBarred := (s.markClash d).clashBarred } := by
  by_cases h : (s.lane d.lane).role = .home ∧ (s.lane d.lane).slot = some d.slot
  · rw [markClash_home h.1 h.2, homeAssignment_eq]
    rfl
  · rw [markClash_other (by tauto)]
    rfl

/-- A lane that yields a slot is given no clash-barred one (R134). -/
theorem markClash_yields {s : State} {d : Driven} (hrole : (s.lane d.lane).role = .home)
    (hslot : (s.lane d.lane).slot = some d.slot) :
    d.slot ∈ (s.markClash d).clashBarred ∧ ((s.markClash d).lane d.lane).gate = false
      ∧ ((s.markClash d).lane d.lane).slot ≠ some d.slot := by
  have hbarred : d.slot ∈ insertSlot d.slot s.clashBarred := insertSlot_mem _ _
  rw [markClash_home hrole hslot]
  refine ⟨by rw [homeAssignment_eq]; exact hbarred, ?_⟩
  refine lane_homeAssignment_of_bind (fun x => x.gate = false ∧ x.slot ≠ some d.slot) _ d.lane (fun k r x hk _ hx => ⟨?_, ?_⟩) ?_
  · simp [Lane.bind, Lane.enterTune, Lane.setRole, hx.1]
  · rintro h
    obtain rfl : k = d.slot := Option.some.inj h
    exact hk hbarred
  · have : State.lane { s.releaseLane d.lane with clashBarred := insertSlot d.slot s.clashBarred } d.lane
        = (s.lane d.lane).release := State.lane_modLane_self s _ _
    rw [this]
    exact ⟨rfl, nofun⟩

/-! ### A window that is read -/

theorem traceArrival_taken {s : State} {l : LaneId} {tk : Taker} {e : TraceEntry} (htk : (s.lane l).taker = some tk)
    (hfeeding : tk.feeding = true) :
    s.traceArrival l e = (s.compared l tk (traceStep tk.aligned tk.trace (s.lane l).buffer e).1
        (traceStep tk.aligned tk.trace (s.lane l).buffer e).2.1 (traceStep tk.aligned tk.trace (s.lane l).buffer e).2.2.1).judgeTaker
      l tk.aligned (traceStep tk.aligned tk.trace (s.lane l).buffer e).2.2.2
      (e.last && !tk.aligned && !(traceStep tk.aligned tk.trace (s.lane l).buffer e).2.2.2) := by
  simp only [State.traceArrival, htk]
  rw [if_neg (by simp [hfeeding])]
  rfl

theorem traceArrival_not_fed {s : State} {l : LaneId} {e : TraceEntry}
    (h : ∀ tk, (s.lane l).taker = some tk → tk.feeding = false) : s.traceArrival l e = s := by
  simp only [State.traceArrival]
  split
  · rfl
  · rename_i tk htk
    rw [if_pos (by simp [h tk htk])]

/-- When an entry opens the taker, in the terms of R68 and R69 and in those of `State.judgeTaker`. -/
theorem opensAt_iff (consumed last aligned now marked : Bool) :
    (consumed = true ∨ last = true ∧ aligned = false ∨ now = false ∧ marked = true)
      ↔ (consumed || (last && !aligned && !consumed) || (!now && marked)) = true := by
  revert consumed last aligned now marked
  decide

/-- Settles O59. -/
theorem windowEndsMarkClashes : Obligations.WindowEndsMarkClashes := by
  refine ⟨fun s n w hpos hreader => ?_, fun s n k no w l hpos hdriven hreader => ⟨fun h => ?_, fun tk hvalid hno hslot hout htk hfeeding => ?_⟩⟩
  · cases hdriven : s.bp.driven with
    | none =>
      have hend : exec (.windowEnd w) s = .next { s with bp := portAfter n } :=
        congrArg Host.Outcome.next (windowEnds_idle hpos hdriven hreader)
      exact ⟨_, hend, rfl, rfl, rfl, rfl, rfl, rfl, fun _ => rfl, nofun, nofun⟩
    | some d =>
      obtain ⟨p, hp⟩ : ∃ p, p = ({ s with bp := portAfter n } : State) := ⟨_, rfl⟩
      have hend (w : WindowLines) : exec (.windowEnd w) s = .next (p.placed d w) :=
        congrArg Host.Outcome.next (by rw [windowEnds_driven hpos hdriven hreader, hp])
      have hlane (l : LaneId) : p.lane l = s.lane l := by rw [hp]; rfl
      have hcounted := (laneAndLink_countPlaced p d).eq
      have hplaced : p.placed d w = { s with
          lanes := (p.placed d w).lanes, link := (p.placed d w).link, clashBarred := (p.placed d w).clashBarred,
          bp := portAfter n } := by
        cases hw : readBackDiffers d w with
        | false =>
          rw [placed_agrees hw, hcounted, hp]
        | true =>
          rw [placed_differs hw, markClash_eq, hcounted, hp]
      have hbp : (p.placed d w).bp = portAfter n := by rw [hplaced]
      refine ⟨_, hend w, by rw [hplaced], by rw [hplaced], by rw [hplaced], by rw [hplaced], by rw [hplaced], hbp, nofun, ?_, ?_⟩
      · rintro d' hd hctx hslot
        obtain rfl := Option.some.inj hd
        have hcount : p.countPlaced d = p := countPlaced_of_not_giver (by rw [hlane, hctx]; rfl)
        refine ⟨fun hw => ?_, fun hw hrole => ?_, fun hw hrole _ => ?_⟩
        · rw [placed_agrees hw, hcount, hp]
        · have hother : (p.lane d.lane).role ≠ .home := by rw [hlane, hrole]; nofun
          rw [placed_differs hw, hcount, markClash_other (.inl hother), hlane, hp]
          rfl
        · rw [placed_differs hw, hcount]
          exact markClash_yields (by rw [hlane]; exact hrole) (by rw [hlane]; exact hslot)
      · rintro d' hd hw hother
        obtain rfl := Option.some.inj hd
        obtain ⟨gate, ctx, hcountLane⟩ := lane_countPlaced p d
        rw [hlane] at hcountLane
        have hmark : (p.countPlaced d).markClash d
            = (p.countPlaced d).setLane d.lane { (p.countPlaced d).lane d.lane with clashSeen := true } :=
          markClash_other (by rw [hcountLane]; exact hother)
        rw [placed_differs hw, hmark, State.lane_setLane_self, hcountLane]
        refine ⟨rfl, rfl, fun w' hw' => ⟨_, (hend w').trans (congrArg _ (placed_agrees hw')), ?_⟩⟩
        rw [hcountLane]
  · have hunread : State.readWindow { s with bp := portAfter n } n (l, no) w.bytes w.valid w.last
        = { s with bp := portAfter n } := by
      rw [State.readWindow]
      split
      · rename_i hread
        simp only [Bool.and_eq_true, beq_iff_eq] at hread
        obtain ⟨⟨hvalid, hno⟩, -⟩ := hread
        rcases h with h | h | h
        · rw [h] at hvalid
          cases hvalid
        · exact absurd hno.symm h
        · exact traceArrival_not_fed h
      · rfl
    exact congrArg Host.Outcome.next ((windowEnds_read hpos hdriven hreader).trans hunread)
  · have hread : State.readWindow { s with bp := portAfter n } n (l, no) w.bytes w.valid w.last
        = State.traceArrival { s with bp := portAfter n } l { signature := checkSequence w.bytes, last := w.last } := by
      rw [State.readWindow, if_pos]
      have hon : s.onOutlet (s.lane l) n = true := by simp [State.onOutlet, hslot, hout]
      have hon' : State.onOutlet { s with bp := portAfter n } (s.lane l) n = true := hon
      have hlane : State.lane { s with bp := portAfter n } l = s.lane l := rfl
      simp [hvalid, hlane, hno, hon']
    have htaken := traceArrival_taken (s := { s with bp := portAfter n }) (l := l) (tk := tk)
      (e := { signature := checkSequence w.bytes, last := w.last }) htk hfeeding
    refine ⟨_, _, _, _, _, congrArg Host.Outcome.next (((windowEnds_read hpos hdriven hreader).trans hread).trans htaken),
      traceTakes_traceStep _ _ _ _, ?_⟩
    refine takerAfter_judgeTaker { s with bp := portAfter n } l tk _ _ _ _ _ _ ?_
    exact opensAt_iff _ _ _ _ _

end Sys2Proof.Machine
end

section
/-! # What settling does to one lane

Settling changes a lane in five ways: a trial is released, a swap context ends or goes back, a RESTING giver gives up its role, a HELD
lane is held no more, a free lane is bound for a trial. A property of lanes that is closed under them (`LaneClosed`) passes through the
whole of settling. -/

namespace Sys2Proof.Machine

open Sys2Proof.Safety

/-! ### The five ways -/

/-- How settling changes a lane's swap context (R57, R64, R65). -/
inductive CtxMove (s : State) : SwapCtx → SwapCtx → Prop
  | giverEnds (k : Nat) (t : Term) (st : GiverStage) (a b : Nat) (h : s.swappingAt k t (fun _ => true) = false) :
    CtxMove s (.giver k t st a b) .none
  | takerEnds (k : Nat) (t : Term) (st : TakerStage) (al : Option Nat) (h : s.swappingAt k t (fun _ => true) = false) :
    CtxMove s (.taker k t st al) .none
  | unready (k : Nat) (t : Term) (al : Option Nat) (h : s.swappingAt k t SwapPhase.isOffered = true) :
    CtxMove s (.taker k t .readied al) (.taker k t .seeking al)

/-- A lane that gives up its role (R81, R167). -/
def Lane.gaveUp (x : Lane) : Lane := { x.release with ctx := .none }

/-- What becomes of a lane that is HELD no more: it takes back the role that its row names it in, or is released (R52, R168). -/
inductive UnheldMove (s : State) (l : LaneId) (x : Lane) : Lane → Prop
  | released : UnheldMove s l x x.release
  | carrier : UnheldMove s l x (Lane.openGate { x.setRole .carrier with mark := .none })
  | standby : UnheldMove s l x { x.setRole .standby with mark := .none }
  | offers (k : Nat) (hmode : s.mode = .resting) (hslot : x.slot = some k) (hrow : (s.row k).carrier = some (s.ownPair l))
      (hstandby : (s.row k).standby.isSome = true) (hswap : (s.row k).isSwapping = false) :
    UnheldMove s l x { Lane.openGate { x.setRole .carrier with mark := .none } with ctx := .giver k (s.termOf k) .offering 0 0 }
  | gaveUp : UnheldMove s l x x.gaveUp

/-- The row is one that a lane may be bound to for the trial (R35, R36, R46). -/
def Assignable (s : State) (k : Nat) (m : ClaimMark) : Prop :=
  (m = .ordinary ∧ (s.row k).isOpen = true ∧ (s.loc k).tried = false)
    ∨ (m = .standby (s.termOf k) ∧ (s.row k).lacksStandby = true ∧ (s.loc k).standbyTried = false)

theorem CtxMove.of_within {s u : State} (h : Within s u) {c c' : SwapCtx} (hm : CtxMove u c c') : CtxMove s c c' := by
  cases hm with
  | giverEnds k t st a b hends => exact .giverEnds k t st a b (by rwa [h.swappingAt] at hends)
  | takerEnds k t st al hends => exact .takerEnds k t st al (by rwa [h.swappingAt] at hends)
  | unready k t al hends => exact .unready k t al (by rwa [h.swappingAt] at hends)

theorem UnheldMove.of_within {s u : State} (h : Within s u) {l : LaneId} {x y : Lane} (hm : UnheldMove u l x y) :
    UnheldMove s l x y := by
  cases hm with
  | released => exact .released
  | carrier => exact .carrier
  | standby => exact .standby
  | offers k hmode hslot hrow hstandby hswap =>
    rw [h.termOf]
    rw [h.row, h.ownPair] at hrow
    rw [h.row] at hstandby hswap
    exact .offers k (h.mode ▸ hmode) hslot hrow hstandby hswap
  | gaveUp => exact .gaveUp

/-- The property is closed under what settling does to lane `l` before lanes are assigned. -/
structure LaneMoves (s : State) (l : LaneId) (P : Lane → Prop) : Prop where
  release : ∀ x, P x → x.role = .trial → P x.release
  ctx : ∀ x c, P x → CtxMove s x.ctx c → P { x with ctx := c }
  gaveUp : s.mode = .resting → ∀ x k t st a b, P x → x.ctx = .giver k t st a b →
    s.swappingAt k t (fun _ => true) = false → x.role = .carrier ∨ x.role = .giver → P x.gaveUp
  unheld : ∀ x y, P x → x.mark.isHeld = true → UnheldMove s l x y → P y

/-- The property is closed under what settling does to lane `l`. -/
structure LaneClosed (s : State) (l : LaneId) (P : Lane → Prop) : Prop extends LaneMoves s l P where
  bind : s.claimActive = true → ∀ x k m, P x → x.available = true → Assignable s k m → P (x.bind k (s.slotRec k) .trial m)

/-! ### The parts of settling, one lane at a time -/

theorem lane_dropTrial (s : State) (l : LaneId) : (s.dropTrial l).lane l = (s.lane l).release := State.lane_modLane_self _ l _

theorem lane_giveUp (s : State) (k : Nat) (role : CarriageRole) (l : LaneId) (r : CedeReason) :
    (s.giveUp k role l r).lane l = (s.lane l).gaveUp := by
  rw [State.giveUp, lane_sendCede, lane_withdraw, State.endCtx, State.lane_modLane_self, State.releaseLane,
    State.lane_modLane_self]
  rfl

theorem lane_offerSwap (s : State) (k : Nat) (l : LaneId) :
    (s.offerSwap k l).lane l = { s.lane l with ctx := .giver k (s.termOf k) .offering 0 0 } := by
  rw [State.offerSwap, lane_send, State.lane_modLane_self]

theorem lane_setCtx (s : State) (l : LaneId) (c : SwapCtx) : (s.setCtx l c).lane l = { s.lane l with ctx := c } :=
  State.lane_modLane_self s l _

/-- A released lane is what it was but for its swap context, whatever role it took before. -/
theorem gaveUp_of_role (x : Lane) (r : LaneRole) (m : ClaimMark) :
    Lane.gaveUp { x.setRole r with mark := m } = x.gaveUp := rfl

theorem gaveUp_of_openGate (x : Lane) : x.openGate.gaveUp = x.gaveUp := by
  rw [Lane.openGate]
  split <;> rfl

/-- A trial ends in settling where its row no longer allows it. -/
theorem lane_settleTrial_cases (l : LaneId) (s : State) :
    (State.settleTrial l s).lane l = s.lane l
      ∨ (s.lane l).role = .trial ∧ s.trialStands (s.lane l) = false ∧ (State.settleTrial l s).lane l = (s.lane l).release := by
  simp only [State.settleTrial]
  split
  · rename_i h
    exact .inr ⟨h.1, h.2.1, lane_dropTrial s l⟩
  · exact .inl rfl

theorem lane_settleGiver_cases (s : State) (l : LaneId) (k : Nat) (t : Term) (st : GiverStage) :
    s.settleGiver l k t st = s
      ∨ s.swappingAt k t (fun _ => true) = false ∧ (s.settleGiver l k t st).lane l = { s.lane l with ctx := .none }
      ∨ s.mode = .resting ∧ s.swappingAt k t (fun _ => true) = false ∧ (s.lane l).carries k = true
        ∧ (s.settleGiver l k t st).lane l = (s.lane l).gaveUp := by
  simp only [State.settleGiver]
  split
  · exact .inl rfl
  · rename_i hstands
    have hends : s.swappingAt k t (fun _ => true) = false := by
      rw [not_or, Bool.not_eq_true] at hstands
      exact hstands.1
    split
    · exact .inl rfl
    · have hend : ((s.withdraw (isGiverFrame k)).endCtx l).lane l = { s.lane l with ctx := .none } :=
        State.lane_modLane_self _ l _
      split
      · rename_i hrest
        exact .inr (.inr ⟨hrest.1, hends, hrest.2.1, by rw [lane_giveUp, hend]; rfl⟩)
      · exact .inr (.inl ⟨hends, hend⟩)

theorem lane_settleTaker_cases (s : State) (l : LaneId) (k : Nat) (t : Term) (st : TakerStage) (al : Option Nat)
    (hctx : (s.lane l).ctx = .taker k t st al) :
    (s.settleTaker l k t st al).lane l = s.lane l
      ∨ ∃ c, CtxMove s (s.lane l).ctx c ∧ (s.settleTaker l k t st al).lane l = { s.lane l with ctx := c } := by
  simp only [State.settleTaker]
  split
  · split
    · rename_i hst
      refine .inr ⟨_, ?_, lane_setCtx _ l _⟩
      rw [hctx, hst.1]
      exact .unready k t al hst.2.1
    · exact .inl rfl
  · rename_i hends
    refine .inr ⟨_, ?_, State.lane_modLane_self _ l _⟩
    rw [hctx]
    exact .takerEnds k t st al (Bool.eq_false_iff.2 hends)

/-- The swap unit leaves a lane, moves its context, or makes a RESTING giver give up its role. -/
theorem lane_settleSwap_cases (l : LaneId) (s : State) :
    (State.settleSwap l s).lane l = s.lane l
      ∨ (∃ c, CtxMove s (s.lane l).ctx c ∧ (State.settleSwap l s).lane l = { s.lane l with ctx := c })
      ∨ s.mode = .resting ∧ (∃ k t st a b, (s.lane l).ctx = .giver k t st a b ∧ s.swappingAt k t (fun _ => true) = false)
        ∧ ((s.lane l).role = .carrier ∨ (s.lane l).role = .giver) ∧ (State.settleSwap l s).lane l = (s.lane l).gaveUp := by
  simp only [State.settleSwap]
  split
  · exact .inl rfl
  · rename_i k t st a b hctx
    rcases lane_settleGiver_cases s l k t st with h | ⟨hends, h⟩ | ⟨hmode, hends, hcarries, h⟩
    · exact .inl (congrArg (State.lane · l) h)
    · exact .inr (.inl ⟨_, by rw [hctx]; exact .giverEnds k t st a b hends, h⟩)
    · refine .inr (.inr ⟨hmode, ⟨k, t, st, a, b, hctx, hends⟩, ?_, h⟩)
      simp only [Lane.carries, Bool.and_eq_true, Bool.or_eq_true, beq_iff_eq] at hcarries
      exact hcarries.1
  · rename_i k t st al hctx
    rcases lane_settleTaker_cases s l k t st al hctx with h | h
    · exact .inl h
    · exact .inr (.inl h)

theorem lane_drainIfResting (s : State) (k : Nat) (l : LaneId) :
    (s.drainIfResting k l).lane l = s.lane l
      ∨ s.mode = .resting ∧ (s.lane l).role = .carrier ∧ (s.row k).standby.isSome = true
        ∧ (s.drainIfResting k l).lane l = { s.lane l with ctx := .giver k (s.termOf k) .offering 0 0 }
      ∨ (s.drainIfResting k l).lane l = (s.lane l).gaveUp := by
  rw [State.drainIfResting]
  split
  · rename_i hmode
    rw [State.drainLane]
    split
    · rename_i hrole
      split
      · rename_i hstandby
        exact .inr (.inl ⟨hmode, hrole, hstandby.1, lane_offerSwap s k l⟩)
      · exact .inr (.inr (lane_giveUp s k _ l _))
    · exact .inr (.inr (lane_giveUp s k _ l _))
    · exact .inl rfl
  · exact .inl rfl

/-- A HELD lane stays, or is HELD no more (R52). -/
theorem unheldMove_unheld (s : State) (l : LaneId) (k : Nat) (hslot : (s.lane l).slot = some k) :
    UnheldMove s l (s.lane l) ((s.unheld l k).lane l) := by
  simp only [State.unheld]
  split
  · rw [State.releaseLane, State.lane_modLane_self]
    exact .released
  · rename_i ρ hrole
    split
    · rename_i hback
      have hrow : ρ = .carrier → (s.row k).carrier = some (s.ownPair l) := by
        intro hρ
        split at hrole
        · assumption
        · split at hrole
          · exact absurd (Option.some.inj hrole) (by rw [hρ]; decide)
          · cases hrole
      rcases lane_drainIfResting ((s.withdraw (isCedeOf k l)).modLane l fun x => match ρ with
          | .carrier => Lane.openGate { x.setRole .carrier with mark := .none }
          | .standby => { x.setRole .standby with mark := .none }) k l with h | ⟨hmode, hcarrier, hstandby, h⟩ | h
      all_goals
        rw [State.lane_modLane_self] at h
        cases ρ with
        | carrier => ?_
        | standby => ?_
      · rw [h]; exact .carrier
      · rw [h]; exact .standby
      · rw [h]; exact .offers k hmode hslot (hrow rfl) hstandby hback.1
      · rw [State.lane_modLane_self] at hcarrier
        cases hcarrier
      · rw [h]
        dsimp only
        rw [gaveUp_of_openGate, gaveUp_of_role]
        exact .gaveUp
      · rw [h]
        dsimp only
        rw [gaveUp_of_role]
        exact .gaveUp
    · rw [lane_sendCede, State.releaseLane, State.lane_modLane_self]
      exact .released

theorem lane_settleHeldLane_cases (l : LaneId) (s : State) :
    State.settleHeldLane l s = s
      ∨ ∃ fs r k, (s.lane l).mark = .held fs r ∧ (s.lane l).slot = some k
        ∧ s.link.onLineFrame (isReclaimCedeOf l) = false
        ∧ ((s.row fs).isOpen && s.link.queued (isReclaimCedeOf l)) = false
        ∧ State.settleHeldLane l s = (s.withdraw (isReclaimCedeOf l)).unheld l k := by
  simp only [State.settleHeldLane]
  split
  · rename_i fs r k hmark hslot
    split
    · exact .inl rfl
    · rename_i hline
      split
      · exact .inl rfl
      · rename_i hopen
        exact .inr ⟨fs, r, k, hmark, hslot, Bool.eq_false_iff.2 hline, Bool.eq_false_iff.2 hopen, rfl⟩
  · exact .inl rfl

theorem lane_settleHeldLane_move (l : LaneId) (s : State) :
    (State.settleHeldLane l s).lane l = s.lane l
      ∨ (s.lane l).mark.isHeld = true ∧ UnheldMove s l (s.lane l) ((State.settleHeldLane l s).lane l) := by
  obtain h | ⟨fs, r, k, hmark, hslot, -, -, h⟩ := lane_settleHeldLane_cases l s
  · exact .inl (congrArg (State.lane · l) h)
  · refine .inr ⟨by rw [hmark]; rfl, ?_⟩
    rw [h]
    exact (unheldMove_unheld (s.withdraw (isReclaimCedeOf l)) l k hslot).of_within (within_withdraw s _)

/-- What the places of row `k`, computed again, do to one lane (R34, R45). -/
def State.raiseLane (old : RowLocal) (p q : Option Nat) (due : Bool) (k : Nat) (l : LaneId) (s : State) : State :=
  let x := s.lane l
  if x.slot = some k ∧ x.role = .trial ∧ x.hasLocked = false then
    match x.mark with
    | .ordinary => if raised old.place p && !due then s.dropTrial l else s
    | .standby _ => if raised old.standbyPlace q then s.dropTrial l else s
    | _ => s
  else s

theorem replaceRow_eq (k : Nat) (s : State) :
    ∃ due, State.replaceRow k s
      = (s.setLoc k { s.loc k with place := s.placeNow k, standbyPlace := s.standbyPlaceNow k }).forLanes
          (State.raiseLane (s.loc k) (s.placeNow k) (s.standbyPlaceNow k) due k) := ⟨_, rfl⟩

section
variable (old : RowLocal) (p q : Option Nat) (due : Bool) (k : Nat) {l m : LaneId} (s : State)

theorem lane_raiseLane_ne (h : m ≠ l) : (State.raiseLane old p q due k l s).lane m = s.lane m := by
  simp only [State.raiseLane]
  repeat' split
  all_goals first | rfl | exact lane_dropTrial_ne s h

theorem lane_raiseLane_cases :
    (State.raiseLane old p q due k l s).lane l = s.lane l
      ∨ ((s.lane l).role = .trial ∧ (s.lane l).slot = some k
          ∧ ((s.lane l).mark = .ordinary ∧ raised old.place p = true
            ∨ (∃ t, (s.lane l).mark = .standby t) ∧ raised old.standbyPlace q = true))
        ∧ (State.raiseLane old p q due k l s).lane l = (s.lane l).release := by
  simp only [State.raiseLane]
  split
  · rename_i htrial
    split
    · rename_i hmark
      split
      · rename_i hraised
        rw [Bool.and_eq_true] at hraised
        exact .inr ⟨⟨htrial.2.1, htrial.1, .inl ⟨hmark, hraised.1⟩⟩, lane_dropTrial s l⟩
      · exact .inl rfl
    · rename_i t hmark
      split
      · rename_i hraised
        exact .inr ⟨⟨htrial.2.1, htrial.1, .inr ⟨⟨t, hmark⟩, hraised⟩⟩, lane_dropTrial s l⟩
      · exact .inl rfl
    · exact .inl rfl
  · exact .inl rfl

end

/-- A raised place releases a trial that has not locked (R34, R45). -/
theorem lane_replaceRow_cases (k : Nat) (s : State) (m : LaneId) :
    (State.replaceRow k s).lane m = s.lane m
      ∨ ((s.lane m).role = .trial ∧ (s.lane m).slot = some k
          ∧ ((s.lane m).mark = .ordinary ∧ raised (s.loc k).place (s.placeNow k) = true
            ∨ (∃ t, (s.lane m).mark = .standby t) ∧ raised (s.loc k).standbyPlace (s.standbyPlaceNow k) = true))
        ∧ (State.replaceRow k s).lane m = (s.lane m).release := by
  obtain ⟨due, hrow⟩ := replaceRow_eq k s
  obtain ⟨x, hx⟩ : ∃ x, x = s.lane m := ⟨_, rfl⟩
  rw [hrow, ← hx, State.forLanes]
  have loop (ls : List LaneId) (u : State) (C : Prop)
      (hC : (x.role = .trial ∧ x.slot = some k
          ∧ (x.mark = .ordinary ∧ raised (s.loc k).place (s.placeNow k) = true
            ∨ (∃ t, x.mark = .standby t) ∧ raised (s.loc k).standbyPlace (s.standbyPlaceNow k) = true)) → C)
      (hu : u.lane m = x ∨ C ∧ u.lane m = x.release) :
      (ls.foldl (fun s' l => State.raiseLane (s.loc k) (s.placeNow k) (s.standbyPlaceNow k) due k l s') u).lane m = x
        ∨ C ∧ (ls.foldl (fun s' l => State.raiseLane (s.loc k) (s.placeNow k) (s.standbyPlaceNow k) due k l s') u).lane m
          = x.release := by
    induction ls generalizing u with
    | nil => exact hu
    | cons l ls ih =>
      refine ih _ ?_
      by_cases hl : m = l
      · subst hl
        have step := lane_raiseLane_cases (s.loc k) (s.placeNow k) (s.standbyPlaceNow k) due k (l := m) u
        rcases hu with hu | ⟨hdone, hu⟩
        · rw [hu] at step
          exact step.imp id (And.imp_left hC)
        · rcases step with step | ⟨⟨htrial, -⟩, -⟩
          · exact .inr ⟨hdone, step.trans hu⟩
          · rw [hu] at htrial
            cases htrial
      · rwa [lane_raiseLane_ne _ _ _ due k u hl]
  exact loop allLanes _ _ id (.inl hx.symm)

theorem leastKey_mem {l : List (Nat × Nat)} {a : Nat × Nat} (h : leastKey l = some a) : a ∈ l := by
  induction l with
  | nil => cases h
  | cons x xs ih =>
    rw [leastKey] at h
    split at h
    · obtain rfl := Option.some.inj h
      exact List.mem_cons_self
    · rename_i b hb
      split at h
      · obtain rfl := Option.some.inj h
        exact List.mem_cons_self
      · obtain rfl := Option.some.inj h
        exact List.mem_cons_of_mem _ (ih hb)

/-- The row that is served first is due. -/
theorem firstDue_some {s : State} {isDue : Nat → Bool} {place : RowLocal → Option Nat} {k : Nat}
    (h : s.firstDue isDue place = some k) : isDue k = true := by
  rw [State.firstDue, Option.map_eq_some_iff] at h
  obtain ⟨a, ha, rfl⟩ := h
  obtain ⟨j, hj, rfl⟩ := List.mem_map.1 (leastKey_mem ha)
  exact (List.mem_filter.1 hj).2

theorem isOpen_of_due {s : State} {k : Nat} (h : s.due k = true) : (s.row k).isOpen = true ∧ (s.loc k).tried = false := by
  simp only [State.due, Bool.and_eq_true, Bool.not_eq_true'] at h
  exact ⟨h.1.1.1.1.1.2, h.1.1.1.2⟩

theorem lacksStandby_of_standbyDue {s : State} {k : Nat} (h : s.standbyDue k = true) :
    (s.row k).lacksStandby = true ∧ (s.loc k).standbyTried = false := by
  simp only [State.standbyDue, Bool.and_eq_true, Bool.not_eq_true'] at h
  exact ⟨h.1.1.1.1.2, h.1.2⟩

/-- A free lane, or a STANDBY trial that gives way, is bound for an ordinary trial (R36). -/
theorem lane_assignOne_cases (s : State) (m : LaneId) :
    s.assignOne.lane m = s.lane m
      ∨ ∃ k, s.due k = true ∧ ((s.lane m).available = true ∧ s.assignOne.lane m = (s.lane m).bind k (s.slotRec k) .trial .ordinary
        ∨ (s.lane m).role = .trial ∧ (∃ t, (s.lane m).mark = .standby t)
          ∧ s.assignOne.lane m = (s.lane m).release.bind k (s.slotRec k) .trial .ordinary) := by
  simp only [State.assignOne]
  split
  · exact .inl rfl
  · rename_i k hk
    split
    · rename_i l hl
      by_cases hml : m = l
      · subst hml
        exact .inr ⟨k, firstDue_some hk, .inl ⟨availableLane_available hl, State.lane_modLane_self s m _⟩⟩
      · exact .inl (lane_bindLane_ne s k _ _ hml)
    · split
      · rename_i l hl
        by_cases hml : m = l
        · subst hml
          have hyield := List.find?_some hl
          simp only [Bool.and_eq_true, beq_iff_eq] at hyield
          refine .inr ⟨k, firstDue_some hk, .inr ⟨hyield.1.1, ?_, ?_⟩⟩
          · obtain ⟨-, hmark⟩ := hyield
            split at hmark
            · exact ⟨_, ‹_›⟩
            · cases hmark
          · rw [State.bindLane_eq, State.lane_modLane_self, lane_dropTrial]
            rfl
        · exact .inl ((lane_bindLane_ne _ k _ _ hml).trans (lane_dropTrial_ne s hml))
      · exact .inl rfl

theorem lane_assignStandbyOne_cases (s : State) (m : LaneId) :
    s.assignStandbyOne.lane m = s.lane m
      ∨ ∃ k, s.standbyDue k = true ∧ (s.lane m).available = true
        ∧ s.assignStandbyOne.lane m = (s.lane m).bind k (s.slotRec k) .trial (.standby (s.termOf k)) := by
  simp only [State.assignStandbyOne]
  split
  · rename_i k l _ hk hl
    by_cases hml : m = l
    · subst hml
      exact .inr ⟨k, firstDue_some hk, availableLane_available hl, State.lane_modLane_self s m _⟩
    · exact .inl (lane_bindLane_ne s k _ _ hml)
  · exact .inl rfl

/-! ### A closed property passes through settling -/

theorem available_release (x : Lane) : x.release.available = true := rfl

theorem partsKeep_lane {s : State} {l : LaneId} {P : Lane → Prop} (closed : LaneMoves s l P) (c : Bool) :
    PartsKeep s c fun u => P (u.lane l) where
  quiets _ _ h := h
  replaceRow k u _ h := by
    obtain hu | ⟨⟨htrial, -⟩, hu⟩ := lane_replaceRow_cases k u l
    all_goals rw [hu]
    · exact h
    · exact closed.release _ h htrial
  trial m u _ h := by
    by_cases hm : l = m
    · subst hm
      obtain hu | ⟨htrial, -, hu⟩ := lane_settleTrial_cases l u
      all_goals rw [hu]
      · exact h
      · exact closed.release _ h htrial
    · rwa [lane_settleTrial_ne u hm]
  held m u hw h := by
    by_cases hm : l = m
    · subst hm
      obtain hu | ⟨hheld, hmove⟩ := lane_settleHeldLane_move l u
      · rwa [hu]
      · exact closed.unheld _ _ h hheld (hmove.of_within hw)
    · rwa [lane_settleHeldLane_ne u hm]
  swap m u hw h := by
    by_cases hm : l = m
    · subst hm
      obtain hu | ⟨c, hmove, hu⟩ | ⟨hmode, ⟨k, t, st, a, b, hctx, hends⟩, hrole, hu⟩ := lane_settleSwap_cases l u
      all_goals rw [hu]
      · exact h
      · exact closed.ctx _ c h (hmove.of_within hw)
      · exact closed.gaveUp (hw.mode ▸ hmode) _ k t st a b h hctx (by rwa [hw.swappingAt] at hends) hrole
    · rwa [lane_settleSwap_ne u hm]
  moot _ _ h := h
  holdAgain m u _ h := by rwa [(linkOnly_holdAgain m u).lane]
  sendDue _ u _ h := by rwa [lane_sendDue]

theorem settleKeeps_lane {s : State} {l : LaneId} {P : Lane → Prop} (closed : LaneClosed s l P) (c : Bool) :
    SettleKeeps s c fun u => P (u.lane l) where
  toPartsKeep := partsKeep_lane closed.toLaneMoves c
  assign hactive u hw h := by
    have assignable {k : Nat} (hk : u.due k = true) : Assignable s k .ordinary := by
      obtain ⟨hopen, htried⟩ := isOpen_of_due hk
      rw [hw.row] at hopen
      rw [hw.tried] at htried
      exact .inl ⟨rfl, hopen, htried⟩
    obtain hu | ⟨k, hk, ⟨havailable, hu⟩ | ⟨htrial, -, hu⟩⟩ := lane_assignOne_cases u l
    all_goals rw [hu]
    · exact h
    · rw [hw.slotRec]
      exact closed.bind hactive _ k _ h havailable (assignable hk)
    · rw [hw.slotRec]
      exact closed.bind hactive _ k _ (closed.release _ h htrial) (available_release _) (assignable hk)
  assignStandby hactive u hw h := by
    obtain hu | ⟨k, hk, havailable, hu⟩ := lane_assignStandbyOne_cases u l
    all_goals rw [hu]
    · exact h
    · obtain ⟨hlacks, htried⟩ := lacksStandby_of_standbyDue hk
      rw [hw.row] at hlacks
      rw [hw.standbyTried] at htried
      rw [hw.slotRec, hw.termOf]
      exact closed.bind hactive _ k _ h havailable (.inr ⟨rfl, hlacks, htried⟩)

/-- A closed property of a lane passes through the settling of the blocks. -/
theorem lane_settleBlocks {s : State} {l : LaneId} {P : Lane → Prop} (closed : LaneClosed s l P) (h : P (s.lane l)) (c : Bool) :
    P ((s.settleBlocks c).lane l) := (settleBlocks_keeps (settleKeeps_lane closed c) h).2

theorem lane_settle {s : State} {l : LaneId} {P : Lane → Prop} (hmode : s.mode.appliesFrames = true)
    (closed : LaneClosed s.joinIfComplete l P) (h : P (s.lane l)) (c : Bool) : P ((s.settle c).lane l) := by
  rw [settle_eq hmode]
  exact lane_settleBlocks closed (by rwa [lane_joinIfComplete]) c

/-! ### Closed properties -/

/-- A lane in no trial, not HELD, and not to be bound, keeps everything but its swap context, and that too where it has none. -/
theorem laneClosed_still {s : State} {l : LaneId} {y : Lane} (htrial : y.role ≠ .trial) (hheld : y.mark.isHeld = false)
    (hctx : y.ctx = .none) (hbind : s.claimActive = false ∨ y.available = false) : LaneClosed s l (· = y) where
  release x hx ht := absurd (hx ▸ ht) htrial
  ctx x c hx hm := by
    rw [hx, hctx] at hm
    cases hm
  gaveUp _ x k t st a b hx hc _ _ := by rw [hx, hctx] at hc; cases hc
  unheld x _ hx hh _ := by rw [hx, hheld] at hh; cases hh
  bind ha x _ _ hx hav _ := by
    rw [hx] at hav
    rcases hbind with h | h
    · rw [h] at ha; cases ha
    · rw [h] at hav; cases hav

/-- A released lane, or one bound for another trial, and not for slot `k` where no lane may be bound to it. -/
theorem laneClosed_released (s : State) (l : LaneId) : LaneClosed s l Released where
  release x hx _ := ⟨rfl, rfl, rfl, rfl, .inl ⟨rfl, rfl, rfl, rfl⟩⟩
  ctx x c hx _ := hx
  gaveUp _ x _ _ _ _ _ hx _ _ hr := by
    obtain ⟨-, -, -, -, ⟨hrole, -⟩ | ⟨hrole, -⟩⟩ := hx <;> rw [hrole] at hr <;> rcases hr with hr | hr <;> cases hr
  unheld x _ hx hh _ := by
    obtain ⟨-, -, -, -, ⟨-, -, -, hm⟩ | ⟨-, -, -, hm | ⟨t, hm⟩⟩⟩ := hx <;> rw [hm] at hh <;> cases hh
  bind _ x k m hx _ hm := by
    obtain ⟨hgate, hretry, -⟩ := hx
    refine ⟨?_, hretry, rfl, rfl, .inr ⟨rfl, rfl, rfl, ?_⟩⟩
    · simp [Lane.bind, Lane.enterTune, Lane.setRole, hgate]
    · rcases hm with ⟨rfl, -⟩ | ⟨rfl, -⟩
      · exact .inl rfl
      · exact .inr ⟨_, rfl⟩

theorem laneClosed_and {s : State} {l : LaneId} {P Q : Lane → Prop} (hP : LaneClosed s l P) (hQ : LaneClosed s l Q) :
    LaneClosed s l fun x => P x ∧ Q x where
  release x h ht := ⟨hP.release x h.1 ht, hQ.release x h.2 ht⟩
  ctx x c h hm := ⟨hP.ctx x c h.1 hm, hQ.ctx x c h.2 hm⟩
  gaveUp hr x k t st a b h hc he hrole := ⟨hP.gaveUp hr x k t st a b h.1 hc he hrole, hQ.gaveUp hr x k t st a b h.2 hc he hrole⟩
  unheld x y h hh hm := ⟨hP.unheld x y h.1 hh hm, hQ.unheld x y h.2 hh hm⟩
  bind ha x k m h hav hm := ⟨hP.bind ha x k m h.1 hav hm, hQ.bind ha x k m h.2 hav hm⟩

/-- No lane comes to be HELD in settling. -/
theorem laneClosed_notHeld (s : State) (l : LaneId) : LaneClosed s l fun x => x.mark.isHeld = false where
  release _ _ _ := rfl
  ctx _ _ h _ := h
  gaveUp _ _ _ _ _ _ _ _ _ _ _ := rfl
  unheld x y h hh _ := by rw [h] at hh; cases hh
  bind _ x k m _ _ hm := by
    rcases hm with ⟨rfl, -⟩ | ⟨rfl, -⟩ <;> rfl

end Sys2Proof.Machine
end

section
/-! # What settling does to the frames of a station

A frame of an owed kind that is held stays held through settling where none of the withdrawals means it (`Spares`); a frame that is
absent stays absent where none of the frames that settling queues is it (`Unsent`). -/

namespace Sys2Proof.Machine

open Sys2Proof.Safety

/-! ### The link alone -/

/-- Whether a frame is wanted does not depend on the link. -/
theorem wants_of_linkOnly {s t : State} (h : LinkOnly s t) (f : Frame) : t.wants f = s.wants f := by
  rw [h]
  cases f <;> rfl

/-- The frame is held and of a kind that its owner queues again. -/
def Holds (f : Frame) (L : Link) : Prop := L.heldFrame (· == f) = true

section
variable {f : Frame}

theorem Holds.join {L : Link} (howed : isOwed (.fixed f) = true) (h : Holds f L) (q : QFrame) : Holds f (L.join q) :=
  heldFrame_join_of_held (fun g hg => by rwa [beq_iff_eq.1 hg]) h q

theorem holds_join (howed : isOwed (.fixed f) = true) (L : Link) : Holds f (L.join (.fixed f)) :=
  heldFrame_join L f _ (beq_self_eq_true f) howed

theorem Holds.withdraw {L : Link} {q : Frame → Bool} (h : Holds f L) (hq : q f = false) : Holds f (L.withdraw q) :=
  heldFrame_withdraw (fun g hg => by rwa [beq_iff_eq.1 hg]) h

theorem holdKeeps_holds (howed : isOwed (.fixed f) = true) {k : Nat} (hhold : isHoldFrame k f = false) :
    HoldKeeps k (Holds f) :=
  holdKeeps_held (fun g hg => by rwa [beq_iff_eq.1 hg]) fun g hg => by rwa [beq_iff_eq.1 hg]

/-- A frame held at an owner is queued, owed, or about to be queued again. -/
theorem holds_iff (L : Link) :
    Holds f L ↔ (∃ e ∈ L.queue, e.frame = .fixed f) ∨ .fixed f ∈ L.owed ∨ .fixed f ∈ L.due := by
  have hmeets (q : QFrame) : q.meets (· == f) = true ↔ q = .fixed f := by
    cases q <;> simp [QFrame.meets]
  rw [Holds, heldFrame_iff]
  simp [hmeets]

end

/-! ### A frame that settling does not withdraw -/

/-- No part of settling, in the state as it is, withdraws the frame. `completed` as for settling. -/
structure Spares (f : Frame) (completed : Bool) (u : State) : Prop where
  wants : completed = true ∨ isQuiet f = true ∨ isClaimOrSwap f = true → u.wants f = true
  held : ∀ l k, (u.lane l).mark.isHeld = true → (u.lane l).slot = some k →
    isCedeOf k l f = false ∧ ((isGiverFrame k f || isTakerFrame k f) = false ∨ (u.row k).names (u.ownPair l) = false
      ∨ (u.row k).isSwapping = true ∨ u.mode ≠ .resting)
  giver : ∀ l k t st a b, (u.lane l).ctx = .giver k t st a b →
    u.settleGiver l k t st = u ∨ (isGiverFrame k f || isTakerFrame k f) = false
  taker : ∀ l k t st al, (u.lane l).ctx = .taker k t st al →
    u.swappingAt k t (fun _ => true) = true ∨ isTakerFrame k f = false

/-- A frame of a kind that its owner queues again, and that is no SWAP-HOLD. -/
structure Kept (f : Frame) : Prop where
  owed : isOwed (.fixed f) = true
  noHold : ∀ k, isHoldFrame k f = false

theorem noReclaim_of_owed {f : Frame} (howed : isOwed (.fixed f) = true) (l : LaneId) : isReclaimCedeOf l f = false := by
  rcases f with _ | ⟨slot, role, term, lane, reason⟩ | _ | _ | _ | _ | _ | _ | _ | _ | _ | _ | _
  case cede =>
    cases reason with
    | reclaimed fs => cases howed
    | _ => rfl
  all_goals rfl

theorem noBid_of_owed {f : Frame} (howed : isOwed (.fixed f) = true) (l : LaneId) : isBidOf l f = false := by
  cases f <;> first | rfl | cases howed

theorem isClaimOrSwap_of_taker {k : Nat} {f : Frame} (h : isTakerFrame k f = true) : isClaimOrSwap f = true := by
  cases f <;> first | rfl | cases h

section
variable {f : Frame} {c : Bool} {u : State} (howed : isOwed (.fixed f) = true) (spares : Spares f c u)
include howed

theorem holds_dropTrial (l : LaneId) (h : Holds f u.link) : Holds f (u.dropTrial l).link := h.withdraw (noBid_of_owed howed l)

theorem holds_giveUp {k : Nat} (role : CarriageRole) (l : LaneId) (r : CedeReason)
    (hk : (isGiverFrame k f || isTakerFrame k f) = false) (h : Holds f u.link) : Holds f (u.giveUp k role l r).link :=
  (h.withdraw hk).join howed _

theorem holds_drainIfResting (k : Nat) (l : LaneId)
    (hk : u.mode = .resting → (isGiverFrame k f || isTakerFrame k f) = false) (h : Holds f u.link) :
    Holds f (u.drainIfResting k l).link := by
  rw [State.drainIfResting]
  split
  · rename_i hmode
    rw [State.drainLane]
    split
    · split
      · exact h.join howed _
      · exact holds_giveUp howed _ l _ (hk hmode) h
    · exact holds_giveUp howed _ l _ (hk hmode) h
    · exact h
  · exact h

theorem holds_settleTrial (l : LaneId) (h : Holds f u.link) : Holds f (State.settleTrial l u).link := by
  simp only [State.settleTrial]
  split
  · exact holds_dropTrial howed l h
  · exact h

theorem holds_replaceRow (k : Nat) (h : Holds f u.link) : Holds f (State.replaceRow k u).link := by
  obtain ⟨due, hrow⟩ := replaceRow_eq k u
  have loop (ls : List LaneId) (v : State) (old : RowLocal) (p q : Option Nat) (hv : Holds f v.link) :
      Holds f (ls.foldl (fun s l => State.raiseLane old p q due k l s) v).link := by
    induction ls generalizing v with
    | nil => exact hv
    | cons l ls ih =>
      refine ih _ ?_
      simp only [State.raiseLane]
      repeat' split
      all_goals first | exact hv | exact holds_dropTrial howed l hv
  rw [hrow]
  exact loop allLanes _ _ _ _ h

theorem holds_assignOne (h : Holds f u.link) : Holds f u.assignOne.link := by
  simp only [State.assignOne]
  repeat' split
  · exact h
  · exact h
  · exact holds_dropTrial howed _ h
  · exact h

theorem holds_settleHeldLane (l : LaneId)
    (spares : ∀ k, (u.lane l).mark.isHeld = true → (u.lane l).slot = some k → isCedeOf k l f = false
      ∧ ((isGiverFrame k f || isTakerFrame k f) = false ∨ (u.row k).names (u.ownPair l) = false
        ∨ (u.row k).isSwapping = true ∨ u.mode ≠ .resting))
    (h : Holds f u.link) : Holds f (State.settleHeldLane l u).link := by
  obtain hu | ⟨fs, r, k, hmark, hslot, -, -, hu⟩ := lane_settleHeldLane_cases l u
  · rwa [hu]
  · obtain ⟨hcede, hnamed⟩ := spares k (by rw [hmark]; rfl) hslot
    have hwithdrawn : Holds f ((u.withdraw (isReclaimCedeOf l)).withdraw (isCedeOf k l)).link :=
      (h.withdraw (noReclaim_of_owed howed l)).withdraw hcede
    rw [hu]
    simp only [State.unheld]
    split
    · exact hwithdrawn
    · rename_i ρ hrole
      have hnames : (u.row k).names (u.ownPair l) = true := by
        rw [Row.names, Bool.or_eq_true, beq_iff_eq, beq_iff_eq]
        split at hrole
        · exact .inl ‹_›
        · split at hrole
          · exact .inr ‹_›
          · cases hrole
      split
      · rename_i hback
        have hswap : (u.row k).isSwapping = false := hback.1
        refine holds_drainIfResting (u := State.modLane _ l _) howed k l (fun hmode => ?_) hwithdrawn
        rcases hnamed with h | h | h | h
        · exact h
        · rw [hnames] at h; cases h
        · rw [hswap] at h; cases h
        · exact absurd hmode h
      · exact hwithdrawn.join howed _

theorem holds_settleSwap (l : LaneId)
    (giver : ∀ k t st a b, (u.lane l).ctx = .giver k t st a b →
      u.settleGiver l k t st = u ∨ (isGiverFrame k f || isTakerFrame k f) = false)
    (taker : ∀ k t st al, (u.lane l).ctx = .taker k t st al → isTakerFrame k f = false
      ∨ u.swappingAt k t (fun _ => true) = true ∧ u.wants f = true)
    (h : Holds f u.link) : Holds f (State.settleSwap l u).link := by
  simp only [State.settleSwap]
  split
  · exact h
  · rename_i k t st a b hctx
    rcases giver k t st a b hctx with hsame | hk
    · rwa [hsame]
    · have hgiver : isGiverFrame k f = false := (Bool.or_eq_false_iff.1 hk).1
      simp only [State.settleGiver]
      split
      · exact h
      · split
        · exact h
        · split
          · exact holds_giveUp (u := State.endCtx _ l) howed _ l _ hk (h.withdraw hgiver)
          · exact h.withdraw hgiver
  · rename_i k t st al hctx
    simp only [State.settleTaker]
    split
    · have hmoot : (isTakerFrame k f && !u.wants f) = false := by
        rcases taker k t st al hctx with hk | ⟨-, hwants⟩
        · rw [hk]; rfl
        · rw [hwants]; simp
      split
      · exact h.withdraw hmoot
      · exact h.withdraw hmoot
    · rename_i hends
      rcases taker k t st al hctx with hk | ⟨hstands, -⟩
      · exact h.withdraw hk
      · exact absurd hstands hends

include spares
omit howed

theorem holds_quiets (h : Holds f u.link) : Holds f (u.withdraw fun g => isQuiet g && !u.wants g).link := by
  refine h.withdraw ?_
  cases hq : isQuiet f with
  | false => rfl
  | true => rw [spares.wants (.inr (.inl hq))]; rfl

theorem holds_moot (h : Holds f u.link) : Holds f u.withdrawMoot.link := by
  refine h.withdraw ?_
  cases hq : isClaimOrSwap f with
  | false => rfl
  | true => rw [spares.wants (.inr (.inr hq))]; rfl

end

theorem holds_holdAgain {f : Frame} (kept : Kept f) {u : State} (l : LaneId) (h : Holds f u.link) : Holds f (State.holdAgain l u).link :=
  HoldKeeps.holdAgain (fun k _ => holdKeeps_holds kept.owed (kept.noHold k)) h

/-- A wanted frame stays held while other frames are queued again, and is queued again itself where it has fallen due. -/
theorem holds_sendAgain {f : Frame} {u : State} (kept : Kept f) (hwants : u.wants f = true) (q : QFrame)
    (h : Holds f u.link ∨ q = .fixed f) : Holds f (u.sendAgain q).link := by
  rw [State.sendAgain.eq_def]
  split
  · rename_i slot term v
    rcases h with h | h
    · rw [State.forLanes]
      induction allLanes generalizing u with
      | nil => exact h
      | cons l ls ih =>
        rw [List.foldl_cons]
        split
        · refine ih ?_ (HoldKeeps.holdCheck (fun k _ => holdKeeps_holds kept.owed (kept.noHold k)) h)
          rwa [wants_of_linkOnly (linkOnly_holdCheck u l)]
        · exact ih hwants h
    · have := kept.noHold slot.toNat
      obtain rfl := QFrame.fixed.inj h
      simp [isHoldFrame, byteOf] at this
  · rename_i g hg
    split
    · rcases h with h | h
      · refine Holds.join kept.owed (h.withdraw ?_) _
        rw [hwants]
        simp
      · obtain rfl := QFrame.fixed.inj h
        exact holds_join kept.owed _
    · rename_i hmoot
      rcases h with h | h
      · exact h
      · obtain rfl := QFrame.fixed.inj h
        exact absurd hwants hmoot
  · rename_i hnot
    rcases h with h | h
    · exact h
    · exact absurd h (hnot f)

theorem holds_sendDue {f : Frame} {u : State} (kept : Kept f) (hwants : u.wants f = true) (h : Holds f u.link) :
    Holds f u.sendDue.link := by
  have loop (qs : List QFrame) (v : State) (hv : v.wants f = true) (h : Holds f v.link ∨ .fixed f ∈ qs) :
      Holds f (qs.foldl State.sendAgain v).link := by
    induction qs generalizing v with
    | nil => exact h.resolve_right nofun
    | cons q qs ih =>
      refine ih _ ?_ ?_
      · rwa [wants_of_linkOnly (linkOnly_sendAgain v q)]
      · rcases h with h | h
        · exact .inl (holds_sendAgain kept hv q (.inl h))
        · rcases List.mem_cons.1 h with h | h
          · exact .inl (holds_sendAgain kept hv q (.inr h.symm))
          · exact .inr h
  rw [State.sendDue]
  refine loop _ _ ((wants_of_linkOnly (s := u) (t := { u with link := { u.link with due := [] } }) rfl f).trans hwants) ?_
  rcases (holds_iff _).1 h with h | h | h
  · exact .inl ((holds_iff _).2 (.inl h))
  · exact .inl ((holds_iff _).2 (.inr (.inl h)))
  · exact .inr h

/-- A frame of an owed kind stays held through settling, beside a property under which nothing withdraws it. -/
theorem settleKeeps_holds {s : State} {c : Bool} {f : Frame} {J : State → Prop} (kept : Kept f) (keeps : SettleKeeps s c J)
    (spares : ∀ u, Within s u → J u → Spares f c u) : SettleKeeps s c fun u => J u ∧ Holds f u.link where
  quiets u hw h := ⟨keeps.quiets u hw h.1, holds_quiets (spares u hw h.1) h.2⟩
  replaceRow k u hw h := ⟨keeps.replaceRow k u hw h.1, holds_replaceRow kept.owed k h.2⟩
  trial l u hw h := ⟨keeps.trial l u hw h.1, holds_settleTrial kept.owed l h.2⟩
  held l u hw h := ⟨keeps.held l u hw h.1, holds_settleHeldLane kept.owed l ((spares u hw h.1).held l) h.2⟩
  swap l u hw h := by
    refine ⟨keeps.swap l u hw h.1, holds_settleSwap kept.owed l ((spares u hw h.1).giver l) (fun k t st al hctx => ?_) h.2⟩
    rcases (spares u hw h.1).taker l k t st al hctx with hstands | hk
    · cases hk : isTakerFrame k f with
      | false => exact .inl rfl
      | true => exact .inr ⟨hstands, (spares u hw h.1).wants (.inr (.inr (isClaimOrSwap_of_taker hk)))⟩
    · exact .inl hk
  moot u hw h := ⟨keeps.moot u hw h.1, holds_moot (spares u hw h.1) h.2⟩
  holdAgain l u hw h := ⟨keeps.holdAgain l u hw h.1, holds_holdAgain kept l h.2⟩
  sendDue hc u hw h := ⟨keeps.sendDue hc u hw h.1, holds_sendDue kept ((spares u hw h.1).wants (.inl hc)) h.2⟩
  assign ha u hw h := ⟨keeps.assign ha u hw h.1, holds_assignOne kept.owed h.2⟩
  assignStandby ha u hw h := by
    refine ⟨keeps.assignStandby ha u hw h.1, ?_⟩
    have : u.assignStandbyOne.link = u.link := by
      simp only [State.assignStandbyOne]
      split <;> rfl
    rw [this]
    exact h.2

/-! ### The join -/

theorem holds_enterJoined {f : Frame} (howed : isOwed (.fixed f) = true) {s : State} (h : Holds f s.link) : Holds f s.enterJoined.link := by
  have hroll : Holds f (State.requestRoll { s with mode := .joined, joinQuiet := none }).link := by
    show Holds f s.link.requestRoll
    rw [Link.requestRoll]
    split
    · exact h
    · split
      · exact h
      · exact h.join howed _
  rw [State.enterJoined, State.quietStale]
  generalize State.requestRoll { s with mode := .joined, joinQuiet := none } = v at hroll
  induction allStations generalizing v with
  | nil => exact hroll
  | cons x xs ih =>
    refine ih _ ?_
    dsimp only
    split
    · exact hroll.join howed _
    · exact hroll

theorem holds_joinIfComplete {f : Frame} (howed : isOwed (.fixed f) = true) {s : State} (h : Holds f s.link) :
    Holds f s.joinIfComplete.link := by
  rw [State.joinIfComplete]
  split
  · exact holds_enterJoined howed h
  · exact h

/-! ### A CEDE or a QUIET -/

theorem kept_cede (slot role : Byte) (term : Term) (lane : Byte) {reason : CedeReason}
    (h : ∀ fs, reason ≠ .reclaimed fs) : Kept (.cede slot role term lane reason) := by
  refine ⟨?_, fun _ => rfl⟩
  cases reason with
  | reclaimed fs => exact absurd rfl (h fs)
  | _ => rfl

theorem kept_quiet (x n : Byte) : Kept (.quiet x n) := ⟨rfl, fun _ => rfl⟩

/-- All lanes meet a closed property through settling. -/
theorem settleKeeps_lanes {s : State} {P : LaneId → Lane → Prop} (closed : ∀ l, LaneClosed s l (P l)) (c : Bool) :
    SettleKeeps s c fun u => ∀ l, P l (u.lane l) where
  quiets u hw h l := (settleKeeps_lane (closed l) c).quiets u hw (h l)
  replaceRow k u hw h l := (settleKeeps_lane (closed l) c).replaceRow k u hw (h l)
  trial m u hw h l := (settleKeeps_lane (closed l) c).trial m u hw (h l)
  held m u hw h l := (settleKeeps_lane (closed l) c).held m u hw (h l)
  swap m u hw h l := (settleKeeps_lane (closed l) c).swap m u hw (h l)
  moot u hw h l := (settleKeeps_lane (closed l) c).moot u hw (h l)
  holdAgain m u hw h l := (settleKeeps_lane (closed l) c).holdAgain m u hw (h l)
  sendDue hc u hw h l := (settleKeeps_lane (closed l) c).sendDue hc u hw (h l)
  assign ha u hw h l := (settleKeeps_lane (closed l) c).assign ha u hw (h l)
  assignStandby ha u hw h l := (settleKeeps_lane (closed l) c).assignStandby ha u hw (h l)

theorem byteOf_lane_inj {l m : LaneId} (h : byteOf l.val = byteOf m.val) : l = m := by
  have := congrArg BitVec.toNat h
  rw [byteOf, byteOf, BitVec.toNat_ofNat, BitVec.toNat_ofNat] at this
  exact Fin.ext (by omega)

/-- A CEDE of a lane that is not HELD stays held through settling: what withdraws a CEDE is the release of a HELD lane, and at a
completed frame a newer CEDE where the old one is moot. -/
theorem holds_cede_settleBlocks {s : State} {c : Bool} {slot role : Byte} {term : Term} {l : LaneId} {reason : CedeReason}
    (hreason : ∀ fs, reason ≠ .reclaimed fs) (hheld : (s.lane l).mark.isHeld = false)
    (hwants : c = true → (s.row slot.toNat).term = some term
      ∧ ∃ ρ, carriageRoleOf role = some ρ ∧ (s.row slot.toNat).named ρ = some (s.ownPair l))
    (h : Holds (.cede slot role term (byteOf l.val) reason) s.link) :
    Holds (.cede slot role term (byteOf l.val) reason) (s.settleBlocks c).link := by
  refine (settleBlocks_keeps (settleKeeps_holds (kept_cede slot role term (byteOf l.val) hreason)
    (settleKeeps_lane (laneClosed_notHeld s l) c) fun u hw hl => ?_) ⟨hheld, h⟩).2.2
  refine ⟨fun hc => ?_, fun m k hm _ => ⟨?_, .inl rfl⟩, fun _ _ _ _ _ _ _ => .inr rfl, fun _ _ _ _ _ _ => .inr rfl⟩
  · rcases hc with hc | hc | hc
    · obtain ⟨hterm, ρ, hρ, hnamed⟩ := hwants hc
      have hlane : laneOf (byteOf l.val) = some l := by
        have hval : (byteOf l.val).toNat = l.val := by
          rw [byteOf, BitVec.toNat_ofNat]
          omega
        rw [laneOf, dif_pos (by omega)]
        exact congrArg some (Fin.ext hval)
      have hunreclaimed : (match reason with | .reclaimed fs => (u.row fs.toNat).isOpen | _ => true) = true := by
        cases reason with
        | reclaimed fs => exact absurd rfl (hreason fs)
        | _ => rfl
      cases reason with
      | reclaimed fs => exact absurd rfl (hreason fs)
      | _ => simp [State.wants, hρ, hlane, hw.row, hw.ownPair, hterm, hnamed]
    · cases hc
    · cases hc
  · rw [isCedeOf, Bool.and_eq_false_iff]
    refine .inr (Bool.eq_false_iff.2 fun he => ?_)
    obtain rfl := byteOf_lane_inj (beq_iff_eq.1 he)
    rw [hl] at hm
    cases hm

end Sys2Proof.Machine
end

section
/-! # Completed frames: what the carriage frames write

A carriage frame writes rows with their local data, lanes and the send queue, and nothing else of a station (`Inner`). -/

namespace Sys2Proof.Machine

open Sys2Proof.Safety

/-- Nothing but the table, the lanes and the link differs. -/
structure Inner (s t : State) : Prop where
  eq : t = { s with table := t.table, lanes := t.lanes, link := t.link }

theorem Inner.refl (s : State) : Inner s s := ⟨rfl⟩

theorem Inner.trans {s t u : State} (h : Inner s t) (h' : Inner t u) : Inner s u := by
  constructor
  rw [h'.eq, h.eq]

theorem Within.inner {s t : State} (h : Within s t) : Inner s t := ⟨h.eq⟩
theorem LinkOnly.inner {s t : State} (h : LinkOnly s t) : Inner s t := ⟨by rw [h]⟩

section
variable {s t : State} (h : Inner s t)
include h

theorem Inner.mode : t.mode = s.mode := (congrArg State.mode h.eq :)
theorem Inner.number : t.number = s.number := (congrArg State.number h.eq :)
theorem Inner.dir : t.dir = s.dir := (congrArg State.dir h.eq :)
theorem Inner.plan : t.plan = s.plan := (congrArg State.plan h.eq :)
theorem Inner.joinMark : t.joinMark = s.joinMark := (congrArg State.joinMark h.eq :)
theorem Inner.muteRest : t.muteRest = s.muteRest := (congrArg State.muteRest h.eq :)
theorem Inner.resetCause : t.resetCause = s.resetCause := (congrArg State.resetCause h.eq :)
theorem Inner.peer (x : Station) : t.peer x = s.peer x := by rw [State.peer, h.dir]; rfl
theorem Inner.claimActive : t.claimActive = s.claimActive := by rw [State.claimActive, h.mode, h.number, h.peer]; rfl
theorem Inner.slotRec (k : Nat) : t.slotRec k = s.slotRec k := by rw [State.slotRec, State.slots, h.plan]; rfl
theorem Inner.slotCount : t.slotCount = s.slotCount := by rw [State.slotCount, State.slots, h.plan]; rfl
theorem Inner.drainCount : t.drainCount = s.drainCount := by rw [State.drainCount, h.plan]; rfl
theorem Inner.ownPair (l : LaneId) : t.ownPair l = s.ownPair l := by rw [State.ownPair, h.number]; rfl
theorem Inner.swapReason : t.swapReason = s.swapReason := by rw [State.swapReason, h.mode]; rfl
theorem Inner.digest : t.digest = s.digest := by rw [State.digest, h.plan]; rfl

end

theorem inner_ite {s t u : State} {c : Prop} [Decidable c] (ht : Inner s t) (hu : Inner s u) :
    Inner s (if c then t else u) := by
  split
  · exact ht
  · exact hu

theorem inner_foldl {α : Type} (f : State → α → State) (h : ∀ s a, Inner s (f s a)) (xs : List α) (s : State) :
    Inner s (xs.foldl f s) := by
  induction xs generalizing s with
  | nil => exact .refl s
  | cons x xs ih => exact (h s x).trans (ih _)

theorem inner_putRow (s : State) (k : Nat) (r : Row) : Inner s (s.putRow k r) := ⟨rfl⟩
theorem inner_setLoc (s : State) (k : Nat) (loc : RowLocal) : Inner s (s.setLoc k loc) := ⟨rfl⟩
theorem inner_setEntry (s : State) (k : Nat) (e : Entry) : Inner s (s.setEntry k e) := ⟨rfl⟩
theorem inner_modLane (s : State) (l : LaneId) (f : Lane → Lane) : Inner s (s.modLane l f) := ⟨rfl⟩
theorem inner_withdraw (s : State) (p : Frame → Bool) : Inner s (s.withdraw p) := ⟨rfl⟩
theorem inner_send (s : State) (f : Frame) : Inner s (s.send f) := ⟨rfl⟩

/-! ### Departures -/

theorem inner_namedByCut (s : State) (k : Nat) (l : LaneId) (swap : Bool) : Inner s (s.namedByCut k l swap) := by
  rw [State.namedByCut]
  refine inner_ite (.refl s) (inner_ite ?_ (within_namedInVain s k l _ _ _).inner)
  exact ((inner_withdraw s _).trans (inner_modLane _ l _)).trans (within_drainIfResting _ k l).inner

theorem inner_unnamed (s : State) (k : Nat) (l : LaneId) (role : CarriageRole) : Inner s (s.unnamed k l role) := by
  exact inner_ite (((inner_modLane s l _).trans (inner_modLane _ l _)).trans (inner_withdraw _ _)) (.refl s)

theorem inner_giverBack (s : State) (k : Nat) (l : LaneId) (dropped vain : Bool) :
    Inner s (s.giverBack k l dropped vain) := by
  rw [State.giverBack]
  refine inner_ite (.refl s) (inner_ite (inner_ite (within_giveUp s k _ l _).inner ?_)
    (inner_ite (within_namedInVain s k l _ _ _).inner (.refl s)))
  exact (inner_withdraw s _).trans (inner_modLane _ l _)

theorem inner_giverKept (s : State) (k : Nat) (p : Pair) (a b : Bool) : Inner s (s.giverKept k p a b) :=
  inner_ite (inner_giverBack s k p.lane a b) (.refl s)

theorem inner_cutRow (s : State) (k : Nat) (t : Term) (x : Station) (sb : Pair) (swap : Bool) :
    Inner s (s.cutRow k t x sb swap) :=
  inner_ite ((inner_putRow s k _).trans (inner_ite (inner_unnamed _ k sb.lane _) (.refl _)))
    ((inner_putRow s k _).trans (inner_ite (inner_namedByCut _ k sb.lane swap) (.refl _)))

theorem inner_carrierLeaves (s : State) (k : Nat) : Inner s (s.carrierLeaves k) := by
  rw [State.carrierLeaves]
  split
  · exact inner_putRow s k _
  · exact inner_cutRow s k _ _ _ _
  · exact inner_cutRow s k _ _ _ _
  · exact .refl s

theorem inner_standbyLeaves (s : State) (k : Nat) (d : Bool) : Inner s (s.standbyLeaves k d) := by
  rw [State.standbyLeaves]
  split
  · exact inner_putRow s k _
  · exact (inner_putRow s k _).trans (inner_giverKept _ k _ _ _)
  · exact .refl s

theorem inner_removeStation (s : State) (x : Station) : Inner s (s.removeStation x) :=
  inner_foldl _ (fun s k => inner_ite (inner_carrierLeaves s k) (inner_ite (inner_standbyLeaves s k false) (.refl s))) _ s

theorem inner_activateClaim (s : State) : Inner s s.activateClaim := inner_foldl _ (fun s k => inner_setLoc s k _) _ s

/-! ### BID and CEDE -/

theorem inner_ownBidAccepted (s : State) (l : LaneId) (k : Nat) (role : CarriageRole) :
    Inner s (s.ownBidAccepted l k role) := inner_ite (inner_modLane s l _) (within_sendCede s k role l _).inner

theorem inner_ownBidIgnored (s : State) (l : LaneId) (k : Nat) (role : CarriageRole) (t : Term) :
    Inner s (s.ownBidIgnored l k role t) := by
  have dropped : Inner s (if (s.lane l).tries k role = true then s.dropTrial l else s) :=
    inner_ite (within_dropTrial s l).inner (.refl s)
  rw [State.ownBidIgnored.eq_def]
  dsimp only
  split
  · exact dropped.trans (inner_ite (inner_setLoc _ k _) (.refl _))
  · exact dropped.trans (inner_ite (inner_setLoc _ k _) (.refl _))

theorem inner_applyBid (s : State) (x : Station) (l : LaneId) (k : Nat) (role : CarriageRole) (t : Term) :
    Inner s (s.applyBid x l k role t) := by
  rw [State.applyBid.eq_def]
  split
  · exact inner_putRow s k _
  · exact inner_putRow s k _
  · exact .refl s

theorem inner_takeBid (s : State) (sender : BitVec 4) (slot role : Byte) (t : Term) (lane : Byte) :
    Inner s (s.takeBid sender slot role t lane) := by
  simp only [State.takeBid]
  split
  · rename_i x ρ l _ _ _
    have applied (ok : Bool) : Inner s (if ok = true then s.applyBid x l slot.toNat ρ t else s) :=
      inner_ite (inner_applyBid s x l _ ρ t) (.refl s)
    exact inner_ite (inner_putRow s _ _) ((applied _).trans
      (inner_ite (inner_ite (inner_ownBidAccepted _ l _ ρ) (inner_ownBidIgnored _ l _ ρ t)) (.refl _)))
  · exact .refl s

theorem inner_countReclaim (s : State) (k : Nat) : Inner s (s.countReclaim k) := by
  rw [State.countReclaim]
  split
  · exact inner_ite (inner_setEntry s k _) (.refl s)
  · exact .refl s

/-- The lane that a completed CEDE with reason RECLAIMED leaves (R53): bound for the reclaim, or released. -/
def State.reclaimFreed (s : State) (l : LaneId) (fs : Nat) : State :=
  if (s.releaseLane l).claimActive ∧ ((s.releaseLane l).row fs).isOpen = true then
    (s.releaseLane l).bindLane l fs .trial .reclaim
  else s.releaseLane l

/-- The other role of a row. -/
def CarriageRole.other : CarriageRole → CarriageRole
  | .carrier => .standby
  | .standby => .carrier

theorem reclaimDone_held {s : State} {l : LaneId} {fs : Nat} {r : CarriageRole} (h : (s.lane l).mark = .held fs r) (k : Nat)
    (role : CarriageRole) :
    s.reclaimDone l k role
      = if ((s.reclaimFreed l fs).row k).named role.other = some ((s.reclaimFreed l fs).ownPair l) then
          (s.reclaimFreed l fs).sendCede k role.other l .lost
        else s.reclaimFreed l fs := by
  simp only [State.reclaimDone, h]
  cases role <;> rfl

theorem reclaimDone_of_not_held {s : State} {l : LaneId} (h : (s.lane l).mark.isHeld = false) (k : Nat)
    (role : CarriageRole) : s.reclaimDone l k role = s := by
  simp only [State.reclaimDone]
  split
  · rename_i hmark
    rw [hmark] at h
    cases h
  · rfl

theorem inner_reclaimFreed (s : State) (l : LaneId) (fs : Nat) : Inner s (s.reclaimFreed l fs) :=
  inner_ite ((inner_modLane s l _).trans (inner_modLane _ l _)) (inner_modLane s l _)

theorem inner_reclaimDone (s : State) (l : LaneId) (k : Nat) (role : CarriageRole) : Inner s (s.reclaimDone l k role) := by
  cases hheld : (s.lane l).mark.isHeld with
  | false =>
    rw [reclaimDone_of_not_held hheld]
    exact .refl s
  | true =>
    cases hmark : (s.lane l).mark with
    | held fs r =>
      rw [reclaimDone_held hmark]
      exact inner_ite ((inner_reclaimFreed s l fs).trans (inner_send _ _)) (inner_reclaimFreed s l fs)
    | _ =>
      rw [hmark] at hheld
      cases hheld

/-- The lane of a role leaves its row by a CEDE (R13 to R17). -/
def State.cedesRole (s : State) (k : Nat) : CarriageRole → State
  | .carrier => s.carrierLeaves k
  | .standby => s.standbyLeaves k true

/-- The for-slot of a CEDE with reason RECLAIMED. -/
def reclaimSlot : CedeReason → Option Nat
  | .reclaimed fs => some fs.toNat
  | _ => none

/-- An accepted CEDE: the lane leaves its row, and the for-slot row counts the reclaim (R13 to R17). -/
def State.ceded (s : State) (k : Nat) (ρ : CarriageRole) : Option Nat → State
  | some fs => (s.cedesRole k ρ).countReclaim fs
  | none => s.cedesRole k ρ

/-- The CEDE is accepted, its for-slot known (R12, R16). -/
def State.cedeCounts (s : State) (x : Station) (l : LaneId) (k : Nat) (ρ : CarriageRole) (t : Term) (reason : CedeReason) :
    Bool :=
  (reclaimSlot reason).all (fun fs => fs < s.slotCount) && s.cedeAccepted x l k ρ t

theorem takeCede_eq {s : State} {sender : BitVec 4} {x : Station} {slot role lane : Byte} {ρ : CarriageRole} {l : LaneId}
    {t : Term} {reason : CedeReason} (hx : s.mayAct sender = some x) (hρ : carriageRoleOf role = some ρ)
    (hl : laneOf lane = some l) {u : State}
    (hu : u = if s.cedeCounts x l slot.toNat ρ t reason = true then s.ceded slot.toNat ρ (reclaimSlot reason) else s) :
    s.takeCede sender slot role t lane reason
      = if x = u.number ∧ (reclaimSlot reason).isSome = true then u.reclaimDone l slot.toNat ρ else u := by
  subst hu
  unfold State.takeCede
  rw [hx, hρ, hl]
  have reclaimed (ρ : CarriageRole) (fs : Option Nat) (ok : Bool) :
      (let s' := if ok then (match ρ with | .carrier => s.carrierLeaves slot.toNat | .standby => s.standbyLeaves slot.toNat true) else s
       let s' := match fs with | some fs => if ok then s'.countReclaim fs else s' | none => s'
       if x = s'.number ∧ fs.isSome = true then s'.reclaimDone l slot.toNat ρ else s')
      = (let u := if ok = true then s.ceded slot.toNat ρ fs else s
         if x = u.number ∧ fs.isSome = true then u.reclaimDone l slot.toNat ρ else u) := by
    cases ok <;> cases fs <;> cases ρ <;> rfl
  exact (reclaimed ρ (reclaimSlot reason) (s.cedeCounts x l slot.toNat ρ t reason) :)

theorem takeCede_no_lane (s : State) (sender : BitVec 4) (slot role : Byte) (t : Term) {lane : Byte} (reason : CedeReason)
    (hl : laneOf lane = none) : s.takeCede sender slot role t lane reason = s := by
  unfold State.takeCede
  rw [hl]
  cases s.mayAct sender <;> cases carriageRoleOf role <;> rfl

theorem inner_ceded (s : State) (k : Nat) (ρ : CarriageRole) (fs : Option Nat) : Inner s (s.ceded k ρ fs) := by
  have cedes : Inner s (s.cedesRole k ρ) := by
    cases ρ with
    | carrier => exact inner_carrierLeaves s k
    | standby => exact inner_standbyLeaves s k true
  cases fs with
  | none => exact cedes
  | some fs => exact cedes.trans (inner_countReclaim _ fs)

theorem inner_takeCede (s : State) (sender : BitVec 4) (slot role : Byte) (t : Term) (lane : Byte) (reason : CedeReason) :
    Inner s (s.takeCede sender slot role t lane reason) := by
  cases hl : laneOf lane with
  | none =>
    rw [takeCede_no_lane s sender slot role t reason hl]
    exact .refl s
  | some l =>
    cases hx : s.mayAct sender with
    | none =>
      unfold State.takeCede
      rw [hx]
      exact .refl s
    | some x =>
      cases hρ : carriageRoleOf role with
      | none =>
        unfold State.takeCede
        rw [hx, hρ]
        exact .refl s
      | some ρ =>
        have ceded : Inner s (if s.cedeCounts x l slot.toNat ρ t reason = true then
            s.ceded slot.toNat ρ (reclaimSlot reason) else s) := inner_ite (inner_ceded s _ ρ _) (.refl s)
        rw [takeCede_eq hx hρ hl rfl]
        exact inner_ite (ceded.trans (inner_reclaimDone _ l _ ρ)) ceded

/-! ### Swap frames -/

theorem inner_takeOffer (s : State) (sender : BitVec 4) (slot : Byte) (t : Term) : Inner s (s.takeOffer sender slot t) := by
  simp only [State.takeOffer]
  split
  · exact inner_ite (inner_ite ((inner_putRow s _ _).trans (inner_modLane _ _ _)) (inner_putRow s _ _)) (.refl s)
  · exact .refl s

theorem inner_takeReady (s : State) (sender : BitVec 4) (slot : Byte) (t : Term) : Inner s (s.takeReady sender slot t) := by
  simp only [State.takeReady]
  split
  · refine inner_ite ?_ (.refl s)
    split
    · exact inner_ite (((inner_putRow s _ _).trans (inner_modLane _ _ _)).trans (inner_send _ _)) (inner_putRow s _ _)
    · exact inner_putRow s _ _
  · exact .refl s

theorem inner_openTaker (s : State) (l : LaneId) (k : Nat) (t : Term) : Inner s (s.openTaker l k t) :=
  ((inner_modLane s l _).trans (inner_withdraw _ _)).trans (linkOnly_sendOver _ _).inner

theorem inner_takerDrains (s : State) (l : LaneId) (k : Nat) (t : Term) : Inner s (s.takerDrains l k t) := by
  simp only [State.takerDrains]
  refine Inner.trans (inner_modLane s l fun x => { x with ctx := .taker k t .draining none }) ?_
  split
  · exact .refl _
  · exact inner_ite (inner_openTaker _ l k t) (linkOnly_holdCheck _ l).inner

theorem inner_takerGo (s : State) (l : LaneId) : Inner s (s.takerGo l) := by
  simp only [State.takerGo]
  split
  · exact inner_takerDrains s l _ _
  · exact inner_ite (.refl s) ((inner_withdraw s _).trans (inner_takerDrains _ l _ _))
  · exact .refl s

theorem inner_takeGo (s : State) (sender : BitVec 4) (slot : Byte) (t : Term) (dc : Byte) :
    Inner s (s.takeGo sender slot t dc) := by
  simp only [State.takeGo]
  split
  · refine inner_ite ?_ (.refl s)
    have giver (u : State) (p : Prop) [Decidable p] (l : LaneId) (f : Lane → Lane) : Inner u (if p then u.modLane l f else u) :=
      inner_ite (inner_modLane u l f) (.refl u)
    exact inner_ite (((inner_putRow s _ _).trans (giver _ _ _ _)).trans (inner_takerGo _ _)) ((inner_putRow s _ _).trans (giver _ _ _ _))
  · exact .refl s

theorem inner_takeHold (s : State) (sender : BitVec 4) (slot : Byte) (t : Term) (hold : Byte) :
    Inner s (s.takeHold sender slot t hold) := by
  rw [State.takeHold]
  have row (u : State) (h : Inner s u) : Inner s (if s.mayAct sender = some s.number then
      u.forLanes fun l s => if (s.lane l).ctx.isTaker slot.toNat then s.holdCheck l else s else u) :=
    inner_ite (h.trans (inner_foldl _ (fun s l => inner_ite (linkOnly_holdCheck s l).inner (.refl s)) _ _)) h
  refine row _ ?_
  split
  · exact inner_ite (inner_putRow s _ _) (.refl s)
  · exact .refl s

theorem inner_doneCarrier (s : State) (k : Nat) (l : LaneId) : Inner s (s.doneCarrier k l) :=
  inner_ite (.refl s) (inner_ite (((inner_withdraw s _).trans (inner_modLane _ l _)).trans (within_drainIfResting _ k l).inner)
    (within_namedInVain s k l _ _ _).inner)

theorem inner_doneStandby (s : State) (k : Nat) (l : LaneId) : Inner s (s.doneStandby k l) :=
  inner_ite (.refl s) (inner_ite (inner_ite (within_giveUp s k _ l _).inner ((inner_withdraw s _).trans (inner_modLane _ l _)))
    (within_namedInVain s k l _ _ _).inner)

theorem inner_dropStandby (s : State) (k : Nat) (l : LaneId) : Inner s (s.dropStandby k l) :=
  inner_ite (.refl s) (inner_ite (((inner_withdraw s _).trans (inner_modLane _ l _)).trans (within_drainIfResting _ k l).inner)
    (within_namedInVain s k l _ _ _).inner)

theorem inner_takeDone (s : State) (sender : BitVec 4) (slot : Byte) (t : Term) (lane : Byte) :
    Inner s (s.takeDone sender slot t lane) := by
  simp only [State.takeDone]
  split
  · refine inner_ite ?_ (.refl s)
    have carrier (u : State) (p : Prop) [Decidable p] (k : Nat) (l : LaneId) : Inner u (if p then u.doneCarrier k l else u) :=
      inner_ite (inner_doneCarrier u k l) (.refl u)
    exact inner_ite (((inner_putRow s _ _).trans (carrier _ _ _ _)).trans (inner_doneStandby _ _ _))
      ((inner_putRow s _ _).trans (carrier _ _ _ _))
  · exact .refl s

theorem inner_takeDrop (s : State) (sender : BitVec 4) (slot : Byte) (t : Term) (reason : Byte) :
    Inner s (s.takeDrop sender slot t reason) := by
  simp only [State.takeDrop]
  split
  · rename_i t c sb lc ph r _ _ _
    have kept : Inner s ((s.putRow slot.toNat (.carried t c (if r.removes then none else some sb) lc)).giverKept slot.toNat c
        true true) := (inner_putRow s _ _).trans (inner_giverKept _ _ _ _ _)
    refine inner_ite (kept.trans ?_) (.refl s)
    exact inner_ite (inner_ite ((inner_unnamed _ _ _ _).trans (inner_withdraw _ _)) (inner_dropStandby _ _ _)) (.refl _)
  · exact .refl s

/-- A frame that acts on rows, lanes and the queue alone: a CEDE, a BID or a swap frame. -/
def isCarriage : Frame → Bool
  | .cede .. | .bid .. | .swapOffer .. | .swapReady .. | .swapGo .. | .swapHold .. | .swapDone .. | .swapDrop .. => true
  | _ => false

theorem inner_actOn (s : State) (sender : BitVec 4) {f : Frame} (h : isCarriage f = true) : Inner s (s.actOn sender f) := by
  cases f with
  | cede => exact inner_takeCede s _ _ _ _ _ _
  | bid => exact inner_takeBid s _ _ _ _ _
  | swapOffer => exact inner_takeOffer s _ _ _
  | swapReady => exact inner_takeReady s _ _ _
  | swapGo => exact inner_takeGo s _ _ _ _
  | swapHold => exact inner_takeHold s _ _ _ _
  | swapDone => exact inner_takeDone s _ _ _ _
  | swapDrop => exact inner_takeDrop s _ _ _ _
  | _ => cases h

theorem base_actOn (s : State) (sender : BitVec 4) {f : Frame} (h : isCarriage f = true) :
    (s.actOn sender f).base = s.base := by
  cases f with
  | cede => exact base_takeCede s _ _ _ _ _ _
  | bid => exact base_takeBid s _ _ _ _ _
  | swapOffer => exact base_takeOffer s _ _ _
  | swapReady => exact base_takeReady s _ _ _
  | swapGo => exact base_takeGo s _ _ _ _
  | swapHold => exact base_takeHold s _ _ _ _
  | swapDone => exact base_takeDone s _ _ _ _
  | swapDrop => exact base_takeDrop s _ _ _ _
  | _ => cases h

/-- A sender that is an attendant or ALIEN changes nothing (R7). -/
theorem actOn_of_mayAct_none {s : State} {sender : BitVec 4} {f : Frame} (hx : s.mayAct sender = none)
    (h : isCarriage f = true ∨ isQuiet f = true) : s.actOn sender f = s := by
  cases f with
  | cede =>
    rw [State.actOn]
    unfold State.takeCede
    rw [hx]
  | bid => rw [State.actOn, State.takeBid, hx]
  | swapOffer => rw [State.actOn, State.takeOffer, hx]
  | swapReady => rw [State.actOn, State.takeReady, hx]
  | swapGo => rw [State.actOn, State.takeGo, hx]
  | swapHold =>
    rw [State.actOn, State.takeHold, hx]
    exact if_neg nofun
  | swapDone => rw [State.actOn, State.takeDone, hx]
  | swapDrop => rw [State.actOn, State.takeDrop, hx]
  | quiet => rw [State.actOn, State.takeQuiet, hx]
  | _ => rcases h with h | h <;> cases h

end Sys2Proof.Machine
end

section
/-! # A completed frame: the directory, the selector, and what a quiet settling leaves -/

namespace Sys2Proof.Machine

open Sys2Proof.Safety

/-! ### Senders -/

theorem senderStation_eq_some_iff (b : BitVec 4) (x : Station) : senderStation b = some x ↔ b = BitVec.ofNat 4 x.val := by
  constructor
  · intro h
    rw [senderStation] at h
    split at h
    · obtain rfl := Option.some.inj h
      exact BitVec.eq_of_toNat_eq (by simp)
    · cases h
  · rintro rfl
    exact senderStation_ofNat x

theorem stationOf_byteOf (x : Station) : stationOf (byteOf x.val) = some x := by
  have hval : (byteOf x.val).toNat = x.val := by
    rw [byteOf, BitVec.toNat_ofNat]
    omega
  rw [stationOf, dif_pos (by omega)]
  exact congrArg some (Fin.ext hval)

theorem laneOf_byteOf (l : LaneId) : laneOf (byteOf l.val) = some l := by
  have hval : (byteOf l.val).toNat = l.val := by
    rw [byteOf, BitVec.toNat_ofNat]
    omega
  rw [laneOf, dif_pos (by omega)]
  exact congrArg some (Fin.ext hval)

theorem mayAct_none_iff (s : State) (sender : BitVec 4) :
    s.mayAct sender = none ↔ ∀ x, senderStation sender = some x → (s.peer x).state = .alien := by
  rw [State.mayAct]
  cases hx : senderStation sender with
  | none => simp
  | some x => simp

/-! ### The directory -/

theorem directoryTake_eq (s : State) (sender : BitVec 4) (f : Frame) :
    s.directoryTake sender f
      = { s with dir := (s.directoryTake sender f).dir, joinQuiet := (s.directoryTake sender f).joinQuiet } := by
  simp only [State.directoryTake]
  repeat' split
  all_goals rfl

theorem directoryTake_own {s : State} {sender : BitVec 4} (h : sender = s.sender) (f : Frame) : s.directoryTake sender f = s := by
  have hx : senderStation sender = some s.number := by
    rw [h]
    exact senderStation_ofNat s.number
  rw [State.directoryTake, hx]
  exact if_pos rfl

theorem peer_directoryTake {s : State} {x : Station} (hx : x ≠ s.number) (f : Frame) :
    (s.directoryTake (BitVec.ofNat 4 x.val) f).peer x = (s.peer x).take s.digest f := by
  simp only [State.directoryTake, senderStation_ofNat, if_neg hx]
  split
  · exact State.peer_setPeer_self s x _
  · exact State.peer_setPeer_self s x _

theorem peer_directoryTake_ne (s : State) {sender : BitVec 4} {y : Station} (h : sender ≠ BitVec.ofNat 4 y.val) (f : Frame) :
    (s.directoryTake sender f).peer y = s.peer y := by
  simp only [State.directoryTake]
  split
  · rfl
  · rename_i x hx
    have hyx : y ≠ x := fun e => h (e ▸ (senderStation_eq_some_iff _ _).1 hx)
    split
    · rfl
    · split
      · exact State.peer_setPeer_ne s _ hyx
      · exact State.peer_setPeer_ne s _ hyx

/-- A sender's record after a frame that is no ROLL (R173). -/
theorem take_of_not_roll (r : PeerRec) (d : Word16) {f : Frame} (h : ∀ b, f ≠ .roll b) : r.take d f = heardFrom r := by
  have hrest : (match r.state with
      | .alien => r
      | _ => { r with state := .present, staleTimer := some 750, staleMark := false }) = heardFrom r := by
    rw [heardFrom]
    cases r.state <;> rfl
  cases f with
  | roll b => exact absurd rfl (h b)
  | _ => exact hrest

theorem take_roll (r : PeerRec) (d : Word16) (b : RollBody) : r.take d (.roll b) = rollHeard d b := by
  rw [PeerRec.take, rollHeard]
  split <;> rfl

/-! ### The frame completes -/

/-- The station as a frame of station `x` that reaches its table finds it: the link alone is not as before. -/
structure Met (s : State) (x : Station) (v : State) : Prop where
  only : LinkOnly s v
  held : ∀ p, v.link.heldFrame p = true → s.link.heldFrame p = true
  queue : x ≠ s.number → v.link.queue = s.link.queue

theorem heldFrame_fallDue (L : Link) (p : Frame → Bool) : L.fallDue.heldFrame p = true → L.heldFrame p = true := by
  rw [heldFrame_iff, heldFrame_iff]
  rintro (h | ⟨q, hq, hp⟩ | ⟨q, hq, hp⟩)
  · exact .inl h
  · exact .inr (.inl ⟨q, (List.mem_filter.1 hq).1, hp⟩)
  · exact .inr (.inl ⟨q, (List.mem_filter.1 hq).1, hp⟩)

/-- A request that joins brings no frame to the link. -/
theorem heldFrame_of_join {L : Link} {q : QFrame} (hq : ∀ p, q.meets p = false) (p : Frame → Bool)
    (h : (L.join q).heldFrame p = true) : L.heldFrame p = true := by
  have hout : ∀ r, (arrive q L.queue).2 = some r → r = q ∨ ∃ e ∈ L.queue, e.frame = r := by
    intro r hr
    rw [arrive] at hr
    split at hr
    · cases hr
    · split at hr
      · exact .inl (Option.some.inj hr).symm
      · rename_i rest victim hv
        split at hr
        · exact .inr ⟨victim, (takeNewestIdle_perm _ hv).2.1.symm.subset List.mem_cons_self, Option.some.inj hr⟩
        · exact .inl (Option.some.inj hr).symm
  have hdue : (L.join q).due = L.due := by
    rw [Link.join, Link.discard.eq_def]
    repeat' split
    all_goals rfl
  rw [heldFrame_iff] at h ⊢
  rcases h with ⟨e, he, hp⟩ | ⟨r, hr, hp⟩ | ⟨r, hr, hp⟩
  · rw [Link.join_queue] at he
    rcases of_mem_arrive he with he | rfl
    · exact .inl ⟨e, he, hp⟩
    · rw [hq] at hp
      cases hp
  · have howed : r ∈ L.owed ∨ (arrive q L.queue).2 = some r := by
      rw [Link.join, Link.discard.eq_def] at hr
      split at hr
      · exact .inl hr
      · split at hr
        · rcases List.mem_append.1 hr with hr | hr
          · exact .inl hr
          · rw [List.mem_singleton.1 hr]
            exact .inr ‹_›
        · exact .inl hr
    rcases howed with hr | hr
    · exact .inr (.inl ⟨r, hr, hp⟩)
    · rcases hout r hr with rfl | ⟨e, he, rfl⟩
      · rw [hq] at hp
        cases hp
      · exact .inl ⟨e, he, hp⟩
  · exact .inr (.inr ⟨r, hdue ▸ hr, hp⟩)

theorem heldFrame_leaveLine (L : Link) (p : Frame → Bool) (h : L.leaveLine.heldFrame p = true) : L.heldFrame p = true := by
  have left (n m : Bool) (h : Link.heldFrame { L with
      queue := L.queue.filter (fun e => !e.onLine), onAir := none, notedRoll := n, notedReport := m } p = true) :
      L.heldFrame p = true := by
    rw [heldFrame_iff] at h ⊢
    rcases h with ⟨e, he, hp⟩ | h
    · exact .inl ⟨e, (List.mem_filter.1 he).1, hp⟩
    · exact .inr h
  rw [Link.leaveLine] at h
  dsimp only at h
  split at h
  · exact left _ _ (heldFrame_of_join (fun _ => rfl) p h)
  · split at h
    · exact left _ _ (heldFrame_of_join (fun _ => rfl) p h)
    · exact left _ _ h

theorem met_heard (s : State) (x : Station) : Met s x s.heard :=
  ⟨rfl, fun p h => heldFrame_fallDue s.markSeen.link p h, fun _ => rfl⟩

theorem met_ownDone (s : State) (seen : Bool) : Met s s.number (s.ownDone seen) :=
  ⟨rfl, fun p h => heldFrame_leaveLine s.link p (heldFrame_fallDue { s.link.leaveLine with
    spoil := 0, unseen := if seen then 0 else s.link.unseen } p h), fun h => absurd rfl h⟩

theorem completeFrame_of_hears {s : State} {rx : Rx} (h : Hears s rx) (f : Frame) :
    s.completeFrame rx f = ((s.heard.actOn rx.sender f).directoryTake rx.sender f).settle true := by
  obtain ⟨hmode, hforeign, hfresh⟩ := h
  rw [State.completeFrame, if_neg hforeign, if_pos (by simp [onLink_of_appliesFrames hmode, hfresh]),
    foreignCompleted_eq s _ f (ne_isolated_of_appliesFrames hmode)]

theorem hears_of_applies {s : State} {rx : Rx} {f : Frame} {x : Station} (h : Applies s rx f x) (hx : x ≠ s.number) :
    Hears s rx := by
  obtain ⟨hmode, -, hsender, ⟨-, hfresh⟩ | ⟨hself, -⟩⟩ := h
  · exact ⟨hmode, by rwa [hsender, ne_eq, ofNat_eq_sender_iff], hfresh⟩
  · exact absurd hself hx

theorem number_actOn (s : State) (sender : BitVec 4) (f : Frame) : (s.actOn sender f).number = s.number :=
  (keeps_actOn s sender f).number

/-- A frame that reaches the table acts on the station as it finds it, the directory takes it, the blocks settle. -/
theorem completeFrame_of_applies' {s : State} {rx : Rx} {f : Frame} {x : Station} (h : Applies s rx f x)
    (hf : ∀ b, f ≠ .roll b) :
    ∃ v, Met s x v ∧ s.completeFrame rx f
      = ((v.actOn (BitVec.ofNat 4 x.val) f).directoryTake (BitVec.ofNat 4 x.val) f).settle true := by
  by_cases hx : x = s.number
  · subst hx
    obtain ⟨hmode, -, hsender, ⟨hne, -⟩ | ⟨-, hair, hdone⟩⟩ := h
    · exact absurd rfl hne
    · refine ⟨s.ownDone rx.seen, met_ownDone s rx.seen, ?_⟩
      have hcompletes : (rx.seen || !s.presentPeer) = true := by simpa using hdone
      have hact : (s.ownDone rx.seen).applyOwn f = (s.ownDone rx.seen).actOn (BitVec.ofNat 4 s.number.val) f := by
        cases f with
        | roll b => exact absurd rfl (hf b)
        | _ => exact if_pos hmode
      have hown : rx.sender = s.sender := hsender
      rw [State.completeFrame, if_pos hown, if_pos hair, State.ownCompleted, if_pos hcompletes, ownApplied_eq, hact,
        directoryTake_own]
      rw [State.sender, number_actOn]
      rfl
  · refine ⟨s.heard, met_heard s x, ?_⟩
    rw [completeFrame_of_hears (hears_of_applies h hx), h.2.2.1]

end Sys2Proof.Machine
end

section
/-! # Completed frames: what they leave of the directory and of the blocks beside the table -/

namespace Sys2Proof.Machine

open Sys2Proof.Safety

theorem ofNat_station_ne {x y : Station} (h : x ≠ y) : BitVec.ofNat 4 x.val ≠ BitVec.ofNat 4 y.val := fun e =>
  h (Option.some.inj ((senderStation_ofNat x).symm.trans (e ▸ senderStation_ofNat y)))

theorem Met.peer {s v : State} {x : Station} (h : Met s x v) (y : Station) : v.peer y = s.peer y := h.only.inner.peer y

theorem met_mayAct {s v : State} {rx : Rx} {f : Frame} {x : Station} (h : Applies s rx f x) (hv : Met s x v) :
    v.mayAct (BitVec.ofNat 4 x.val) = some x :=
  mayAct_ofNat v x (by rw [hv.peer]; exact h.2.1)

/-! ### Past the directory and the settling -/

theorem row_taken (u : State) (sender : BitVec 4) (f : Frame) (k : Nat) :
    ((u.directoryTake sender f).settle true).row k = u.row k :=
  (row_settle _ true k).trans (State.row_congr (table_directoryTake u sender f) k)

theorem peer_taken (u : State) (sender : BitVec 4) (f : Frame) (y : Station) :
    ((u.directoryTake sender f).settle true).peer y = (u.directoryTake sender f).peer y :=
  peer_of_skeleton (skeleton_settle _ true) y

theorem sel_taken (u : State) (sender : BitVec 4) (f : Frame) : ((u.directoryTake sender f).settle true).sel = u.sel := by
  rw [sel_of_skeleton (skeleton_settle _ true), directoryTake_eq]

/-- The directory and a timer aside, nothing of a station's base changes past the directory and the settling. -/
theorem base_taken (u : State) (sender : BitVec 4) (f : Frame) :
    ((u.directoryTake sender f).settle true).base = { u.base with dir := (u.directoryTake sender f).dir } := by
  rw [base_of_skeleton (skeleton_settle _ true), directoryTake_eq]
  rfl

theorem base_heard (s : State) : s.heard.base = { s.base with link := { s.link.wires with ack := .seen, badRx := 0 } } := rfl

/-! ### QUIET -/

/-- A QUIET about another station removes its subject, or is stale (R176). -/
theorem takeQuiet_other {s : State} {sender : BitVec 4} {x y : Station} {subject : Byte} (hx : s.mayAct sender = some x)
    (hy : stationOf subject = some y) (hne : y ≠ s.number) (roll : Byte) :
    s.takeQuiet sender subject roll
      = if (s.peer y).state = .present ∧ (s.peer y).lastRoll = some roll then
          (s.setPeer y (s.peer y).silence).removeStation y
        else s := by
  rw [State.takeQuiet, hx, hy]
  exact if_neg hne

/-- Settles O24. -/
theorem quietRemovesItsSubject : Obligations.QuietRemovesItsSubject := by
  intro s rx subject roll x y h hsubject hy
  obtain ⟨v, hv, hdone⟩ := completeFrame_of_applies' h (by simp)
  have hact := takeQuiet_other (met_mayAct h hv) hsubject (hv.only.inner.number ▸ hy) roll
  rw [hv.peer] at hact
  refine ⟨_, rfl, fun hpresent => ?_, fun hstale => ?_⟩
  all_goals rw [hdone, State.actOn, hact]
  · rw [if_pos hpresent]
    have hdir : ((v.setPeer y (s.peer y).silence).removeStation y).peer y = (s.peer y).silence := by
      rw [State.peer, dir_of_base (base_removeStation _ y)]
      exact State.peer_setPeer_self v y _
    refine ⟨fun k => ?_, fun hxy => ?_⟩
    · rw [row_taken, row_removeStation, ← hv.only.row k]
      rfl
    · rw [peer_taken, peer_directoryTake_ne _ (ofNat_station_ne hxy), hdir]
      rfl
  · rw [if_neg hstale]
    refine ⟨fun k => ?_, fun hxy => ?_⟩
    · rw [row_taken, hv.only.row]
    · rw [peer_taken, peer_directoryTake_ne _ (ofNat_station_ne hxy), hv.peer]

/-! ### Attendants and ALIEN stations -/

theorem mayAct_heard (s : State) (sender : BitVec 4) : s.heard.mayAct sender = s.mayAct sender := rfl

theorem sameRows_of_mayAct_none {s : State} {rx : Rx} {f : Frame} (h : Hears s rx) (hx : s.mayAct rx.sender = none)
    (hf : isCarriage f = true ∨ isQuiet f = true) : SameRows s (s.completeFrame rx f) := by
  intro k
  rw [completeFrame_of_hears h, row_taken, actOn_of_mayAct_none (s := s.heard) hx hf]
  rfl

/-- Settles O36. -/
theorem attendantsAndAliensChangeNoRow : Obligations.AttendantsAndAliensChangeNoRow := by
  intro s rx h hsender slot lane a b t r c hc
  have hx : s.mayAct rx.sender = none := by
    rw [mayAct_none_iff]
    intro x hx
    rcases hsender with hnone | ⟨y, hy, halien⟩
    · rw [hnone] at hx
      cases hx
    · rw [hy] at hx
      obtain rfl := Option.some.inj hx
      exact halien
  simp only [List.mem_cons, List.not_mem_nil, or_false] at hc
  rcases hc with rfl | hc
  · exact ⟨_, rfl, sameRows_of_mayAct_none h hx (.inr rfl)⟩
  · rcases hc with rfl | rfl | rfl | rfl | rfl | rfl | rfl | rfl | rfl | rfl
    all_goals exact ⟨_, rfl, sameRows_of_mayAct_none h hx (.inl rfl)⟩

/-! ### What the carriage frames leave alone -/

/-- What a foreign carriage frame of station `x` leaves of the blocks beside the table, and what it makes of the directory. -/
structure CarriageLeaves (s u : State) (x : Station) : Prop where
  blocks : u.plan = s.plan ∧ u.sel = s.sel ∧ u.bp = s.bp ∧ u.loader = s.loader
  causes : u.number = s.number ∧ u.barredCause = s.barredCause ∧ u.resetCause = s.resetCause
    ∧ u.clashBarred = s.clashBarred ∧ u.echoPointer = s.echoPointer ∧ u.muteRest = s.muteRest
  streaks : u.link.lastRoll = s.link.lastRoll ∧ u.link.spoil = s.link.spoil ∧ u.link.unseen = s.link.unseen
    ∧ u.link.onAir = s.link.onAir ∧ u.link.ack = .seen ∧ u.link.badRx = 0 ∧ u.pending = s.pending
  sender : u.peer x = heardFrom (s.peer x)
  others : ∀ y, y ≠ x → u.peer y = s.peer y

theorem carriageLeaves_completeFrame {s : State} {rx : Rx} {x : Station} (h : Hears s rx) (hx : x ≠ s.number)
    (hsender : rx.sender = BitVec.ofNat 4 x.val) {f : Frame} (hf : isCarriage f = true) :
    CarriageLeaves s (s.completeFrame rx f) x := by
  have hroll (b : RollBody) : f ≠ .roll b := by
    rintro rfl
    cases hf
  have hbase := (base_taken (s.heard.actOn rx.sender f) rx.sender f).trans
    (congrArg (fun b : State => { b with dir := ((s.heard.actOn rx.sender f).directoryTake rx.sender f).dir })
      ((base_actOn s.heard rx.sender hf).trans (base_heard s)))
  have hpeer (y : Station) : (s.heard.actOn rx.sender f).peer y = s.peer y := (inner_actOn s.heard rx.sender hf).peer y
  rw [completeFrame_of_hears h]
  refine ⟨⟨?_, ?_, ?_, ?_⟩, ⟨?_, ?_, ?_, ?_, ?_, ?_⟩, ⟨?_, ?_, ?_, ?_, ?_, ?_, ?_⟩, ?_, fun y hy => ?_⟩
  · exact (congrArg State.plan hbase :)
  · exact (congrArg State.sel hbase :)
  · exact (congrArg State.bp hbase :)
  · exact (congrArg State.loader hbase :)
  · exact (congrArg State.number hbase :)
  · exact (congrArg State.barredCause hbase :)
  · exact (congrArg State.resetCause hbase :)
  · exact (congrArg State.clashBarred hbase :)
  · exact (congrArg State.echoPointer hbase :)
  · exact (congrArg State.muteRest hbase :)
  · exact (congrArg (fun b : State => b.link.lastRoll) hbase :)
  · exact (congrArg (fun b : State => b.link.spoil) hbase :)
  · exact (congrArg (fun b : State => b.link.unseen) hbase :)
  · exact (congrArg (fun b : State => b.link.onAir) hbase :)
  · exact (congrArg (fun b : State => b.link.ack) hbase :)
  · exact (congrArg (fun b : State => b.link.badRx) hbase :)
  · exact (congrArg State.pending hbase :)
  · rw [peer_taken, hsender, peer_directoryTake (by rwa [number_actOn]), ← hsender, hpeer, take_of_not_roll _ _ hroll]
  · rw [peer_taken, peer_directoryTake_ne _ (by rw [hsender]; exact ofNat_station_ne (Ne.symm hy)), hpeer]

/-- A frame that ends ISOLATED sets its sender's record, and nothing else of it acts (R170). -/
theorem completeFrame_of_isolated {s : State} {rx : Rx} (hmode : s.mode = .isolated) (hfresh : rx.fresh = true)
    (hforeign : rx.sender ≠ s.sender) (f : Frame) :
    s.completeFrame rx f = (s.markSeen.directoryTake rx.sender f).enterJoining (some .isolationEnd) := by
  have hon : (s.mode.onLink && rx.fresh) = true := by rw [hmode, hfresh]; rfl
  rw [State.completeFrame, if_neg hforeign, if_pos hon, State.foreignCompleted]
  exact if_pos hmode

theorem joiningAfter_of_link {s d t : State} {cause : ResetCause} (h : JoiningAfter d t cause) (hplan : d.plan = s.plan)
    (hroll : d.link.lastRoll = s.link.lastRoll) (hecho : d.echoPointer = s.echoPointer) : JoiningAfter s t cause := by
  obtain ⟨h1, h2, h3, h4, h5, h6, h7, h8, h9, h10, h11, h12, h13, h14, h15, h16⟩ := h
  exact ⟨h1, h2, h3, h4, h5, h6, h7, h8, h9, h10, h11, h12, h13, h14.trans hplan, h15.trans hroll, h16.trans hecho⟩

theorem peer_enterJoining (s : State) (cause : Option ResetCause) (x : Station) :
    (s.enterJoining cause).peer x = (s.peer x).restart := by
  show (s.dir.map PeerRec.restart)[x] = _
  simp [State.peer]

theorem ack_enterJoining (s : State) (cause : Option ResetCause) : (s.enterJoining cause).link.ack = s.link.ack :=
  (congrArg Link.ack (wires_requestRoll { s.link.clear with spoil := 0, unseen := 0, badRx := 0 }) :)

theorem restart_heardFrom (r : PeerRec) : (heardFrom r).restart = { heardFrom r with staleMark := false } := by
  simp only [heardFrom]
  split
  · rename_i h
    simp [PeerRec.restart, h]
  · rfl

theorem endsIsolated {s : State} {rx : Rx} (hmode : s.mode = .isolated) (hfresh : rx.fresh = true)
    (hforeign : rx.sender ≠ s.sender) {f : Frame} (hf : ∀ b, f ≠ .roll b) {u : State} (hu : u = s.completeFrame rx f) :
    JoiningAfter s u .isolationEnd ∧ u.sel = s.sel ∧ u.link.ack = .seen
      ∧ ∀ x, x ≠ s.number → rx.sender = BitVec.ofNat 4 x.val → u.peer x = { heardFrom (s.peer x) with staleMark := false } := by
  rw [hu, completeFrame_of_isolated hmode hfresh hforeign f]
  have hd := directoryTake_eq s.markSeen rx.sender f
  refine ⟨joiningAfter_of_link (joiningAfter_enterJoining _ _) ?_ ?_ ?_, ?_, ?_, fun x hx hsender => ?_⟩
  · exact (congrArg State.plan hd :)
  · exact (congrArg (fun u : State => u.link.lastRoll) hd :)
  · exact (congrArg State.echoPointer hd :)
  · exact (congrArg State.sel hd :)
  · exact (ack_enterJoining _ _).trans (congrArg (fun u : State => u.link.ack) hd :)
  · rw [peer_enterJoining, hsender, peer_directoryTake (s := s.markSeen) hx, take_of_not_roll _ _ hf]
    exact restart_heardFrom _

/-- Settles O37. -/
theorem carriageFramesLeaveTheOtherBlocks : Obligations.CarriageFramesLeaveTheOtherBlocks := by
  refine ⟨fun s rx x hx hsender h slot lane a t r c hc => ?_, fun s rx hmode hfresh hforeign slot lane a b t r body c hc => ?_⟩
  · have leaves {f : Frame} (hf : isCarriage f = true) := carriageLeaves_completeFrame h hx hsender hf
    have left {f : Frame} (hf : isCarriage f = true) {o : Host.Outcome State Fault Refusal}
        (ho : o = .next (s.completeFrame rx f)) :
        ∃ u, o = .next u ∧ u.plan = s.plan ∧ u.sel = s.sel ∧ u.bp = s.bp ∧ u.loader = s.loader
          ∧ u.number = s.number ∧ u.barredCause = s.barredCause ∧ u.resetCause = s.resetCause
          ∧ u.clashBarred = s.clashBarred ∧ u.echoPointer = s.echoPointer ∧ u.muteRest = s.muteRest
          ∧ u.link.lastRoll = s.link.lastRoll ∧ u.link.spoil = s.link.spoil ∧ u.link.unseen = s.link.unseen
          ∧ u.link.onAir = s.link.onAir ∧ u.link.ack = .seen ∧ u.link.badRx = 0 ∧ u.pending = s.pending
          ∧ u.peer x = heardFrom (s.peer x) ∧ ∀ y, y ≠ x → u.peer y = s.peer y := by
      obtain ⟨⟨h1, h2, h3, h4⟩, ⟨h5, h6, h7, h8, h9, h10⟩, ⟨h11, h12, h13, h14, h15, h16, h17⟩, hx, hy⟩ := leaves hf
      exact ⟨_, ho, h1, h2, h3, h4, h5, h6, h7, h8, h9, h10, h11, h12, h13, h14, h15, h16, h17, hx, hy⟩
    simp only [List.mem_cons, List.not_mem_nil, or_false] at hc
    rcases hc with rfl | rfl | rfl | rfl | rfl | rfl | rfl | rfl | rfl | rfl
    all_goals exact left rfl rfl
  · have ends {f : Frame} (hf : ∀ b, f ≠ .roll b) {o : Host.Outcome State Fault Refusal}
        (ho : o = .next (s.completeFrame rx f)) := (⟨_, ho, endsIsolated hmode hfresh hforeign hf rfl⟩ :
        ∃ u, o = .next u ∧ JoiningAfter s u .isolationEnd ∧ u.sel = s.sel ∧ u.link.ack = .seen
          ∧ ∀ x, x ≠ s.number → rx.sender = BitVec.ofNat 4 x.val →
            u.peer x = { heardFrom (s.peer x) with staleMark := false })
    simp only [List.mem_cons, List.not_mem_nil, or_false] at hc
    rcases hc with rfl | rfl | rfl | rfl | rfl | rfl | rfl | rfl | rfl | rfl | rfl | rfl | rfl | rfl | rfl | rfl | rfl | rfl
    all_goals exact ends (by simp) rfl

/-! ### Directives -/

/-- A directive's outcome is stored; the rest of the selector stays (R197). -/
theorem sel_takeDirective {s : State} {target : Byte} (htarget : target.toNat = s.number.val) (action argument : Byte) :
    (s.takeDirective target action argument).sel = { s.sel with outcome := (s.judge action argument).2 } := by
  rw [State.takeDirective, if_pos htarget]
  show { (s.judge action argument).1.sel with outcome := (s.judge action argument).2 } = _
  rw [sel_of_skeleton (skeleton_judge s action argument)]

/-- What a completed directive to this station does: its effect, and the outcome it stores. -/
theorem directive_completes {s : State} {rx : Rx} {target : Byte} (h : Hears s rx) (htarget : target.toNat = s.number.val)
    (action argument : Byte) :
    s.completeFrame rx (.directive target action argument)
        = (((s.heard.takeDirective target action argument).directoryTake rx.sender (.directive target action argument)).settle
            true)
      ∧ SameRows s (s.completeFrame rx (.directive target action argument))
      ∧ (s.completeFrame rx (.directive target action argument)).sel
          = { s.sel with outcome := (s.heard.judge action argument).2 } := by
  have hdone := completeFrame_of_hears h (.directive target action argument)
  refine ⟨hdone, fun k => ?_, ?_⟩
  · rw [hdone, row_taken]
    exact row_takeDirective s.heard target action argument k
  · rw [hdone, sel_taken]
    exact sel_takeDirective (s := s.heard) htarget action argument

section
variable (s : State) (argument : Byte)

theorem judge_unknown {action : Byte} (h : 5 ≤ action.toNat) : (s.judge action argument).2 = .unknownAction := by
  have hne (n : Byte) (hn : n.toNat < 5) : action ≠ n := fun e => by rw [e] at h; omega
  rw [State.judge, if_neg (hne _ (by decide)), if_neg (hne _ (by decide)), if_neg (hne _ (by decide)),
    if_neg (hne _ (by decide)), if_neg (hne _ (by decide))]

theorem judge_clear : s.judge 0#8 argument
    = if s.mode = .joined ∨ s.mode = .resting then s.directClear argument else (s, .refusedState) := rfl
theorem judge_yield : s.judge 1#8 argument = if s.mode = .joined then s.directYield argument else (s, .refusedState) := rfl
theorem judge_swap : s.judge 2#8 argument = if s.mode = .joined then s.directSwap argument else (s, .refusedState) := rfl
theorem judge_rest : s.judge 3#8 argument = if s.mode = .joined then s.directRest else (s, .refusedState) := rfl
theorem judge_resume : s.judge 4#8 argument = if s.mode = .resting then s.directResume else (s, .refusedState) := rfl

end

/-- Settles O43. -/
theorem directivesAreJudged : Obligations.DirectivesAreJudged := by
  intro s rx target action argument h htarget
  have refused {o : Host.Outcome State Fault Refusal} {a : Byte} {out : DirOutcome}
      (ho : o = .next (s.completeFrame rx (.directive target a argument))) (hj : (s.heard.judge a argument).2 = out) :
      ∃ t, o = .next t ∧ SameRows s t ∧ t.sel = { s.sel with outcome := out } := by
    obtain ⟨-, hrows, hsel⟩ := directive_completes h htarget a argument
    exact ⟨_, ho, hrows, by rw [hsel, hj]⟩
  refine ⟨fun ha => refused rfl (judge_unknown _ _ ha), fun c hc => ?_⟩
  by_cases hjoining : s.mode = .joining
  · have hm (m : Mode) (hne : m ≠ .joining) : ¬s.heard.mode = m := fun e => hne (e.symm.trans hjoining)
    rw [if_pos hjoining] at hc
    simp only [List.mem_cons, List.not_mem_nil, or_false] at hc
    rcases hc with rfl | rfl | rfl | rfl | rfl
    · exact refused rfl (by rw [judge_clear, if_neg (by simp [hm])])
    · exact refused rfl (by rw [judge_yield, if_neg (hm _ (by decide))])
    · exact refused rfl (by rw [judge_swap, if_neg (hm _ (by decide))])
    · exact refused rfl (by rw [judge_rest, if_neg (hm _ (by decide))])
    · exact refused rfl (by rw [judge_resume, if_neg (hm _ (by decide))])
  · rw [if_neg hjoining] at hc
    by_cases hresting : s.mode = .resting
    · have hm : ¬s.heard.mode = .joined := fun e => by
        have : Mode.resting = .joined := hresting.symm.trans e
        cases this
      rw [if_pos hresting] at hc
      simp only [List.mem_cons, List.not_mem_nil, or_false] at hc
      rcases hc with rfl | rfl | rfl
      · exact refused rfl (by rw [judge_yield, if_neg hm])
      · exact refused rfl (by rw [judge_swap, if_neg hm])
      · exact refused rfl (by rw [judge_rest, if_neg hm])
    · have hm : ¬s.heard.mode = .resting := hresting
      rw [if_neg hresting] at hc
      simp only [List.mem_cons, List.not_mem_nil, or_false] at hc
      subst hc
      exact refused rfl (by rw [judge_resume, if_neg hm])

end Sys2Proof.Machine
end

section
/-! # ROLL: echoes, the sender's record, the station's own ROLL -/

namespace Sys2Proof.Machine

open Sys2Proof.Safety

/-! ### Echoes -/

theorem pairNamedElsewhere_iff (s : State) (k : Nat) (p : Pair) :
    s.pairNamedElsewhere k p = true ↔ ∃ j, j ≠ k ∧ (s.row j).names p = true := by
  constructor
  · intro h
    obtain ⟨j, -, hj⟩ := List.any_eq_true.1 h
    rw [Bool.and_eq_true, bne_iff_ne] at hj
    exact ⟨j, hj⟩
  · rintro ⟨j, hj, hnames⟩
    by_contra hfalse
    rw [pairNamedElsewhere_eq_false (Bool.eq_false_iff.2 hfalse) hj] at hnames
    cases hnames

theorem namesLostPeer_iff (s : State) (old new : Row) :
    s.namesLostPeer old new = true ↔ ∃ y, y ≠ s.number ∧ (s.peer y).state ≠ .present ∧ old.namesStation y = true
      ∧ new.namesStation y = false := by
  rw [State.namesLostPeer, List.any_eq_true]
  have hall (y : Station) : y ∈ allStations := by revert y; decide
  simp only [Bool.and_eq_true, bne_iff_ne, Bool.not_eq_true', and_assoc]
  exact ⟨fun ⟨y, _, h⟩ => ⟨y, h⟩, fun ⟨y, h⟩ => ⟨y, hall y, h⟩⟩

/-- A row that names one station twice. -/
def Row.namesTwice (r : Row) : Bool := r.carrier.any fun c => r.standby.any fun sb => sb.station == c.station

theorem not_namesTwice_of_rowOk {r : Row} (h : rowOk r) : r.namesTwice = false := by
  cases r with
  | unknown => rfl
  | opened => rfl
  | carried t c sb lc =>
    cases sb with
    | none => rfl
    | some p => simpa [Row.namesTwice, Row.carrier, Row.standby] using h p rfl
  | swapping t c sb lc ph => simpa [Row.namesTwice, Row.carrier, Row.standby, rowOk] using h

theorem Row.names_iff (r : Row) (p : Pair) : r.names p = true ↔ r.carrier = some p ∨ r.standby = some p := by
  rw [Row.names, Bool.or_eq_true, beq_iff_eq, beq_iff_eq]

/-- Adoption would break the rule of R2 exactly where the echo fails the last three tests (R24). -/
theorem echoConflicts_iff {s : State} {dc : Nat} {e : RowRecord} {new : Row} (hnew : echoRow dc e = some new) (k : Nat) :
    echoConflicts s.row k new
      ↔ new.namesTwice = true ∨ (∃ p, new.carrier = some p ∧ s.pairNamedElsewhere k p = true)
        ∨ ∃ p, new.standby = some p ∧ s.pairNamedElsewhere k p = true := by
  have hok : ¬rowOk new ↔ new.namesTwice = true := by
    constructor
    · intro h
      by_contra htwice
      exact h (rowOk_echoRow hnew (Bool.eq_false_iff.2 htwice))
    · intro htwice h
      rw [not_namesTwice_of_rowOk h] at htwice
      cases htwice
  rw [echoConflicts, hok]
  refine or_congr_right ?_
  simp only [pairNamedElsewhere_iff, Row.names_iff]
  constructor
  · rintro ⟨j, p, hj, hp | hp, hnames⟩
    · exact .inl ⟨p, hp, j, hj, hnames⟩
    · exact .inr ⟨p, hp, j, hj, hnames⟩
  · rintro (⟨p, hp, j, hj, hnames⟩ | ⟨p, hp, j, hj, hnames⟩)
    · exact ⟨j, p, hj, .inl hp, hnames⟩
    · exact ⟨j, p, hj, .inr hp, hnames⟩

/-- The term test of an echo's adoption (R22, R23). -/
def State.echoHigher (s : State) (old new : Row) : Bool :=
  match old.term, new.term with
  | none, _ => true
  | some t, some t' => t.toNat < t'.toNat || (t == t' && s.namesLostPeer old new)
  | some _, none => false

theorem adopts_eq (s : State) (k : Nat) (new : Row) :
    s.adopts k new = (s.echoHigher (s.row k) new && !new.carrier.any (fun q => s.pairNamedElsewhere k q)
      && !new.standby.any (fun q => s.pairNamedElsewhere k q) && !new.namesTwice) := rfl

theorem echoHigher_iff (s : State) (old new : Row) : s.echoHigher old new = true ↔ echoNewer s old new := by
  rw [echoNewer]
  cases old with
  | unknown => simp [State.echoHigher, Row.term]
  | _ =>
    simp only [State.echoHigher, Row.term]
    split
    · rename_i h
      cases h
    · rename_i t t' ht ht'
      obtain rfl := Option.some.inj ht
      simp only [ht', Bool.or_eq_true, Bool.and_eq_true, decide_eq_true_eq, beq_iff_eq, namesLostPeer_iff]
      simp
    · rename_i h
      simp [h]

theorem adopts_iff {s : State} {dc : Nat} {e : RowRecord} {new : Row} (hnew : echoRow dc e = some new) (k : Nat) :
    s.adopts k new = true ↔ echoNewer s (s.row k) new ∧ ¬echoConflicts s.row k new := by
  rw [adopts_eq, echoConflicts_iff hnew, ← echoHigher_iff]
  simp only [Bool.and_eq_true, Bool.not_eq_true', Option.any_eq_false, not_or, not_exists, not_and, Bool.not_eq_true,
    and_assoc]
  exact and_congr_right fun _ => ⟨fun ⟨h1, h2, h3⟩ => ⟨h3, h1, h2⟩, fun ⟨h3, h1, h2⟩ => ⟨h1, h2, h3⟩⟩

theorem takeEcho_of_not {s : State} {e : RowRecord} (h : s.slotCount ≤ e.slot.toNat ∨ echoRow s.drainCount e = none) :
    s.takeEcho e = s := by
  simp only [State.takeEcho]
  split
  · rfl
  · rename_i new hnew
    rw [hnew] at h
    rcases h with h | h
    · exact if_neg fun hk => absurd hk.1 (by omega)
    · cases h

theorem takeEcho_of_row {s : State} {e : RowRecord} {new : Row} (hk : e.slot.toNat < s.slotCount)
    (hnew : echoRow s.drainCount e = some new) :
    s.takeEcho e = if s.adopts e.slot.toNat new = true then s.adoptRow e.slot.toNat new else s := by
  simp only [State.takeEcho, hnew, hk, true_and]

theorem row_takeEcho_ne (s : State) {e : RowRecord} {j : Nat} (hj : j ≠ e.slot.toNat) : (s.takeEcho e).row j = s.row j := by
  simp only [State.takeEcho]
  split
  · rfl
  · split
    · exact row_adoptRow_ne s _ hj
    · rfl

/-- One echo makes of the rows what the manual says (R21 to R24). -/
theorem echoTaken_takeEcho {s : State} (hlength : s.table.length = s.slotCount) (e : RowRecord) :
    echoTaken s e s.row (s.takeEcho e).row := by
  refine ⟨fun j hj => row_takeEcho_ne s hj, fun hk new hnew => ⟨fun hadopts => ?_, fun hignores => ?_⟩, fun hnot => ?_⟩
  · rw [takeEcho_of_row hk hnew, if_pos ((adopts_iff hnew _).2 hadopts)]
    exact row_adoptRow s new (by rwa [hlength])
  · rw [takeEcho_of_row hk hnew, if_neg]
    rw [adopts_iff hnew]
    rintro ⟨hnewer, hfree⟩
    exact hignores.elim (fun h => h hnewer) hfree
  · rw [takeEcho_of_not hnot]

/-- What an echo makes of the rows is judged by the station's number, directory and plan alone. -/
theorem echoTaken_of_base {s t : State} (h : t.base = s.base) {e : RowRecord} {rows rows' : Nat → Row}
    (ht : echoTaken t e rows rows') : echoTaken s e rows rows' := by
  have hnewer (old new : Row) : echoNewer t old new = echoNewer s old new := by
    simp only [echoNewer, State.peer, number_of_base h, dir_of_base h]
  have hcount : t.slotCount = s.slotCount := by simp only [State.slotCount, State.slots, plan_of_base h]
  have hdrain : t.drainCount = s.drainCount := by simp only [State.drainCount, plan_of_base h]
  simpa only [echoTaken, hnewer, hcount, hdrain] using ht

/-! ### A foreign ROLL -/

theorem takeRoll_removes {s : State} {sender : BitVec 4} {x : Station} (hx : senderStation sender = some x) {b : RollBody}
    (hmode : b.mode = .joining ∨ b.mode = .isolated) : s.takeRoll sender b = s.removeStation x := by
  rcases hmode with hmode | hmode
  all_goals simp only [State.takeRoll, hx, hmode]

theorem takeRoll_offers {s : State} {sender : BitVec 4} {x : Station} (hx : senderStation sender = some x) {b : RollBody}
    (hmode : b.mode = .joined ∨ b.mode = .resting) :
    s.takeRoll sender b = if b.digest = s.digest then s.takeEchoes b.echoes else s := by
  rcases hmode with hmode | hmode
  all_goals simp only [State.takeRoll, hx, hmode]

theorem base_takeRoll (s : State) (sender : BitVec 4) (b : RollBody) : (s.takeRoll sender b).base = s.base := by
  rw [State.takeRoll]
  split
  · rfl
  · split
    · exact base_removeStation s _
    · exact base_removeStation s _
    · split
      · exact base_takeEchoes s _
      · rfl
    · split
      · exact base_takeEchoes s _
      · rfl

/-- The sender of a frame that this station hears is another station. -/
theorem ne_number_of_foreign {s : State} {rx : Rx} {x : Station} (h : rx.sender ≠ s.sender)
    (hsender : rx.sender = BitVec.ofNat 4 x.val) : x ≠ s.number := by
  rwa [hsender, ne_eq, ofNat_eq_sender_iff] at h

theorem row_roll {s : State} {rx : Rx} (h : Hears s rx) (b : RollBody) (k : Nat) :
    (s.completeFrame rx (.roll b)).row k = (s.heard.takeRoll rx.sender b).row k := by
  rw [completeFrame_of_hears h, row_taken]
  rfl

theorem row_roll_removes {s : State} {rx : Rx} {x : Station} (h : Hears s rx) (hsender : rx.sender = BitVec.ofNat 4 x.val)
    {b : RollBody} (hmode : b.mode = .joining ∨ b.mode = .isolated) (k : Nat) :
    (s.completeFrame rx (.roll b)).row k = removed x (s.row k) := by
  have hx : senderStation rx.sender = some x := (senderStation_eq_some_iff _ x).2 hsender
  rw [row_roll h, takeRoll_removes hx hmode]
  exact row_removeStation s.heard x k

/-- The table after a ROLL that offers its echoes (R21). -/
theorem row_roll_echoes {s : State} {rx : Rx} {x : Station} (h : Hears s rx) (hsender : rx.sender = BitVec.ofNat 4 x.val)
    {b : RollBody} (hmode : b.mode = .joined ∨ b.mode = .resting) (k : Nat) :
    (s.completeFrame rx (.roll b)).row k
      = (if b.digest = s.digest then s.heard.takeEchoes b.echoes else s.heard).row k := by
  have hx : senderStation rx.sender = some x := (senderStation_eq_some_iff _ x).2 hsender
  rw [row_roll h, takeRoll_offers hx hmode]
  rfl

theorem peer_roll {s : State} {rx : Rx} {x : Station} (h : Hears s rx) (hsender : rx.sender = BitVec.ofNat 4 x.val)
    (b : RollBody) : (s.completeFrame rx (.roll b)).peer x = rollHeard s.digest b
      ∧ ∀ y, y ≠ x → (s.completeFrame rx (.roll b)).peer y = s.peer y := by
  have hbase : (s.heard.actOn rx.sender (.roll b)).base = s.heard.base := base_takeRoll s.heard rx.sender b
  have hpeer (y : Station) : (s.heard.actOn rx.sender (.roll b)).peer y = s.peer y := by
    rw [State.peer, dir_of_base hbase]
    rfl
  have hdigest : (s.heard.actOn rx.sender (.roll b)).digest = s.digest := by
    rw [State.digest, plan_of_base hbase]
    rfl
  have hx : x ≠ (s.heard.actOn rx.sender (.roll b)).number := by
    rw [number_actOn]
    exact ne_number_of_foreign h.2.1 hsender
  rw [completeFrame_of_hears h]
  rw [hsender] at hpeer hdigest hx ⊢
  refine ⟨?_, fun y hy => ?_⟩
  · rw [peer_taken, peer_directoryTake hx, take_roll, hdigest]
  · rw [peer_taken, peer_directoryTake_ne _ (ofNat_station_ne (Ne.symm hy)), hpeer]

theorem restart_rollHeard (d : Word16) (b : RollBody) : (rollHeard d b).restart = rollHeard d b := by
  simp only [PeerRec.restart, rollHeard]
  split <;> simp_all

/-- Settles O35. -/
theorem echoesAreAdopted : Obligations.EchoesAreAdopted := by
  intro s rx b x h hsender hmode hdigest hlength
  have hrow (k : Nat) := row_roll_echoes h hsender hmode k
  rw [if_pos hdigest] at hrow
  have hrows : (s.completeFrame rx (.roll b)).row = (s.heard.takeEchoes b.echoes).row := funext hrow
  have taken (v : State) (hv : v.base = s.heard.base) (e : RowRecord) : echoTaken s e v.row (v.takeEcho e).row := by
    have hlen : v.table.length = v.slotCount := by
      rw [length_of_base hv, State.slotCount, State.slots, plan_of_base hv]
      exact hlength
    have : echoTaken s.heard e v.row (v.takeEcho e).row := echoTaken_of_base hv (echoTaken_takeEcho hlen e)
    exact this
  refine ⟨_, rfl, fun e he => ?_, fun e f hef => ⟨fun hslot k => ?_, fun hslot => ⟨(s.heard.takeEcho e).row, ?_, ?_⟩⟩⟩
  · rw [hrows, he]
    exact taken s.heard rfl e
  · rw [hrow, hef, State.takeEchoes, if_pos hslot]
    rfl
  · exact taken s.heard rfl e
  · rw [hrows, hef, State.takeEchoes, if_neg hslot]
    exact taken _ (base_takeEcho s.heard e) f

/-! ### The station's own ROLL -/

/-- The own ROLL's removal of the station from the table, where it is one of mode JOINING (R20). -/
def State.ownRollRemoves (s : State) (b : RollBody) : State :=
  if b.mode = .joining ∧ s.mode.appliesFrames = true then (s.noteOwnRoll b).removeStation s.number else s.noteOwnRoll b

theorem applyOwnRoll_eq (s : State) (b : RollBody) :
    s.applyOwnRoll b = if b.mode = .joined ∧ (s.peer s.number).mode ≠ some .joined then (s.ownRollRemoves b).activateClaim
      else s.ownRollRemoves b := rfl

theorem activateSlots_eq (ks : List Nat) (s : State) :
    (ks.foldl (fun s k => s.setLoc k ((s.loc k).activate (s.standbyWanted k) (s.row k))) s)
      = { s with table := (ks.foldl (fun s k => s.setLoc k ((s.loc k).activate (s.standbyWanted k) (s.row k))) s).table } := by
  induction ks generalizing s with
  | nil => rfl
  | cons k ks ih =>
    rw [List.foldl_cons, ih]
    rfl

theorem base_ownRollRemoves (s : State) (b : RollBody) : (s.ownRollRemoves b).base = (s.noteOwnRoll b).base := by
  rw [State.ownRollRemoves]
  split
  · exact base_removeStation _ _
  · rfl

theorem row_activateClaim (s : State) (k : Nat) : s.activateClaim.row k = s.row k := by
  rw [State.activateClaim]
  induction List.range s.table.length generalizing s with
  | nil => rfl
  | cons j js ih => rw [List.foldl_cons, ih, State.row_setLoc]

theorem length_setLoc (s : State) (k : Nat) (loc : RowLocal) : (s.setLoc k loc).table.length = s.table.length :=
  State.length_setEntry s k _

theorem loc_activateClaim (s : State) {k : Nat} (hk : k < s.table.length) :
    s.activateClaim.loc k = (s.loc k).activate (s.standbyWanted k) (s.row k) := by
  have slots (ks : List Nat) (hks : ks.Nodup) (u : State) (hu : k < u.table.length) :
      (ks.foldl (fun s k => s.setLoc k ((s.loc k).activate (s.standbyWanted k) (s.row k))) u).loc k
        = if k ∈ ks then (u.loc k).activate (u.standbyWanted k) (u.row k) else u.loc k := by
    induction ks generalizing u with
    | nil => rfl
    | cons j js ih =>
      rw [List.nodup_cons] at hks
      rw [List.foldl_cons, ih hks.2 _ (by rwa [length_setLoc])]
      by_cases hj : k = j
      · subst hj
        rw [if_neg hks.1, if_pos List.mem_cons_self, State.setLoc_eq, State.loc_setEntry_self _ _ hu]
      · rw [State.setLoc_eq, State.loc_setEntry_ne _ _ hj, ← State.setLoc_eq, State.row_setLoc]
        simp only [List.mem_cons, hj, false_or]
        rfl
  rw [State.activateClaim, slots _ List.nodup_range s hk, if_pos (List.mem_range.2 hk)]

theorem skeleton_activateClaim (s : State) : s.activateClaim.skeleton = s.skeleton := by
  rw [State.activateClaim]
  induction List.range s.table.length generalizing s with
  | nil => rfl
  | cons j js ih => rw [List.foldl_cons, ih, skeleton_setLoc]

theorem base_applyOwnRoll (s : State) (b : RollBody) : (s.applyOwnRoll b).base = (s.noteOwnRoll b).base := by
  rw [applyOwnRoll_eq]
  split
  · exact (base_of_skeleton (skeleton_activateClaim _)).trans (base_ownRollRemoves s b)
  · exact base_ownRollRemoves s b

theorem mode_applyOwnRoll (s : State) (b : RollBody) : (s.applyOwnRoll b).mode = s.mode := by
  have hremoves : (s.ownRollRemoves b).mode = s.mode := by
    rw [State.ownRollRemoves]
    split
    · exact (inner_removeStation _ _).mode
    · rfl
  rw [applyOwnRoll_eq]
  split
  · exact (inner_activateClaim _).mode.trans hremoves
  · exact hremoves

theorem row_applyOwnRoll (s : State) (b : RollBody) (k : Nat) :
    (s.applyOwnRoll b).row k
      = if b.mode = .joining ∧ s.mode.appliesFrames = true then removed s.number (s.row k) else s.row k := by
  have hremoves : (s.ownRollRemoves b).row k
      = if b.mode = .joining ∧ s.mode.appliesFrames = true then removed s.number (s.row k) else s.row k := by
    rw [State.ownRollRemoves]
    split
    · exact row_removeStation _ _ k
    · rfl
  rw [applyOwnRoll_eq]
  split
  · rw [row_activateClaim, hremoves]
  · exact hremoves

theorem isUnknown_removed (x : Station) (r : Row) : (removed x r).isUnknown = r.isUnknown := by
  have hleft (r : Row) : (carrierLeft r).isUnknown = r.isUnknown := by
    rw [carrierLeft.eq_def]
    repeat' split
    all_goals rfl
  have hstandby (r : Row) : (standbyLeft r).isUnknown = r.isUnknown := by
    rw [standbyLeft.eq_def]
    split <;> rfl
  rw [removed]
  split
  · exact hleft r
  · split
    · exact hstandby r
    · rfl

/-- An own ROLL leaves a table complete or incomplete as it was. -/
theorem all_known_applyOwnRoll (s : State) (b : RollBody) :
    (s.applyOwnRoll b).table.all (fun e => !e.row.isUnknown) = true ↔ s.table.all (fun e => !e.row.isUnknown) = true := by
  have hlength : (s.applyOwnRoll b).table.length = s.table.length :=
    (length_of_base (base_applyOwnRoll s b)).trans rfl
  rw [all_known_iff, all_known_iff, hlength]
  refine forall₂_congr fun k _ => ?_
  rw [row_applyOwnRoll]
  split
  · rw [isUnknown_removed]
  · rfl

/-- An own ROLL that completes (R8). -/
theorem completeFrame_own_roll {s : State} {rx : Rx} {b : RollBody} (h : OwnCompletes s rx (.roll b)) :
    s.completeFrame rx (.roll b) = ((s.ownDone rx.seen).applyOwnRoll b).settle true := by
  obtain ⟨hsender, hair, hdone⟩ := h
  have hcompletes : (rx.seen || !s.presentPeer) = true := by simpa using hdone
  rw [State.completeFrame, if_pos hsender, if_pos hair, State.ownCompleted, if_pos hcompletes, ownApplied_eq]
  rfl

theorem wires_ownDone (s : State) (seen : Bool) :
    (s.ownDone seen).link.wires
      = { s.link.wires with onAir := none, spoil := 0, unseen := if seen then 0 else s.link.unseen } := by
  have h : (s.ownDone seen).link.wires
      = { s.link.leaveLine.wires with spoil := 0, unseen := if seen then 0 else s.link.unseen } := rfl
  rw [h, wires_leaveLine]

theorem base_ownDone (s : State) (seen : Bool) :
    (s.ownDone seen).base = { s.base with
      link := { s.link.wires with onAir := none, spoil := 0, unseen := if seen then 0 else s.link.unseen } } := by
  have : (s.ownDone seen).base = { s.base with link := (s.ownDone seen).link.wires } := rfl
  rw [this, wires_ownDone]

/-- What an own ROLL changes beside the table: the last roll number, the SELF record, the echo pointer, the join mark, and the
line (R8, R158, R162, R164, R172). -/
theorem base_own_roll (s : State) (seen : Bool) (b : RollBody) :
    ((((s.ownDone seen).applyOwnRoll b).settle true).base) = { s.base with
      link := { s.link.wires with
        onAir := none, spoil := 0, unseen := if seen then 0 else s.link.unseen, lastRoll := b.number },
      dir := s.dir.set s.number
        { s.peer s.number with mode := some b.mode, lastRoll := some b.number, lanes := some b.lanes },
      echoPointer := if s.slotCount = 0 then s.echoPointer else (s.echoPointer + b.echoes.length) % s.slotCount,
      joinMark := s.joinMark || (b.mode == .joining && s.mode == .joining) } := by
  have hnoted : ((s.ownDone seen).noteOwnRoll b).base = { (s.ownDone seen).base with
      link := { (s.ownDone seen).link.wires with lastRoll := b.number },
      dir := s.dir.set s.number
        { s.peer s.number with mode := some b.mode, lastRoll := some b.number, lanes := some b.lanes },
      echoPointer := if s.slotCount = 0 then s.echoPointer else (s.echoPointer + b.echoes.length) % s.slotCount,
      joinMark := s.joinMark || (b.mode == .joining && s.mode == .joining) } := rfl
  rw [base_of_skeleton (skeleton_settle _ true), base_applyOwnRoll, hnoted, base_ownDone, wires_ownDone]

/-- Settles O34. -/
theorem rollSetsTheSendersRecord : Obligations.RollSetsTheSendersRecord := by
  refine ⟨fun s rx b x h hsender => ?_, fun s rx b x hmode hfresh hx hsender => ?_, fun s rx b hmode h => ?_⟩
  · obtain ⟨hpeer, hothers⟩ := peer_roll h hsender b
    refine ⟨_, rfl, hpeer, hothers, row_roll_removes h hsender, fun hm hdigest k => ?_⟩
    rw [row_roll_echoes h hsender hm, if_neg hdigest]
    rfl
  · have hforeign : rx.sender ≠ s.sender := by rwa [hsender, ne_eq, ofNat_eq_sender_iff]
    have hd := directoryTake_eq s.markSeen rx.sender (.roll b)
    refine ⟨_, rfl, ?_⟩
    rw [completeFrame_of_isolated hmode hfresh hforeign]
    refine ⟨joiningAfter_of_link (joiningAfter_enterJoining _ _) ?_ ?_ ?_, ?_, ?_⟩
    · exact (congrArg State.plan hd :)
    · exact (congrArg (fun u : State => u.link.lastRoll) hd :)
    · exact (congrArg State.echoPointer hd :)
    · exact (congrArg State.sel hd :)
    · rw [peer_enterJoining, hsender, peer_directoryTake (s := s.markSeen) hx, take_roll]
      exact restart_rollHeard _ b
  · have hdone := completeFrame_own_roll h
    have hbase := base_own_roll s rx.seen b
    rw [← hdone] at hbase
    have hjoinMark : (s.completeFrame rx (.roll b)).joinMark = (s.joinMark || (b.mode == .joining && s.mode == .joining)) :=
      (congrArg State.joinMark hbase :)
    have hdir := congrArg State.dir hbase
    have hself : (s.completeFrame rx (.roll b)).peer s.number
        = { s.peer s.number with mode := some b.mode, lastRoll := some b.number, lanes := some b.lanes } := by
      rw [State.peer, show (s.completeFrame rx (.roll b)).dir = _ from hdir]
      simp
    have hjoins : ((s.ownDone rx.seen).applyOwnRoll b).joins ↔ s.mode = .joining
        ∧ (s.completeFrame rx (.roll b)).joinMark = true ∧ s.table.all (fun e => !e.row.isUnknown) = true := by
      have hmark : ((s.ownDone rx.seen).applyOwnRoll b).joinMark = (s.completeFrame rx (.roll b)).joinMark := by
        rw [hdone]
        exact (joinMark_of_skeleton (skeleton_settle _ true)).symm
      rw [State.joins, mode_applyOwnRoll, all_known_applyOwnRoll, hmark]
      rfl
    have hrow (k : Nat) : (s.completeFrame rx (.roll b)).row k
        = if b.mode = .joining ∧ s.mode.appliesFrames = true then removed s.number (s.row k) else s.row k := by
      rw [hdone, row_settle, row_applyOwnRoll]
      rfl
    have hstays : s.mode ≠ .joining → (s.completeFrame rx (.roll b)).mode = s.mode := fun hne => by
      rw [hdone, mode_settle fun hj => hne (hjoins.1 hj).1, mode_applyOwnRoll]
      rfl
    refine ⟨_, rfl, ?_, ?_, ?_, ?_, hself, fun y hy => ?_, fun hslots => ?_, fun hb hne k => ?_, fun hb k => ?_, hjoinMark,
      hstays, fun hm => ?_, fun hm hb => ?_, fun hm hb hfirst k hk => ?_⟩
    · exact (congrArg (fun u : State => u.link.lastRoll) hbase :)
    · exact (congrArg (fun u : State => u.link.onAir) hbase :)
    · exact (congrArg (fun u : State => u.link.spoil) hbase :)
    · exact (congrArg (fun u : State => u.link.unseen) hbase :)
    · have hne : (s.number : Nat) ≠ y := fun e => hy (Fin.ext e.symm)
      rw [State.peer, show (s.completeFrame rx (.roll b)).dir = _ from hdir]
      simp [hne, State.peer]
    · exact (congrArg State.echoPointer hbase :).trans (if_neg hslots)
    · rw [hrow, if_pos ⟨hb, appliesFrames_of_onLink hmode hne⟩]
    · rw [hrow, if_neg fun hj => hb hj.1]
    · have hm' : ((s.ownDone rx.seen).applyOwnRoll b).mode = .joining := (mode_applyOwnRoll _ b).trans hm
      by_cases hj : ((s.ownDone rx.seen).applyOwnRoll b).joins
      · rw [if_pos (hjoins.1 hj).2, hdone, mode_settle_joins hj]
      · rw [if_neg fun hc => hj (hjoins.2 ⟨hm, hc⟩), hdone, mode_settle hj, hm']
    · have hnumber : (s.completeFrame rx (.roll b)).number = s.number := (congrArg State.number hbase :)
      rw [State.claimActive, hstays (by rw [hm]; decide), hm, hnumber, hself, hb]
      rfl
    · have hactivates : (s.ownDone rx.seen).applyOwnRoll b = ((s.ownDone rx.seen).noteOwnRoll b).activateClaim := by
        rw [applyOwnRoll_eq, State.ownRollRemoves, if_neg (show ¬(b.mode = .joining ∧ _) from fun hj => by
          rw [hb] at hj
          cases hj.1)]
        exact if_pos ⟨hb, hfirst⟩
      have hloc : ((s.completeFrame rx (.roll b)).loc k).unplaced
          = ((s.loc k).activate (s.standbyWanted k) (s.row k)).unplaced := by
        have hloc := loc_activateClaim ((s.ownDone rx.seen).noteOwnRoll b) (k := k) hk
        rw [hdone, hactivates, unplaced_settle, hloc]
        rfl
      have htried : ((s.completeFrame rx (.roll b)).loc k).standbyTried = false := by
        refine (congrArg RowLocal.standbyTried hloc :).trans ?_
        simp only [RowLocal.unplaced, RowLocal.activate]
        repeat' split
        all_goals rfl
      refine ⟨htried, fun hopen => ⟨?_, ?_⟩, fun hlacks hwanted => ?_⟩
      · refine (congrArg RowLocal.bidClock hloc :).trans ?_
        simp only [RowLocal.activate, if_pos hopen]
        rfl
      · refine (congrArg RowLocal.reclaimWait hloc :).trans ?_
        simp only [RowLocal.activate, if_pos hopen]
        rfl
      · have hclosed : (s.row k).isOpen = false := by
          cases hr : s.row k with
          | opened => rw [hr] at hlacks; cases hlacks
          | _ => rfl
        refine (congrArg RowLocal.standbyClock hloc :).trans ?_
        simp only [RowLocal.activate, hclosed, hlacks, hwanted]
        rfl

end Sys2Proof.Machine
end

section
/-! # Settling where nothing but the event itself acts

Where no lane is HELD or in a swap and no frame falls due, settling withdraws frames from the queue and does nothing else to it. -/

namespace Sys2Proof.Machine

open Sys2Proof.Safety

/-- The lane is HELD for no slot and in no swap. -/
def Lane.calm (x : Lane) : Prop := x.mark.isHeld = false ∧ x.ctx = .none

/-- No frame waits to be queued again, the queue is part of the earlier one, and its requests are the same. -/
structure Thins (L L' : Link) : Prop where
  owed : L'.owed = []
  due : L'.due = []
  part : L'.queue.Sublist L.queue
  requests : ∀ e ∈ L.queue, (∀ f, e.frame ≠ .fixed f) → e ∈ L'.queue
  noted : L'.notedReport = L.notedReport

theorem Thins.refl {L : Link} (howed : L.owed = []) (hdue : L.due = []) : Thins L L :=
  ⟨howed, hdue, List.Sublist.refl _, fun _ he _ => he, rfl⟩

theorem Thins.withdraw {L L' : Link} (h : Thins L L') (p : Frame → Bool) : Thins L (L'.withdraw p) := by
  refine ⟨by rw [Link.withdraw, h.owed]; rfl, by rw [Link.withdraw, h.due]; rfl, List.filter_sublist.trans h.part,
    fun e he hf => List.mem_filter.2 ⟨h.requests e he hf, ?_⟩, h.noted⟩
  cases hframe : e.frame with
  | fixed f => exact absurd hframe (hf f)
  | _ => simp [QFrame.meets]

section
variable {L : Link} {u : State}

theorem thins_dropTrial (l : LaneId) (h : Thins L u.link) : Thins L (u.dropTrial l).link := h.withdraw _

theorem thins_replaceRow (k : Nat) (h : Thins L u.link) : Thins L (State.replaceRow k u).link := by
  obtain ⟨due, hrow⟩ := replaceRow_eq k u
  have loop (ls : List LaneId) (v : State) (old : RowLocal) (p q : Option Nat) (hv : Thins L v.link) :
      Thins L (ls.foldl (fun s l => State.raiseLane old p q due k l s) v).link := by
    induction ls generalizing v with
    | nil => exact hv
    | cons l ls ih =>
      refine ih _ ?_
      simp only [State.raiseLane]
      repeat' split
      all_goals first | exact hv | exact thins_dropTrial l hv
  rw [hrow]
  exact loop allLanes _ _ _ _ h

theorem settleHeldLane_of_not_held {l : LaneId} (h : (u.lane l).mark.isHeld = false) : State.settleHeldLane l u = u := by
  obtain hu | ⟨fs, r, k, hmark, -⟩ := lane_settleHeldLane_cases l u
  · exact hu
  · rw [hmark] at h
    cases h

theorem settleSwap_of_none {l : LaneId} (h : (u.lane l).ctx = .none) : State.settleSwap l u = u := by
  simp only [State.settleSwap, h]

theorem holdAgain_of_none {l : LaneId} (h : (u.lane l).ctx = .none) : State.holdAgain l u = u := by
  simp only [State.holdAgain, h]

theorem sendDue_of_nil (h : u.link.due = []) : u.sendDue = u := by
  rw [State.sendDue, h, List.foldl_nil]
  conv => rhs; rw [show u = { u with link := { u.link with due := u.link.due } } from rfl, h]

theorem thins_assignOne (h : Thins L u.link) : Thins L u.assignOne.link := by
  simp only [State.assignOne]
  repeat' split
  · exact h
  · exact h
  · exact thins_dropTrial _ h
  · exact h

theorem assignStandbyOne_link (u : State) : u.assignStandbyOne.link = u.link := by
  simp only [State.assignStandbyOne]
  split <;> rfl

end

theorem laneClosed_calm (s : State) (l : LaneId) : LaneClosed s l Lane.calm where
  release _ h _ := ⟨rfl, h.2⟩
  ctx x c h hm := by
    rw [h.2] at hm
    cases hm
  gaveUp _ _ _ _ _ _ _ _ _ _ _ := ⟨rfl, rfl⟩
  unheld x _ h hh _ := by
    rw [h.1] at hh
    cases hh
  bind _ x k m h _ hm := by
    refine ⟨?_, h.2⟩
    rcases hm with ⟨rfl, -⟩ | ⟨rfl, -⟩ <;> rfl

/-- Where every lane is calm and no frame is owed, settling withdraws frames alone. -/
theorem settleKeeps_thins (s : State) (c : Bool) (L : Link) :
    SettleKeeps s c fun u => (∀ l, (u.lane l).calm) ∧ Thins L u.link where
  quiets u hw h := ⟨(settleKeeps_lanes (laneClosed_calm s) c).quiets u hw h.1, h.2.withdraw _⟩
  replaceRow k u hw h := ⟨(settleKeeps_lanes (laneClosed_calm s) c).replaceRow k u hw h.1, thins_replaceRow k h.2⟩
  trial l u hw h := by
    refine ⟨(settleKeeps_lanes (laneClosed_calm s) c).trial l u hw h.1, ?_⟩
    rw [State.settleTrial]
    split
    · exact thins_dropTrial l h.2
    · exact h.2
  held l u _ h := by rwa [settleHeldLane_of_not_held (h.1 l).1]
  swap l u _ h := by rwa [settleSwap_of_none (h.1 l).2]
  moot u hw h := ⟨(settleKeeps_lanes (laneClosed_calm s) c).moot u hw h.1, h.2.withdraw _⟩
  holdAgain l u _ h := by rwa [holdAgain_of_none (h.1 l).2]
  sendDue _ u _ h := by rwa [sendDue_of_nil h.2.due]
  assign ha u hw h := ⟨(settleKeeps_lanes (laneClosed_calm s) c).assign ha u hw h.1, thins_assignOne h.2⟩
  assignStandby ha u hw h := by
    refine ⟨(settleKeeps_lanes (laneClosed_calm s) c).assignStandby ha u hw h.1, ?_⟩
    rw [assignStandbyOne_link]
    exact h.2

/-- Settling without a join, in any mode, withdraws frames alone where every lane is calm and no frame is owed. -/
theorem thins_settle {s : State} (hjoins : ¬s.joins) (hcalm : ∀ l, (s.lane l).calm) (howed : s.link.owed = [])
    (hdue : s.link.due = []) (c : Bool) : Thins s.link (s.settle c).link := by
  by_cases hm : s.mode.appliesFrames = true
  · rw [settle_eq hm, joinIfComplete_of_not hjoins]
    exact (settleBlocks_keeps (settleKeeps_thins s c s.link) ⟨hcalm, .refl howed hdue⟩).2.2
  · by_cases hiso : s.mode = .isolated
    · rw [settle_isolated hiso, homeAssignment_eq]
      exact .refl howed hdue
    · rw [settle_other (Bool.eq_false_iff.2 hm) hiso]
      exact .refl howed hdue

/-! ### The station becomes JOINING by a QUIET about itself -/

/-- The entry into JOINING, the directory's record of the sender, and the settling that follows (R163, R177). -/
theorem joiningAfter_settle {s u : State} {cause : ResetCause} (h : JoiningAfter s u cause) (howed : u.link.owed = [])
    (hdue : u.link.due = []) : JoiningAfter s (u.settle true) cause := by
  obtain ⟨hmode, hcause, hrows, hidle, hmark, hquiet, hroll, hmute, hspoil, hunseen, hbad, hqueue, hne, hplan, hlast,
    hecho⟩ := h
  have hjoins : ¬u.joins := fun hj => by
    rw [hj.2.1] at hmark
    cases hmark
  have hw := within_settle hjoins true
  have hskel := skeleton_settle u true
  have hthins := thins_settle hjoins (fun l => ⟨by rw [(hidle l).2.2.2.2.1]; rfl, (hidle l).2.2.2.2.2.1⟩) howed hdue true
  have hinactive : u.claimActive = false := by rw [State.claimActive, hmode]; rfl
  have hjoined : u.joinIfComplete = u := joinIfComplete_of_not hjoins
  have hlane (l : LaneId) : (u.settle true).lane l = u.lane l := by
    obtain ⟨-, hrole, -, -, hmark, hctx, -⟩ := hidle l
    refine lane_settle (P := (· = u.lane l)) (by rw [hmode]; rfl) ?_ rfl true
    rw [hjoined]
    exact laneClosed_still (by rw [hrole]; decide) (by rw [hmark]; rfl) hctx (.inl hinactive)
  refine ⟨hw.mode.trans hmode, (resetCause_of_skeleton hskel).trans hcause, fun k => (hw.row k).trans (hrows k),
    fun l => by rw [hlane]; exact hidle l, (joinMark_of_skeleton hskel).trans hmark, hw.joinQuiet.trans hquiet,
    hw.rollTimer.trans hroll, (muteRest_of_skeleton hskel).trans hmute, (spoil_of_skeleton hskel).trans hspoil,
    (unseen_of_skeleton hskel).trans hunseen, (badRx_of_skeleton hskel).trans hbad,
    fun e he => hqueue e (hthins.part.subset he), fun hempty => ?_, hw.plan.trans hplan,
    (lastRoll_of_skeleton hskel).trans hlast, (echoPointer_of_skeleton hskel).trans hecho⟩
  obtain ⟨e, rest, hq⟩ := List.exists_cons_of_ne_nil hne
  have he : e ∈ u.link.queue := by rw [hq]; exact List.mem_cons_self
  have := hthins.requests e he fun f => by rw [hqueue e he]; nofun
  rw [hempty] at this
  cases this

theorem joiningAfter_directoryTake {s u : State} {cause : ResetCause} (h : JoiningAfter s u cause) (sender : BitVec 4)
    (f : Frame) : JoiningAfter s (u.directoryTake sender f) cause := by
  obtain ⟨hmode, hcause, hrows, hidle, hmark, hquiet, hrest⟩ := h
  have hq : (u.directoryTake sender f).joinQuiet = some 1000 := by
    simp only [State.directoryTake]
    split
    · exact hquiet
    · split
      · exact hquiet
      · split
        · rfl
        · exact hquiet
  rw [directoryTake_eq, hq]
  exact ⟨hmode, hcause, hrows, hidle, hmark, rfl, hrest⟩

theorem owed_enterJoining (s : State) (cause : Option ResetCause) :
    (s.enterJoining cause).link.owed = [] ∧ (s.enterJoining cause).link.due = [] := ⟨rfl, rfl⟩

theorem takeQuiet_self {s : State} {sender : BitVec 4} {x : Station} (hx : s.mayAct sender = some x) (roll : Byte) :
    s.takeQuiet sender (byteOf s.number.val) roll
      = if roll = s.link.lastRoll then s.enterJoining (some .quieted) else s := by
  rw [State.takeQuiet, hx, stationOf_byteOf]
  exact if_pos rfl

/-- Settles O25. -/
theorem quietAboutSelfRejoins : Obligations.QuietAboutSelfRejoins := by
  intro s rx roll x hx h
  have hears := hears_of_applies h hx
  have hmay : s.heard.mayAct rx.sender = some x := by
    rw [h.2.2.1]
    exact mayAct_ofNat s.heard x h.2.1
  have hact : s.heard.takeQuiet rx.sender (byteOf s.number.val) roll
      = if roll = s.link.lastRoll then s.heard.enterJoining (some .quieted) else s.heard := takeQuiet_self hmay roll
  have hdone : s.completeFrame rx (.quiet (byteOf s.number.val) roll) = _ :=
    (completeFrame_of_hears hears _).trans (by rw [State.actOn, hact])
  refine ⟨_, rfl, fun hroll => ?_, fun hroll => ?_⟩
  · rw [if_pos hroll] at hdone
    rw [hdone]
    have hlink : ((s.heard.enterJoining (some .quieted)).directoryTake rx.sender (.quiet (byteOf s.number.val) roll)).link
        = (s.heard.enterJoining (some .quieted)).link := by rw [directoryTake_eq]
    refine joiningAfter_settle (joiningAfter_directoryTake (joiningAfter_of_link (joiningAfter_enterJoining s.heard _)
      rfl rfl rfl) _ _) ?_ ?_
    all_goals rw [hlink]
    · exact (owed_enterJoining _ _).1
    · exact (owed_enterJoining _ _).2
  · rw [if_neg hroll] at hdone
    refine ⟨fun k => ?_, ?_⟩
    · rw [hdone, row_taken]
      rfl
    · rw [hdone, resetCause_of_skeleton (skeleton_settle _ true), directoryTake_eq]
      rfl

/-! ### QUERY and REPORT -/

theorem takeQuery_own {s : State} {target : Byte} (h : target.toNat = s.number.val) (kind index : Byte) :
    s.takeQuery target kind index = State.requestReport { s with sel := (s.takeQuery target kind index).sel } := by
  rw [State.takeQuery, if_pos h]
  rfl

theorem takeQuery_other {s : State} {target : Byte} (h : target.toNat ≠ s.number.val) (kind index : Byte) :
    s.takeQuery target kind index = s := if_neg h

theorem base_takeQuery (s : State) (target kind index : Byte) :
    (s.takeQuery target kind index).base = { s.base with sel := (s.takeQuery target kind index).sel } := by
  by_cases h : target.toNat = s.number.val
  · rw [takeQuery_own h]
    exact base_of_skeleton (skeleton_requestReport _)
  · rw [takeQuery_other h]
    rfl

/-- What a defined kind with an index in its range is (R194). -/
theorem selects_iff (s : State) (kind index : Byte) :
    (kind = 0#8 ∧ index = 0#8 ∨ kind = 1#8 ∧ index.toNat < 4 ∨ kind = 2#8 ∧ index.toNat < s.slotCount
        ∨ kind = 3#8 ∧ index.toNat < 8 ∨ kind = 4#8 ∧ index.toNat < s.slotCount)
      ↔ ∃ rk, recordKindOf kind = some rk ∧ s.indexValid rk index.toNat = true := by
  have hzero : index.toNat = 0 ↔ index = 0#8 := by
    rw [← BitVec.toNat_inj]
    rfl
  rw [recordKindOf]
  split
  · rename_i h; subst h; simp [State.indexValid, hzero]
  · split
    · rename_i h; subst h; simp [State.indexValid]
    · split
      · rename_i h; subst h; simp [State.indexValid]
      · split
        · rename_i h; subst h; simp [State.indexValid]
        · split
          · rename_i h; subst h; simp [State.indexValid]
          · rename_i h0 h1 h2 h3 h4
            simp [h0, h1, h2, h3, h4]

theorem sel_takeQuery_valid {s : State} {target kind index : Byte} (h : target.toNat = s.number.val) {rk : RecordKind}
    (hk : recordKindOf kind = some rk) (hi : s.indexValid rk index.toNat = true) :
    (s.takeQuery target kind index).sel = { s.sel with kind := rk, index := index.toNat, refused := false } := by
  rw [State.takeQuery, if_pos h, hk]
  exact if_pos hi

theorem sel_takeQuery_invalid {s : State} {target kind index : Byte} (h : target.toNat = s.number.val)
    (hnot : ¬∃ rk, recordKindOf kind = some rk ∧ s.indexValid rk index.toNat = true) :
    (s.takeQuery target kind index).sel = { s.sel with refused := true } := by
  rw [State.takeQuery, if_pos h]
  cases hk : recordKindOf kind with
  | none => rfl
  | some rk => exact if_neg fun hi => hnot ⟨rk, hk, hi⟩

/-- The sender's record after a frame that is no ROLL and leaves the directory alone; the other records stay. -/
theorem peer_of_heard {s : State} {rx : Rx} (h : Hears s rx) {f : Frame} (hf : ∀ b, f ≠ .roll b)
    (hdir : (s.heard.actOn rx.sender f).dir = s.dir) :
    (∀ x, rx.sender = BitVec.ofNat 4 x.val → (s.completeFrame rx f).peer x = heardFrom (s.peer x))
      ∧ ∀ y, rx.sender ≠ BitVec.ofNat 4 y.val → (s.completeFrame rx f).peer y = s.peer y := by
  have hpeer (y : Station) : (s.heard.actOn rx.sender f).peer y = s.peer y := by rw [State.peer, hdir]; rfl
  rw [completeFrame_of_hears h]
  refine ⟨fun x hx => ?_, fun y hy => ?_⟩
  · have hne : x ≠ (s.heard.actOn rx.sender f).number := by
      rw [number_actOn]
      exact ne_number_of_foreign h.2.1 hx
    rw [hx] at hpeer hne ⊢
    rw [peer_taken, peer_directoryTake hne, hpeer, take_of_not_roll _ _ hf]
  · rw [peer_taken, peer_directoryTake_ne _ hy, hpeer]

theorem Link.holds_iff (L : Link) (q : QFrame) (b : Bool) : L.holds q b = true ↔ { frame := q, onLine := b } ∈ L.queue := by
  rw [Link.holds, List.any_eq_true]
  constructor
  · rintro ⟨⟨f, o⟩, he, h⟩
    simp only [Bool.and_eq_true, beq_iff_eq] at h
    obtain ⟨rfl, rfl⟩ := h
    exact he
  · exact fun h => ⟨_, h, by simp⟩

/-- A request that stands in the queue stands in it after settling that withdraws frames alone. -/
theorem Thins.holds {L L' : Link} (h : Thins L L') {q : QFrame} (hq : ∀ f, q ≠ .fixed f) {b : Bool}
    (hL : L.holds q b = true) : L'.holds q b = true := by
  rw [Link.holds_iff] at hL ⊢
  exact h.requests _ hL hq

theorem join_of_room {L : Link} (h : L.queue.length < 8) (q : QFrame) :
    L.join q = { L with queue := insertEntry { frame := q, onLine := false } L.queue } := by
  rw [Link.join, arrive]
  simp only [if_pos h]
  rfl

theorem requestReport_of_idle {L : Link} (h : L.holds .report false = true) : L.requestReport = L := if_pos h

theorem requestReport_of_onLine {L : Link} (h : L.holds .report false = false) (hon : L.holds .report true = true) :
    L.requestReport = { L with notedReport := true } := by
  rw [Link.requestReport, if_neg (Bool.eq_false_iff.1 h), if_pos hon]

theorem requestReport_of_room {L : Link} (h : L.holds .report false = false) (hon : L.holds .report true = false)
    (hroom : L.queue.length < 8) :
    L.requestReport = { L with queue := insertEntry { frame := .report, onLine := false } L.queue } := by
  rw [Link.requestReport, if_neg (Bool.eq_false_iff.1 h), if_neg (Bool.eq_false_iff.1 hon), join_of_room hroom]

/-- At a station where nothing but the event acts, what the link is after a QUERY for it follows from the request alone. -/
theorem thins_query {s : State} {rx : Rx} (h : Hears s rx) (calm : Undisturbed s) {target : Byte}
    (htarget : target.toNat = s.number.val) (kind index : Byte)
    (hR : s.heard.link.requestReport.owed = [] ∧ s.heard.link.requestReport.due = []) :
    Thins s.heard.link.requestReport (s.completeFrame rx (.query target kind index)).link := by
  obtain ⟨hlanes, -, hjoin⟩ := calm
  have hown := takeQuery_own (s := s.heard) htarget kind index
  have hwritten (u v : State) (huv : u = v) (w : State) (hw : w = u.directoryTake rx.sender (.query target kind index)) :
      w.link = v.link ∧ w.lanes = v.lanes ∧ w.mode = v.mode ∧ w.joinMark = v.joinMark := by
    rw [hw, directoryTake_eq, huv]
    exact ⟨rfl, rfl, rfl, rfl⟩
  obtain ⟨hlink, hlanes', hmode', hmark'⟩ := hwritten _ _ hown _ rfl
  rw [completeFrame_of_hears h]
  have hjoins : ¬((s.heard.takeQuery target kind index).directoryTake rx.sender (.query target kind index)).joins := by
    rintro ⟨hm, hmark, -⟩
    rw [hmode'] at hm
    rw [hmark'] at hmark
    have : s.joinMark = true := hmark
    rw [hjoin hm] at this
    cases this
  have hthins := thins_settle hjoins (fun l => by rw [State.lane_congr hlanes' l]; exact hlanes l)
    (by rw [hlink]; exact hR.1) (by rw [hlink]; exact hR.2) true
  rwa [hlink] at hthins

/-- Settles O38. -/
theorem querySelectsTheRecord : Obligations.QuerySelectsTheRecord := by
  intro s rx h
  refine ⟨fun target kind index => ?_, fun body => ?_⟩
  · have hdone := completeFrame_of_hears h (.query target kind index)
    have hsel : (s.completeFrame rx (.query target kind index)).sel = (s.heard.takeQuery target kind index).sel := by
      rw [hdone, sel_taken]
      rfl
    obtain ⟨hsender, hothers⟩ := peer_of_heard h (f := .query target kind index) (by simp)
      ((congrArg State.dir (base_takeQuery s.heard target kind index) :))
    refine ⟨_, rfl, fun k => ?_, fun htarget hvalid => ?_, fun htarget hnot => ?_, fun htarget => ?_, fun htarget calm => ?_,
      hsender, hothers⟩
    · rw [hdone, row_taken]
      exact row_takeQuery s.heard target kind index k
    · obtain ⟨rk, hk, hi⟩ := (selects_iff s kind index).1 hvalid
      rw [hsel, sel_takeQuery_valid (s := s.heard) htarget hk hi]
      exact ⟨hk, rfl, rfl, rfl⟩
    · rw [hsel]
      exact sel_takeQuery_invalid (s := s.heard) htarget fun hv => hnot ((selects_iff s kind index).2 hv)
    · rw [hsel, takeQuery_other (s := s.heard) htarget]
      rfl
    · have howed : s.heard.link.owed = [] ∧ s.heard.link.due = [] := by
        constructor
        all_goals
          show s.link.owed.filter _ = []
          rw [calm.2.1]
          rfl
      have hidle (hi : s.link.holds .report false = true) :
          (s.completeFrame rx (.query target kind index)).link.holds .report false = true := by
        have hR : s.heard.link.requestReport = s.heard.link := requestReport_of_idle hi
        exact (thins_query h calm htarget kind index (by rwa [hR])).holds (fun _ => by simp) (by rw [hR]; exact hi)
      refine ⟨hidle, fun hi hon => ?_, fun hon hroom => ?_⟩
      · have hR : s.heard.link.requestReport = { s.heard.link with notedReport := true } := requestReport_of_onLine hi hon
        exact (thins_query h calm htarget kind index (by rwa [hR])).noted.trans (by rw [hR])
      · cases hi : s.link.holds .report false with
        | true => exact hidle hi
        | false =>
          have hR : s.heard.link.requestReport = _ := requestReport_of_room hi hon hroom
          refine (thins_query h calm htarget kind index (by rwa [hR])).holds (fun _ => by simp) ?_
          rw [hR, Link.holds_iff]
          exact (insertEntry_perm _ _).symm.subset List.mem_cons_self
  · obtain ⟨hsender, hothers⟩ := peer_of_heard h (f := .report body) (by simp) rfl
    have hdone := completeFrame_of_hears h (.report body)
    refine ⟨_, rfl, fun k => ?_, ?_, hsender, hothers⟩
    · rw [hdone, row_taken]
      rfl
    · rw [hdone, sel_taken]
      rfl

/-! ### Stale timers -/

theorem settleKeeps_true (s : State) (c : Bool) : SettleKeeps s c fun _ => True :=
  ⟨⟨fun _ _ _ => trivial, fun _ _ _ _ => trivial, fun _ _ _ _ => trivial, fun _ _ _ _ => trivial, fun _ _ _ _ => trivial,
    fun _ _ _ => trivial, fun _ _ _ _ => trivial, fun _ _ _ _ => trivial⟩, fun _ _ _ _ => trivial, fun _ _ _ _ => trivial⟩

/-- A QUIET about a stale PRESENT peer stays held through the settling of a JOINED station. -/
theorem holds_quiet_settle {s : State} {x : Station} {n : Byte} (hmode : s.mode = .joined) (hstate : (s.peer x).state = .present)
    (hstale : (s.peer x).staleMark = true) (h : Holds (.quiet (byteOf x.val) n) s.link) (c : Bool) :
    Holds (.quiet (byteOf x.val) n) (s.settle c).link := by
  have hjoins : ¬s.joins := not_joins_of_mode (by rw [hmode]; decide)
  rw [settle_eq (by rw [hmode]; rfl), joinIfComplete_of_not hjoins]
  refine (settleBlocks_keeps (settleKeeps_holds (kept_quiet _ n) (settleKeeps_true s c) fun u hw _ => ?_)
    ⟨trivial, h⟩).2.2
  refine ⟨fun _ => ?_, fun _ _ _ _ => ⟨rfl, .inl rfl⟩, fun _ _ _ _ _ _ _ => .inr rfl, fun _ _ _ _ _ _ => .inr rfl⟩
  simp [State.wants, hw.mode, hmode, stationOf_byteOf, hw.peer, hstate, hstale]

/-- What the expiry of a stale timer makes of its record (R174, R175). -/
theorem staleExpired_cases {s : State} {x : Station} (h : (s.peer x).staleTimer.isSome = true) :
    ((s.peer x).lastRoll = none → s.staleExpired x = (s.setPeer x { s.peer x with
        state := .absent, mode := none, digest := none, lanes := none, staleTimer := none }).settle false)
      ∧ ∀ n, (s.peer x).lastRoll = some n → s.staleExpired x
        = if s.mode = .joined then
            ((s.setPeer x { s.peer x with staleTimer := none, staleMark := true }).send (.quiet (byteOf x.val) n)).settle false
          else s.setPeer x { s.peer x with staleTimer := none, staleMark := true } := by
  have hnone : ¬(s.peer x).staleTimer.isNone = true := by
    rw [Option.isNone_iff_eq_none]
    rintro hnone
    rw [hnone] at h
    cases h
  constructor
  · intro hlast
    rw [State.staleExpired]
    dsimp only
    rw [if_neg hnone, hlast]
  · intro n hlast
    rw [State.staleExpired]
    dsimp only
    rw [if_neg hnone, hlast]
    rfl

/-- Settles O45. -/
theorem staleTimerMarksOrForgets : Obligations.StaleTimerMarksOrForgets := by
  intro s x h
  obtain ⟨hforgets, hmarks⟩ := staleExpired_cases h
  have hpeers : ∃ r, (s.staleExpired x).dir = (s.setPeer x r).dir
      ∧ ((s.peer x).lastRoll = none → r = { s.peer x with
          state := .absent, mode := none, digest := none, lanes := none, staleTimer := none })
      ∧ (∀ n, (s.peer x).lastRoll = some n → r = { s.peer x with staleTimer := none, staleMark := true }) := by
    cases hlast : (s.peer x).lastRoll with
    | none =>
      refine ⟨_, ?_, fun _ => rfl, nofun⟩
      rw [hforgets hlast, dir_of_skeleton (skeleton_settle _ false)]
    | some n =>
      refine ⟨_, ?_, nofun, fun _ _ => rfl⟩
      rw [hmarks n hlast]
      split
      · rw [dir_of_skeleton (skeleton_settle _ false)]
        rfl
      · rfl
  obtain ⟨r, hdir, hnone, hsome⟩ := hpeers
  have hself : (s.staleExpired x).peer x = r := by
    rw [State.peer, hdir]
    exact State.peer_setPeer_self s x r
  refine ⟨_, rfl, row_staleExpired s x, fun y hy => ?_, fun hlast => ?_, fun n hlast => ⟨?_, fun hmode hpresent => ?_⟩⟩
  · rw [State.peer, hdir]
    exact State.peer_setPeer_ne s r hy
  · rw [hself, hnone hlast]
  · rw [hself, hsome n hlast]
  · obtain ⟨v, hv⟩ : ∃ v, v = s.setPeer x { s.peer x with staleTimer := none, staleMark := true } := ⟨_, rfl⟩
    have hpeer : (v.send (.quiet (byteOf x.val) n)).peer x = { s.peer x with staleTimer := none, staleMark := true } := by
      rw [hv]
      exact State.peer_setPeer_self s x _
    have hvmode : (v.send (.quiet (byteOf x.val) n)).mode = .joined := by rw [hv]; exact hmode
    have hsent : Holds (.quiet (byteOf x.val) n) (v.send (.quiet (byteOf x.val) n)).link :=
      holds_join (kept_quiet _ n).owed _
    rw [hmarks n hlast, if_pos hmode, ← hv]
    exact holds_quiet_settle hvmode (by rw [hpeer]; exact hpresent) (by rw [hpeer]) hsent false

end Sys2Proof.Machine
end

section
/-! # A swap's lane and its frame through settling

The lane of a swap keeps its context, and its owner the swap's frame, where the rows allow the swap and no other lane is in a swap
for the same slot. -/

namespace Sys2Proof.Machine

open Sys2Proof.Safety

/-! ### Other lanes -/

/-- The lane is in no swap for the slot that the byte names. -/
def Lane.apart (b : Byte) (x : Lane) : Prop := ∀ j, x.ctx.slot = some j → byteOf j ≠ b

theorem apart_none {b : Byte} {x : Lane} (h : x.ctx = .none) : x.apart b := by
  intro j hj
  rw [h] at hj
  cases hj

theorem ctx_openGate (x : Lane) : x.openGate.ctx = x.ctx := by
  rw [Lane.openGate]
  split <;> rfl

theorem laneClosed_apart {s : State} {m : LaneId} {b : Byte}
    (h : s.mode = .resting → ∀ k, (s.row k).names (s.ownPair m) = true → (s.row k).isSwapping = false → byteOf k ≠ b) :
    LaneClosed s m (Lane.apart b) where
  release x hx _ := hx
  ctx x c hx hm := by
    cases hx' : x.ctx with
    | none => rw [hx'] at hm; cases hm
    | giver k t st a b' =>
      rw [hx'] at hm
      cases hm
      exact apart_none rfl
    | taker k t st al =>
      rw [hx'] at hm
      cases hm with
      | takerEnds => exact apart_none rfl
      | unready =>
        intro j hj
        exact hx j (by rw [hx']; exact hj)
  gaveUp _ _ _ _ _ _ _ _ _ _ _ := apart_none rfl
  unheld x y hx _ hm := by
    cases hm with
    | released => exact hx
    | carrier => exact fun j hj => hx j (by rw [ctx_openGate] at hj; exact hj)
    | standby => exact hx
    | offers k hmode _ hrow _ hswap =>
      intro j hj
      obtain rfl := Option.some.inj hj
      exact h hmode _ (by rw [Row.names_iff]; exact .inl hrow) hswap
    | gaveUp => exact apart_none rfl
  bind _ _ _ _ hx _ _ := hx

/-- A property of the other lanes alone. -/
theorem laneClosed_imp {s : State} {m : LaneId} {p : Prop} {P : Lane → Prop} (h : p → LaneClosed s m P) :
    LaneClosed s m fun x => p → P x where
  release x hx ht hp := (h hp).release x (hx hp) ht
  ctx x c hx hm hp := (h hp).ctx x c (hx hp) hm
  gaveUp hr x k t st a b hx hc he hrole hp := (h hp).gaveUp hr x k t st a b (hx hp) hc he hrole
  unheld x y hx hh hm hp := (h hp).unheld x y (hx hp) hh hm
  bind ha x k m hx hav hm hp := (h hp).bind ha x k m (hx hp) hav hm

/-! ### The swap's own lane -/

/-- The swap of lane `l`, as settling is to leave it: the lane is `y`, its frame `f`, its slot's byte `b`. -/
structure SwapSettles (s : State) (l : LaneId) (y : Lane) (f : Frame) (b : Byte) : Prop where
  owed : isOwed (.fixed f) = true
  slot : ∀ k, (isGiverFrame k f || isTakerFrame k f) = true → byteOf k = b
  noCede : ∀ k m, isCedeOf k m f = false
  noTrial : y.role ≠ .trial
  notHeld : y.mark.isHeld = false
  unavailable : y.available = false
  beside : s.mode = .resting → ∀ m, m ≠ l → ∀ k, (s.row k).names (s.ownPair m) = true → (s.row k).isSwapping = false →
    byteOf k ≠ b
  wanted : ∀ u : State, SameRows s u → u.lane l = y → u.wants f = true
  stays : ∀ u : State, SameRows s u → u.lane l = y → Holds f u.link →
    (State.settleSwap l u).lane l = y ∧ Holds f (State.settleSwap l u).link

/-- What holds of a swap all through settling. -/
def SwapKept (l : LaneId) (y : Lane) (f : Frame) (b : Byte) (u : State) : Prop :=
  u.lane l = y ∧ (∀ m, m ≠ l → (u.lane m).apart b) ∧ Holds f u.link

section
variable {s : State} {l : LaneId} {y : Lane} {f : Frame} {b : Byte}

/-- A swap passes through settling beside a property under which the comparison of R67, and the frames that are queued again, keep
its frame. -/
theorem settleKeeps_swap (h : SwapSettles s l y f b) {c : Bool} {J : State → Prop} (keeps : SettleKeeps s c J)
    (again : ∀ m u, Within s u → J u → SwapKept l y f b u → Holds f (State.holdAgain m u).link)
    (due : c = true → ∀ u, Within s u → J u → SwapKept l y f b u → Holds f u.sendDue.link) :
    SettleKeeps s c fun u => J u ∧ SwapKept l y f b u := by
  have others : SettleKeeps s c fun u => ∀ m, m ≠ l → (u.lane m).apart b :=
    settleKeeps_lanes (P := fun m x => m ≠ l → x.apart b)
      (fun m => laneClosed_imp fun hm => laneClosed_apart fun hmode => h.beside hmode m hm) c
  have wanted (u : State) (hw : Within s u) (hu : SwapKept l y f b u) : u.wants f = true := h.wanted u hw.row hu.1
  have swapFrame {k : Nat} (hk : byteOf k ≠ b) : (isGiverFrame k f || isTakerFrame k f) = false := by
    cases hf : isGiverFrame k f || isTakerFrame k f with
    | false => rfl
    | true => exact absurd (h.slot k hf) hk
  exact
    { quiets := fun u hw ⟨hj, hu⟩ => by
        refine ⟨keeps.quiets u hw hj, hu.1, others.quiets u hw hu.2.1, hu.2.2.withdraw ?_⟩
        rw [wanted u hw hu]
        simp
      replaceRow := fun k u hw ⟨hj, hu⟩ => by
        refine ⟨keeps.replaceRow k u hw hj, ?_, others.replaceRow k u hw hu.2.1, holds_replaceRow h.owed k hu.2.2⟩
        obtain hr | ⟨⟨htrial, -⟩, -⟩ := lane_replaceRow_cases k u l
        · exact hr.trans hu.1
        · exact absurd (hu.1 ▸ htrial) h.noTrial
      trial := fun m u hw ⟨hj, hu⟩ => by
        refine ⟨keeps.trial m u hw hj, ?_, others.trial m u hw hu.2.1, holds_settleTrial h.owed m hu.2.2⟩
        by_cases hm : l = m
        · subst hm
          obtain hr | ⟨htrial, -⟩ := lane_settleTrial_cases l u
          · exact hr.trans hu.1
          · exact absurd (hu.1 ▸ htrial) h.noTrial
        · rw [lane_settleTrial_ne u hm]
          exact hu.1
      held := fun m u hw ⟨hj, hu⟩ => by
        refine ⟨keeps.held m u hw hj, ?_⟩
        by_cases hm : l = m
        · subst hm
          rwa [settleHeldLane_of_not_held (by rw [hu.1]; exact h.notHeld)]
        · refine ⟨(lane_settleHeldLane_ne u hm).trans hu.1, others.held m u hw hu.2.1,
            holds_settleHeldLane h.owed m (fun k _ _ => ⟨h.noCede k m, ?_⟩) hu.2.2⟩
          by_cases hmode : u.mode = .resting
          · cases hnames : (u.row k).names (u.ownPair m) with
            | false => exact .inr (.inl rfl)
            | true =>
              cases hswap : (u.row k).isSwapping with
              | true => exact .inr (.inr (.inl rfl))
              | false =>
                rw [hw.row] at hnames hswap
                rw [hw.ownPair] at hnames
                exact .inl (swapFrame (h.beside (hw.mode ▸ hmode) m (Ne.symm hm) k hnames hswap))
          · exact .inr (.inr (.inr hmode))
      swap := fun m u hw ⟨hj, hu⟩ => by
        refine ⟨keeps.swap m u hw hj, ?_⟩
        by_cases hm : l = m
        · subst hm
          obtain ⟨hlane, hholds⟩ := h.stays u hw.row hu.1 hu.2.2
          exact ⟨hlane, others.swap l u hw hu.2.1, hholds⟩
        · refine ⟨(lane_settleSwap_ne u hm).trans hu.1, others.swap m u hw hu.2.1, holds_settleSwap h.owed m
            (fun k t st a b' hctx => .inr (swapFrame ?_)) (fun k t st al hctx => .inl ?_) hu.2.2⟩
          · exact hu.2.1 m (Ne.symm hm) k (by rw [hctx]; rfl)
          · exact (Bool.or_eq_false_iff.1 (swapFrame (hu.2.1 m (Ne.symm hm) k (by rw [hctx]; rfl)))).2
      moot := fun u hw ⟨hj, hu⟩ => by
        refine ⟨keeps.moot u hw hj, hu.1, others.moot u hw hu.2.1, hu.2.2.withdraw ?_⟩
        rw [wanted u hw hu]
        simp
      holdAgain := fun m u hw ⟨hj, hu⟩ => by
        refine ⟨keeps.holdAgain m u hw hj, ?_, others.holdAgain m u hw hu.2.1, again m u hw hj hu⟩
        rw [(linkOnly_holdAgain m u).lane]
        exact hu.1
      sendDue := fun hc u hw ⟨hj, hu⟩ => by
        refine ⟨keeps.sendDue hc u hw hj, ?_, others.sendDue hc u hw hu.2.1, due hc u hw hj hu⟩
        rw [lane_sendDue]
        exact hu.1
      assign := fun ha u hw ⟨hj, hu⟩ => by
        refine ⟨keeps.assign ha u hw hj, ?_, others.assign ha u hw hu.2.1, holds_assignOne h.owed hu.2.2⟩
        obtain hr | ⟨k, -, ⟨hav, -⟩ | ⟨htrial, -⟩⟩ := lane_assignOne_cases u l
        · exact hr.trans hu.1
        · rw [hu.1, h.unavailable] at hav
          cases hav
        · exact absurd (hu.1 ▸ htrial) h.noTrial
      assignStandby := fun ha u hw ⟨hj, hu⟩ => by
        refine ⟨keeps.assignStandby ha u hw hj, ?_, others.assignStandby ha u hw hu.2.1, ?_⟩
        · obtain hr | ⟨k, -, hav, -⟩ := lane_assignStandbyOne_cases u l
          · exact hr.trans hu.1
          · rw [hu.1, h.unavailable] at hav
            cases hav
        · rw [assignStandbyOne_link]
          exact hu.2.2 }

theorem row_joinIfComplete (s : State) (k : Nat) : s.joinIfComplete.row k = s.row k :=
  State.row_congr (table_joinIfComplete s) k

theorem number_joinIfComplete (s : State) : s.joinIfComplete.number = s.number :=
  number_of_skeleton (skeleton_joinIfComplete s)

theorem ownPair_joinIfComplete (s : State) (l : LaneId) : s.joinIfComplete.ownPair l = s.ownPair l := by
  rw [State.ownPair, number_joinIfComplete]
  rfl

theorem resting_of_joinIfComplete {s : State} (h : s.joinIfComplete.mode = .resting) : s.mode = .resting := by
  by_cases hj : s.joins
  · rw [joinIfComplete_joins hj, enterJoined_eq] at h
    cases h
  · rwa [joinIfComplete_of_not hj] at h

theorem swapSettles_joinIfComplete (h : SwapSettles s l y f b) : SwapSettles s.joinIfComplete l y f b :=
  have hrows : SameRows s s.joinIfComplete := row_joinIfComplete s
  { h with
    beside := fun hm m hne k hnames hswap => h.beside (resting_of_joinIfComplete hm) m hne k (by
      rwa [row_joinIfComplete, ownPair_joinIfComplete] at hnames) (by rwa [row_joinIfComplete] at hswap)
    wanted := fun u hu => h.wanted u fun k => (hu k).trans (hrows k)
    stays := fun u hu => h.stays u fun k => (hu k).trans (hrows k) }

theorem swapKept_joinIfComplete (h : SwapSettles s l y f b) (hs : SwapKept l y f b s) :
    SwapKept l y f b s.joinIfComplete := by
  refine ⟨?_, fun m hm => ?_, holds_joinIfComplete h.owed hs.2.2⟩
  · rw [lane_joinIfComplete]
    exact hs.1
  · rw [lane_joinIfComplete]
    exact hs.2.1 m hm

/-- The swap's lane and its frame come out of settling as they went in. -/
theorem swapKept_settle (hmode : s.mode.appliesFrames = true) (h : SwapSettles s l y f b) (hhold : ∀ k, isHoldFrame k f = false)
    (hs : SwapKept l y f b s) (c : Bool) : SwapKept l y f b (s.settle c) := by
  have kept : Kept f := ⟨h.owed, hhold⟩
  have hjoined := swapSettles_joinIfComplete h
  rw [settle_eq hmode]
  refine (settleBlocks_keeps (settleKeeps_swap hjoined (settleKeeps_true _ c) (fun m u _ _ hu => holds_holdAgain kept m hu.2.2)
    fun _ u hw _ hu => holds_sendDue kept (hjoined.wanted u hw.row hu.1) hu.2.2) ⟨trivial, swapKept_joinIfComplete h hs⟩).2.2

end

/-! ### Slots and their bytes -/

theorem byteOf_toNat (b : Byte) : byteOf b.toNat = b := BitVec.eq_of_toNat_eq (by simp [byteOf])

theorem toNat_byteOf {k : Nat} (h : k < 256) : (byteOf k).toNat = k := by
  rw [byteOf, BitVec.toNat_ofNat]
  omega

theorem byteOf_inj {j k : Nat} (hj : j < 256) (hk : k < 256) (h : byteOf j = byteOf k) : j = k := by
  rw [← toNat_byteOf hj, ← toNat_byteOf hk, h]

/-- Among the rows of a table of at most twenty, one row alone has the slot's byte. -/
theorem beside_of_row {s : State} {l : LaneId} {k : Nat} (hlength : s.table.length ≤ 20) (hk : k < s.table.length)
    (hrow : ∀ m, m ≠ l → (s.row k).names (s.ownPair m) = false ∨ (s.row k).isSwapping = true) :
    ∀ m, m ≠ l → ∀ j, (s.row j).names (s.ownPair m) = true → (s.row j).isSwapping = false → byteOf j ≠ byteOf k := by
  intro m hm j hnames hswap hbyte
  have hj : j < s.table.length := s.lt_length_of_row fun hu => by
    rw [hu] at hnames
    cases hnames
  obtain rfl := byteOf_inj (by omega) (by omega) hbyte
  rcases hrow m hm with h | h
  · rw [h] at hnames
    cases hnames
  · rw [h] at hswap
    cases hswap

theorem mem_allLanes (l : LaneId) : l ∈ allLanes := by
  revert l
  decide

theorem someLane {p : LaneId → Bool} (l : LaneId) (h : p l = true) : allLanes.any p = true :=
  List.any_eq_true.2 ⟨l, mem_allLanes l, h⟩

/-! ### A giver that has offered its swap -/

section
variable {s : State} {l : LaneId} {y : Lane} {k : Nat} {t : Term}

/-- A CARRIER lane whose SWAP-OFFER is held keeps its context through settling (R57). -/
theorem swapSettles_offering {c sb : Pair} {lc : Option Station} {a b : Nat} (hk : k < 256)
    (hrow : s.row k = .carried t c (some sb) lc) (hctx : y.ctx = .giver k t .offering a b) (hrole : y.role = .carrier)
    (hslot : y.slot = some k) (hheld : y.mark.isHeld = false)
    (hbeside : s.mode = .resting → ∀ m, m ≠ l → ∀ j, (s.row j).names (s.ownPair m) = true →
      (s.row j).isSwapping = false → byteOf j ≠ byteOf k) :
    SwapSettles s l y (.swapOffer (byteOf k) t) (byteOf k) := by
  have wanted (u : State) (hu : SameRows s u) (hl : u.lane l = y) : u.wants (.swapOffer (byteOf k) t) = true := by
    have hgiving : u.givingCarrier k = true := someLane l (by simp [hl, hrole, hslot, hctx, SwapCtx.isGiver])
    simp [State.wants, toNat_byteOf hk, hgiving, hu k, hrow]
  refine ⟨rfl, fun j hj => ?_, fun _ _ => rfl, by rw [hrole]; decide, hheld, ?_, hbeside, wanted,
    fun u hu hl hholds => ?_⟩
  · simp only [isGiverFrame, isTakerFrame, Bool.or_false, beq_iff_eq] at hj
    exact hj.symm
  · simp [Lane.available, hrole]
  · have hoffered : u.link.heldFrame (isOfferFrame k) = true := by
      rw [Holds, heldFrame_iff] at hholds
      rw [heldFrame_iff]
      have meets (q : QFrame) (hq : q.meets (· == .swapOffer (byteOf k) t) = true) : q.meets (isOfferFrame k) = true := by
        cases q with
        | fixed f =>
          rw [QFrame.meets, beq_iff_eq] at hq
          subst hq
          exact beq_self_eq_true _
        | _ => cases hq
      exact hholds.imp (fun ⟨e, he, hq⟩ => ⟨e, he, meets _ hq⟩)
        (Or.imp (fun ⟨e, he, hq⟩ => ⟨e, he, meets _ hq⟩) fun ⟨e, he, hq⟩ => ⟨e, he, meets _ hq⟩)
    have hsame : State.settleSwap l u = u := by
      simp only [State.settleSwap, hl, hctx]
      exact if_pos (.inr ⟨rfl, hoffered, wanted u hu hl⟩)
    rw [hsame]
    exact ⟨hl, hholds⟩

end

end Sys2Proof.Machine
end

section
/-! # Directives in JOINED and RESTING -/

namespace Sys2Proof.Machine

open Sys2Proof.Safety

/-! ### A directive past the selector and the directory -/

/-- The station that settles after a directive: its effect, but for the selector, a request for a REPORT, the directory. -/
structure Directed (v u : State) : Prop where
  lane : ∀ l, u.lane l = v.lane l
  row : SameRows v u
  mode : u.mode = v.mode
  number : u.number = v.number
  rollTimer : u.rollTimer = v.rollTimer
  length : u.table.length = v.table.length
  link : u.link = v.link.requestReport
  self : u.peer u.number = v.peer v.number

theorem directed_completes {s : State} {rx : Rx} {target : Byte} (h : Hears s rx) (htarget : target.toNat = s.number.val)
    (action argument : Byte) :
    ∃ u, Directed (s.heard.judge action argument).1 u
      ∧ s.completeFrame rx (.directive target action argument) = u.settle true := by
  obtain ⟨hdone, -, -⟩ := directive_completes h htarget action argument
  have htaken : s.heard.takeDirective target action argument = State.requestReport { (s.heard.judge action argument).1 with
      sel := { (s.heard.judge action argument).1.sel with outcome := (s.heard.judge action argument).2 } } := if_pos htarget
  obtain ⟨w, hw⟩ : ∃ w, w = s.heard.takeDirective target action argument := ⟨_, rfl⟩
  rw [← hw] at hdone
  have hd := directoryTake_eq w rx.sender (.directive target action argument)
  refine ⟨_, ⟨fun l => ?_, fun k => ?_, ?_, ?_, ?_, ?_, ?_, ?_⟩, hdone⟩
  · rw [hd, hw, htaken]; rfl
  · rw [hd, hw, htaken]; rfl
  · rw [hd, hw, htaken]; rfl
  · rw [hd, hw, htaken]; rfl
  · rw [hd, hw, htaken]; rfl
  · rw [hd, hw, htaken]; rfl
  · rw [hd, hw, htaken]; rfl
  · have hnumber : (w.directoryTake rx.sender (.directive target action argument)).number
        = (s.heard.judge action argument).1.number := by rw [hd, hw, htaken]; rfl
    have hsender : rx.sender ≠ BitVec.ofNat 4 (s.heard.judge action argument).1.number.val := by
      rw [number_of_skeleton (skeleton_judge _ _ _)]
      exact h.2.1
    rw [hnumber, peer_directoryTake_ne _ hsender, hw, htaken]
    rfl

theorem Holds.requestReport {f : Frame} (howed : isOwed (.fixed f) = true) {L : Link} (h : Holds f L) :
    Holds f L.requestReport := by
  rw [Link.requestReport]
  split
  · exact h
  · split
    · exact h
    · exact h.join howed _

theorem Directed.holds {v u : State} (h : Directed v u) {f : Frame} (kept : Kept f) (hf : Holds f v.link) : Holds f u.link := by
  rw [h.link]
  exact hf.requestReport kept.owed

/-! ### CLEAR -/

/-- A lane that CLEAR has cleared (R198). -/
def Lane.cleared (x : Lane) : Lane :=
  if x.state = .spent then { x.setRole .free with state := .idle, retryCount := 0 } else { x with retryCount := 0 }

theorem cleared_of_not_spent {x : Lane} (h : x.state ≠ .spent) : x.cleared = { x with retryCount := 0 } := if_neg h

/-- No loss is counted on the lane, and it is not SPENT. -/
def Lane.fresh (x : Lane) : Prop := x.retryCount = 0 ∧ x.state ≠ .spent

theorem fresh_cleared (x : Lane) : x.cleared.fresh := by
  rw [Lane.cleared]
  split
  · exact ⟨rfl, nofun⟩
  · exact ⟨rfl, ‹_›⟩

theorem fresh_release (x : Lane) : x.release.fresh := ⟨rfl, nofun⟩

theorem laneClosed_fresh (s : State) (l : LaneId) : LaneClosed s l Lane.fresh where
  release x _ _ := fresh_release x
  ctx _ _ h _ := h
  gaveUp _ x _ _ _ _ _ _ _ _ _ := fresh_release x
  unheld x y h _ hm := by
    have opened (z : Lane) (hz : z.fresh) : z.openGate.fresh := by
      rw [Lane.openGate]
      split <;> exact hz
    cases hm with
    | released => exact fresh_release x
    | carrier => exact opened _ h
    | standby => exact h
    | offers => exact opened _ h
    | gaveUp => exact fresh_release x
  bind _ x k m h _ _ := ⟨h.1, by simp [Lane.bind, Lane.enterTune]⟩

theorem settled_retryCount {x : Lane} (h : Settled x) (n : Nat) : Settled { x with retryCount := n } := h

theorem directClear_some {s : State} {argument : Byte} {l : LaneId} (h : laneOf argument = some l) :
    s.directClear argument = (s.modLane l Lane.cleared, .done) := by
  rw [State.directClear, h]
  rfl

theorem directClear_none {s : State} {argument : Byte} (h : laneOf argument = none) :
    s.directClear argument = (s, .unknownAction) := by rw [State.directClear, h]

theorem laneOf_none_iff (b : Byte) : laneOf b = none ↔ ¬b.toNat < 4 := by
  rw [laneOf]
  split <;> simp_all

/-- Settles O39. -/
theorem directiveClear : Obligations.DirectiveClear := by
  intro s rx target argument h htarget hmode
  obtain ⟨u, hu, hdone⟩ := directed_completes h htarget 0#8 argument
  obtain ⟨-, hrows, hsel⟩ := directive_completes h htarget 0#8 argument
  have hjudged : s.heard.judge 0#8 argument = s.heard.directClear argument := (judge_clear _ _).trans (if_pos hmode)
  refine ⟨_, rfl, hrows, ?_, fun l hl => ?_⟩
  · rw [hsel, hjudged]
    cases hl : laneOf argument with
    | none => rw [directClear_none hl, if_neg ((laneOf_none_iff _).1 hl)]
    | some l =>
      have hlt : argument.toNat < 4 := by
        by_contra hge
        rw [(laneOf_none_iff _).2 hge] at hl
        cases hl
      rw [directClear_some hl, if_pos hlt]
  · rw [hjudged, directClear_some hl] at hu
    have hlane : u.lane l = (s.lane l).cleared := (hu.lane l).trans (State.lane_modLane_self _ l _)
    have happlies : u.mode.appliesFrames = true := by rw [hu.mode]; exact h.1
    have hfresh : ((u.settle true).lane l).fresh := lane_settle happlies (laneClosed_fresh _ l) (by
      rw [hlane]
      exact fresh_cleared _) true
    rw [hdone]
    refine ⟨hfresh.1, hfresh.2, fun hne hsettled => ?_⟩
    rw [cleared_of_not_spent hne] at hlane
    rw [lane_settle_settled u true l (by rw [hlane]; exact settled_retryCount hsettled 0), hlane]

/-! ### YIELD -/

/-- The lane is in no role, or in a trial, with its gate closed, and not HELD. -/
def Lane.roleless (x : Lane) : Prop := (x.role = .free ∨ x.role = .trial) ∧ x.gate = false ∧ x.mark.isHeld = false

theorem roleless_release (x : Lane) : x.release.roleless := ⟨.inl rfl, rfl, rfl⟩
theorem roleless_gaveUp (x : Lane) : x.gaveUp.roleless := ⟨.inl rfl, rfl, rfl⟩

theorem laneClosed_roleless (s : State) (l : LaneId) : LaneClosed s l Lane.roleless where
  release x _ _ := roleless_release x
  ctx _ _ h _ := h
  gaveUp _ x _ _ _ _ _ _ _ _ _ := roleless_gaveUp x
  unheld x y h hh _ := by
    rw [h.2.2] at hh
    cases hh
  bind _ x k m h _ hm := by
    refine ⟨.inr rfl, by simp [Lane.bind, Lane.enterTune, Lane.setRole, h.2.1], ?_⟩
    rcases hm with ⟨rfl, -⟩ | ⟨rfl, -⟩ <;> rfl

theorem Lane.roleless.ne {x : Lane} (h : x.roleless) {r : LaneRole} (hf : r ≠ .free) (ht : r ≠ .trial) : x.role ≠ r := by
  rintro rfl
  exact h.1.elim hf ht

theorem ownNamed_own {s : State} {k : Nat} {role : CarriageRole} {p : Pair} (h : (s.row k).named role = some p)
    (hp : p.station = s.number) : s.ownNamed k role = some p.lane := by
  rw [State.ownNamed, h]
  exact if_pos hp

theorem ownNamed_other {s : State} {k : Nat} {role : CarriageRole} (h : ∀ p, (s.row k).named role = some p → p.station ≠ s.number) :
    s.ownNamed k role = none := by
  rw [State.ownNamed]
  split
  · rfl
  · exact if_neg (h _ ‹_›)

theorem pair_eq_ownPair {s : State} {p : Pair} (h : p.station = s.number) : p = s.ownPair p.lane := by
  rw [State.ownPair, ← h]

section
variable {s : State} {argument : Byte}

theorem directYield_unknownSlot (h : s.slotCount ≤ argument.toNat) : s.directYield argument = (s, .unknownSlot) := if_pos h

theorem directYield_swapping (h : argument.toNat < s.slotCount) (hswap : (s.row argument.toNat).isSwapping = true) :
    s.directYield argument = (s, .refusedBusy) := by
  rw [State.directYield]
  rw [if_neg (by omega), if_pos hswap]

theorem directYield_carrier {l : LaneId} (h : argument.toNat < s.slotCount)
    (hswap : (s.row argument.toNat).isSwapping = false) (hl : s.ownNamed argument.toNat .carrier = some l) :
    s.directYield argument = s.yieldRole argument.toNat .carrier l := by
  rw [State.directYield]
  rw [if_neg (by omega), if_neg (by simp [hswap]), hl]

theorem directYield_standby {l : LaneId} (h : argument.toNat < s.slotCount)
    (hswap : (s.row argument.toNat).isSwapping = false) (hc : s.ownNamed argument.toNat .carrier = none)
    (hl : s.ownNamed argument.toNat .standby = some l) :
    s.directYield argument = s.yieldRole argument.toNat .standby l := by
  rw [State.directYield]
  rw [if_neg (by omega), if_neg (by simp [hswap]), hc, hl]

theorem directYield_none (h : argument.toNat < s.slotCount) (hswap : (s.row argument.toNat).isSwapping = false)
    (hc : s.ownNamed argument.toNat .carrier = none) (hl : s.ownNamed argument.toNat .standby = none) :
    s.directYield argument = (s, .refusedState) := by
  rw [State.directYield]
  rw [if_neg (by omega), if_neg (by simp [hswap]), hc, hl]

end

theorem joinIfComplete_joined {s : State} (h : s.mode = .joined) : s.joinIfComplete = s :=
  joinIfComplete_of_ne (by rw [h]; decide)

/-- A CEDE that is handed over is held. -/
theorem holds_sendCede (s : State) (k : Nat) (ρ : CarriageRole) (l : LaneId) {r : CedeReason}
    (hr : ∀ fs, r ≠ .reclaimed fs) : Holds (s.cedeFrame k ρ l r) (s.sendCede k ρ l r).link :=
  holds_join (kept_cede _ _ _ _ hr).owed _

theorem holds_giveUp_cede (s : State) (k : Nat) (ρ : CarriageRole) (l : LaneId) {r : CedeReason}
    (hr : ∀ fs, r ≠ .reclaimed fs) : Holds (s.cedeFrame k ρ l r) (s.giveUp k ρ l r).link :=
  holds_sendCede (((s.releaseLane l).endCtx l).withdraw _) k ρ l hr

/-- The CEDE of a lane that has given up a role stays held through the settling, where the row names the lane in the role at the
CEDE's term. -/
theorem holds_cede_settle {u : State} (hmode : u.mode.appliesFrames = true) (hjoins : ¬u.joins) {slot : Byte} {ρ : CarriageRole}
    {t : Term} {l : LaneId} {r : CedeReason} (hr : ∀ fs, r ≠ .reclaimed fs) (hheld : (u.lane l).mark.isHeld = false)
    (hterm : (u.row slot.toNat).term = some t) (hnamed : (u.row slot.toNat).named ρ = some (u.ownPair l))
    (h : Holds (.cede slot (CarriageRole.byte ρ) t (byteOf l.val) r) u.link) (c : Bool) :
    Holds (.cede slot (CarriageRole.byte ρ) t (byteOf l.val) r) (u.settle c).link := by
  rw [settle_eq hmode, joinIfComplete_of_not hjoins]
  exact holds_cede_settleBlocks hr hheld (fun _ => ⟨hterm, ρ, by cases ρ <;> rfl, hnamed⟩) h

/-- The lane that YIELD takes out of its role: it gives the role up, and its CEDE is held (R199). -/
theorem yields {s : State} {rx : Rx} {target argument : Byte} (h : Hears s rx) (htarget : target.toNat = s.number.val)
    (hmode : s.mode = .joined) {ρ : CarriageRole} {l : LaneId} {n : Term}
    (hjudged : s.heard.directYield argument = s.heard.yieldRole argument.toNat ρ l)
    (hplays : (s.lane l).plays argument.toNat ρ = true) (hterm : (s.row argument.toNat).term = some n)
    (hnamed : (s.row argument.toNat).named ρ = some (s.ownPair l)) {t : State}
    (ht : t = s.completeFrame rx (.directive target 1#8 argument)) :
    (t.lane l).roleless ∧ Holds (.cede argument (CarriageRole.byte ρ) n (byteOf l.val) .yielded) t.link := by
  obtain ⟨u, hu, hdone⟩ := directed_completes h htarget 1#8 argument
  have hyielded : s.heard.yieldRole argument.toNat ρ l = (s.heard.giveUp argument.toNat ρ l .yielded, .done) := if_pos hplays
  rw [judge_yield, if_pos (show s.heard.mode = .joined from hmode), hjudged, hyielded] at hu
  have hlane : u.lane l = (s.lane l).gaveUp := (hu.lane l).trans (lane_giveUp s.heard _ ρ l _)
  have hw := within_giveUp s.heard argument.toNat ρ l .yielded
  have happlies : u.mode.appliesFrames = true := by rw [hu.mode, hw.mode]; exact h.1
  have hjoins : ¬u.joins := not_joins_of_mode (by rw [hu.mode, hw.mode]; rw [show s.heard.mode = .joined from hmode]; decide)
  have hrow (k : Nat) : u.row k = s.row k := (hu.row k).trans (hw.row k)
  have hsent : Holds (.cede argument (CarriageRole.byte ρ) n (byteOf l.val) .yielded) u.link := by
    refine hu.holds (kept_cede _ _ _ _ (by simp)) ?_
    have htermOf : s.heard.termOf argument.toNat = n := by
      show ((s.row argument.toNat).term).getD 0#16 = n
      rw [hterm]
      rfl
    have := holds_giveUp_cede s.heard argument.toNat ρ l (r := .yielded) (by simp)
    rw [State.cedeFrame, htermOf, byteOf_toNat] at this
    exact this
  rw [ht, hdone]
  refine ⟨lane_settle happlies (laneClosed_roleless _ l) (by rw [hlane]; exact roleless_gaveUp _) true, ?_⟩
  refine holds_cede_settle happlies hjoins (by simp) (by rw [hlane]; rfl) (by rw [hrow]; exact hterm) ?_ hsent true
  have hown : u.ownPair l = s.ownPair l := by
    rw [State.ownPair, hu.number, hw.number]
    rfl
  rw [hrow, hnamed, hown]

/-- Settles O40. -/
theorem directiveYield : Obligations.DirectiveYield := by
  intro s rx target argument h htarget hmode
  obtain ⟨-, hrows, hsel⟩ := directive_completes h htarget 1#8 argument
  have hjudged : s.heard.judge 1#8 argument = s.heard.directYield argument :=
    (judge_yield _ _).trans (if_pos (show s.heard.mode = .joined from hmode))
  have hout : (s.completeFrame rx (.directive target 1#8 argument)).sel.outcome = (s.heard.directYield argument).2 := by
    rw [hsel, hjudged]
  refine ⟨_, rfl, hrows, by rw [hsel], fun hslot => ?_, fun hslot => ⟨fun hswap => ?_, fun n c sb lc hrow => ?_, fun hopen => ?_⟩⟩
  · rw [hout, directYield_unknownSlot (s := s.heard) hslot]
  · rw [hout, directYield_swapping (s := s.heard) hslot hswap]
  · have hswap : (s.heard.row argument.toNat).isSwapping = false := by
      show (s.row argument.toNat).isSwapping = false
      rw [hrow]
      rfl
    have hcarrier : (s.heard.row argument.toNat).named .carrier = some c := by
      show (s.row argument.toNat).named .carrier = some c
      rw [hrow]
      rfl
    have hstandby : (s.heard.row argument.toNat).named .standby = sb := by
      show (s.row argument.toNat).named .standby = sb
      rw [hrow]
      rfl
    have hterm : (s.row argument.toNat).term = some n := by rw [hrow]; rfl
    have outcome (ρ : CarriageRole) (l : LaneId) := yieldRole_outcome s.heard argument.toNat ρ l
    have ofCarrier (hc : c.station = s.number) :
        s.heard.directYield argument = s.heard.yieldRole argument.toNat .carrier c.lane :=
      directYield_carrier hslot hswap (ownNamed_own hcarrier hc)
    have noCarrier (hc : c.station ≠ s.number) : s.heard.ownNamed argument.toNat .carrier = none :=
      ownNamed_other fun p hp => by
        rw [hcarrier] at hp
        obtain rfl := Option.some.inj hp
        exact hc
    have ofStandby {p : Pair} (hp : sb = some p) (hc : c.station ≠ s.number) (hstation : p.station = s.number) :
        s.heard.directYield argument = s.heard.yieldRole argument.toNat .standby p.lane :=
      directYield_standby hslot hswap (noCarrier hc) (ownNamed_own (hstandby.trans hp) hstation)
    refine ⟨fun hc hnot => ?_, fun hc hplays => ?_, fun p hp hc hstation => ⟨fun hnot => ?_, fun hplays => ?_⟩,
      fun hc hother => ?_⟩
    · rw [hout, ofCarrier hc, outcome, if_neg (by rw [show (s.heard.lane c.lane).plays argument.toNat .carrier = false from hnot]
                                                  decide)]
      rfl
    · have hplays : (s.lane c.lane).plays argument.toNat .carrier = true := hplays
      obtain ⟨hlane, hcede⟩ := yields h htarget hmode (ofCarrier hc) hplays hterm
        (hcarrier.trans (congrArg some (pair_eq_ownPair hc))) rfl
      refine ⟨?_, hlane.ne (by decide) (by decide), hlane.2.1, hcede⟩
      rw [hout, ofCarrier hc, outcome]
      exact if_pos hplays
    · rw [hout, ofStandby hp hc hstation, outcome,
        if_neg (by rw [show (s.heard.lane p.lane).plays argument.toNat .standby = false from hnot]
                   decide)]
      rfl
    · have hplays : (s.lane p.lane).plays argument.toNat .standby = true := hplays
      obtain ⟨hlane, hcede⟩ := yields h htarget hmode (ofStandby hp hc hstation) hplays hterm
        ((hstandby.trans hp).trans (congrArg some (pair_eq_ownPair hstation))) rfl
      refine ⟨?_, hlane.ne (by decide) (by decide), hlane.2.1, hcede⟩
      rw [hout, ofStandby hp hc hstation, outcome]
      exact if_pos hplays
    · rw [hout, directYield_none (s := s.heard) hslot hswap (noCarrier hc) (ownNamed_other fun p hp => hother p (hstandby.symm.trans hp))]
  · cases hrow : s.row argument.toNat with
    | opened n lc m =>
      have hnone (ρ : CarriageRole) : s.heard.ownNamed argument.toNat ρ = none := ownNamed_other fun p hp => by
        have hp : (s.row argument.toNat).named ρ = some p := hp
        rw [hrow] at hp
        cases ρ <;> cases hp
      have hswap : (s.heard.row argument.toNat).isSwapping = false := by
        show (s.row argument.toNat).isSwapping = false
        rw [hrow]
        rfl
      rw [hout, directYield_none (s := s.heard) hslot hswap (hnone _) (hnone _)]
    | _ =>
      rw [hrow] at hopen
      cases hopen

end Sys2Proof.Machine
end

section
/-! # SWAP, REST and RESUME -/

namespace Sys2Proof.Machine

open Sys2Proof.Safety

/-! ### SWAP -/

/-- What SWAP does for a lane that the row names as carrier, its CEDE not queued (R200). -/
def State.swapNamed (s : State) (k : Nat) (l : LaneId) : State × DirOutcome :=
  if (s.row k).standby = none ∨ s.termOf k = 0xFFFF#16 then (s, .refusedState)
  else if !(s.lane l).carries k || (s.lane l).ctx.isGiver k then (s, .done)
  else (s.offerSwap k l, .done)

section
variable {s : State} {argument : Byte}

theorem directSwap_unknownSlot (h : s.slotCount ≤ argument.toNat) : s.directSwap argument = (s, .unknownSlot) := if_pos h

theorem directSwap_swapping (h : argument.toNat < s.slotCount) (hswap : (s.row argument.toNat).isSwapping = true) :
    s.directSwap argument = (s, .refusedBusy) := by
  rw [State.directSwap]
  rw [if_neg (by omega), if_pos hswap]

theorem directSwap_none (h : argument.toNat < s.slotCount) (hswap : (s.row argument.toNat).isSwapping = false)
    (hc : s.ownNamed argument.toNat .carrier = none) : s.directSwap argument = (s, .refusedState) := by
  rw [State.directSwap]
  rw [if_neg (by omega), if_neg (by simp [hswap]), hc]

theorem directSwap_named {l : LaneId} (h : argument.toNat < s.slotCount)
    (hswap : (s.row argument.toNat).isSwapping = false) (hl : s.ownNamed argument.toNat .carrier = some l) :
    s.directSwap argument = if (!(s.lane l).carries argument.toNat && s.cedePends argument.toNat l) = true then
      (s, .refusedBusy) else s.swapNamed argument.toNat l := by
  rw [State.directSwap]
  rw [if_neg (by omega), if_neg (by simp [hswap]), hl]
  rfl

theorem swapNamed_refused {k : Nat} {l : LaneId} (h : (s.row k).standby = none ∨ s.termOf k = 0xFFFF#16) :
    s.swapNamed k l = (s, .refusedState) := if_pos h

theorem swapNamed_outcome {k : Nat} (l : LaneId) (h : ¬((s.row k).standby = none ∨ s.termOf k = 0xFFFF#16)) :
    (s.swapNamed k l).2 = .done := by
  rw [State.swapNamed, if_neg h]
  split <;> rfl

theorem swapNamed_offers {k : Nat} {l : LaneId} (h : ¬((s.row k).standby = none ∨ s.termOf k = 0xFFFF#16))
    (hcarries : (s.lane l).carries k = true) (hctx : (s.lane l).ctx = .none) :
    s.swapNamed k l = (s.offerSwap k l, .done) := by
  rw [State.swapNamed, if_neg h, if_neg]
  simp [hcarries, hctx, SwapCtx.isGiver]

end

theorem holds_offerSwap (s : State) (k : Nat) (l : LaneId) :
    Holds (.swapOffer (byteOf k) (s.termOf k)) (s.offerSwap k l).link :=
  holds_join rfl _

/-- A CARRIER that opens a GIVER context, beside lanes in no swap for the slot, keeps it and its SWAP-OFFER through settling (R57). -/
theorem swapKept_offering {u : State} (hmode : u.mode.appliesFrames = true) {l : LaneId} {k : Nat} {t : Term} {c sb : Pair}
    {lc : Option Station} {a b : Nat} (hk : k < 256) (hrow : u.row k = .carried t c (some sb) lc)
    (hctx : (u.lane l).ctx = .giver k t .offering a b) (hrole : (u.lane l).role = .carrier)
    (hslot : (u.lane l).slot = some k) (hheld : (u.lane l).mark.isHeld = false)
    (hbeside : u.mode = .resting → ∀ m, m ≠ l → ∀ j, (u.row j).names (u.ownPair m) = true →
      (u.row j).isSwapping = false → byteOf j ≠ byteOf k)
    (hothers : ∀ m, m ≠ l → (u.lane m).apart (byteOf k)) (hsent : Holds (.swapOffer (byteOf k) t) u.link) (cpl : Bool) :
    (u.settle cpl).lane l = u.lane l ∧ Holds (.swapOffer (byteOf k) t) (u.settle cpl).link := by
  have hkept := swapKept_settle hmode (swapSettles_offering hk hrow hctx hrole hslot hheld hbeside)
    (fun _ => rfl) ⟨rfl, hothers, hsent⟩ cpl
  exact ⟨hkept.1, hkept.2.2⟩

/-- Settles O41. -/
theorem directiveSwap : Obligations.DirectiveSwap := by
  intro s rx target argument h htarget hmode
  obtain ⟨-, hrows, hsel⟩ := directive_completes h htarget 2#8 argument
  have hjoined : s.heard.mode = .joined := hmode
  have hjudged : s.heard.judge 2#8 argument = s.heard.directSwap argument := (judge_swap _ _).trans (if_pos hjoined)
  have hout : (s.completeFrame rx (.directive target 2#8 argument)).sel.outcome = (s.heard.directSwap argument).2 := by
    rw [hsel, hjudged]
  refine ⟨_, rfl, hrows, by rw [hsel], fun hslot => ?_, fun hslot => ⟨fun hswap => ?_, fun n c sb lc hrow => ?_, fun hopen => ?_⟩⟩
  · rw [hout, directSwap_unknownSlot (s := s.heard) hslot]
  · rw [hout, directSwap_swapping (s := s.heard) hslot hswap]
  · have hheard : s.heard.row argument.toNat = .carried n c sb lc := hrow
    have hswap : (s.heard.row argument.toNat).isSwapping = false := by rw [hheard]; rfl
    have hcarrier : (s.heard.row argument.toNat).named .carrier = some c := by rw [hheard]; rfl
    have hterm : s.heard.termOf argument.toNat = n := by rw [State.termOf, hheard]; rfl
    have hstandby : (s.heard.row argument.toNat).standby = sb := by rw [hheard]; rfl
    have named (hc : c.station = s.number) := directSwap_named (s := s.heard) (argument := argument) hslot hswap
      (ownNamed_own hcarrier hc)
    have judgedOn (hc : c.station = s.number) (hfree : (s.lane c.lane).carries argument.toNat = true
        ∨ s.link.queued (isCedeOf argument.toNat c.lane) = false) :
        s.heard.directSwap argument = s.heard.swapNamed argument.toNat c.lane := by
      rw [named hc, if_neg]
      rw [Bool.and_eq_true, Bool.not_eq_true']
      rintro ⟨hcarries, hpends⟩
      rcases hfree with hfree | hfree
      · rw [show (s.heard.lane c.lane).carries argument.toNat = true from hfree] at hcarries
        cases hcarries
      · rw [show s.heard.cedePends argument.toNat c.lane = false from hfree] at hpends
        cases hpends
    refine ⟨fun hc => ?_, fun hc hcarries hpends => ?_, fun hc hfree hnot => ?_, fun hc hfree hsb hn => ?_⟩
    · rw [hout, directSwap_none (s := s.heard) hslot hswap (ownNamed_other fun p hp => by
        rw [hcarrier] at hp
        obtain rfl := Option.some.inj hp
        exact hc)]
    · rw [hout, named hc, if_pos]
      rw [show (s.heard.lane c.lane).carries argument.toNat = false from hcarries,
        show s.heard.cedePends argument.toNat c.lane = true from hpends]
      rfl
    · rw [hout, judgedOn hc hfree, swapNamed_refused (by rwa [hstandby, hterm])]
    · have hallowed : ¬((s.heard.row argument.toNat).standby = none ∨ s.heard.termOf argument.toNat = 0xFFFF#16) := by
        rw [hstandby, hterm]
        rintro (hnone | hmax)
        · rw [hnone] at hsb
          cases hsb
        · exact hn hmax
      refine ⟨by rw [hout, judgedOn hc hfree, swapNamed_outcome _ hallowed], fun hrole hlslot hctx hheld hothers => ?_⟩
      obtain ⟨sb, rfl⟩ := Option.isSome_iff_exists.1 hsb
      have hcarries : (s.heard.lane c.lane).carries argument.toNat = true := by
        show (s.lane c.lane).carries argument.toNat = true
        simp [Lane.carries, hrole, hlslot]
      obtain ⟨u, hu, hdone⟩ := directed_completes h htarget 2#8 argument
      rw [hjudged, judgedOn hc hfree, swapNamed_offers hallowed hcarries hctx] at hu
      have hw := within_offerSwap s.heard argument.toNat c.lane
      have hlane : u.lane c.lane = { s.lane c.lane with ctx := .giver argument.toNat n .offering 0 0 } := by
        rw [hu.lane, lane_offerSwap, hterm]
        rfl
      have humode : u.mode = .joined := (hu.mode.trans hw.mode).trans hjoined
      have hurow : u.row argument.toNat = .carried n c (some sb) lc := ((hu.row _).trans (hw.row _)).trans hheard
      have hsent : Holds (.swapOffer (byteOf argument.toNat) n) u.link := by
        have := holds_offerSwap s.heard argument.toNat c.lane
        rw [hterm] at this
        exact hu.holds ⟨rfl, fun _ => rfl⟩ this
      have hapart (m : LaneId) (hm : m ≠ c.lane) : (u.lane m).apart (byteOf argument.toNat) := by
        refine apart_none ?_
        rw [hu.lane, lane_offerSwap_ne s.heard _ hm]
        exact hothers m hm
      obtain ⟨hkept, hholds⟩ := swapKept_offering (by rw [humode]; rfl) argument.isLt hurow (by rw [hlane])
        (by rw [hlane]; exact hrole) (by rw [hlane]; exact hlslot) (by rw [hlane]; exact hheld)
        (fun hr => by rw [humode] at hr; cases hr) hapart hsent true
      rw [byteOf_toNat] at hholds
      rw [hdone, hkept, hlane]
      exact ⟨rfl, hrole, rfl, hholds⟩
  · cases hrow : s.row argument.toNat with
    | opened n lc m =>
      have hheard : s.heard.row argument.toNat = .opened n lc m := hrow
      rw [hout, directSwap_none (s := s.heard) hslot (by rw [hheard]; rfl) (ownNamed_other fun p hp => by
        rw [hheard] at hp
        cases hp)]
    | _ =>
      rw [hrow] at hopen
      cases hopen

/-! ### REST -/

theorem within_restLane (l : LaneId) (s : State) : Within s (State.restLane l s) := by
  simp only [State.restLane]
  split
  · exact within_dropTrial s l
  · exact within_drainLane s _ l
  · exact within_drainLane s _ l
  · split
    · exact .refl s
    · exact .refl s
    · exact (((within_withdraw s _).trans (within_modLane _ l _)).trans (within_setCtx _ l _)).trans (within_send _ _)
  · exact .refl s

theorem lane_restLane_ne {l m : LaneId} (s : State) (h : m ≠ l) : (State.restLane l s).lane m = s.lane m := by
  simp only [State.restLane]
  split
  · exact lane_dropTrial_ne s h
  · exact lane_drainLane_ne s _ h
  · exact lane_drainLane_ne s _ h
  · split
    · rfl
    · rfl
    · rw [lane_send, lane_setCtx_ne _ _ h, lane_releaseLane_ne _ h, lane_withdraw]
  · rfl

theorem nodup_allLanes : allLanes.Nodup := by decide

/-- A loop over the lanes, each step of which changes its own lane alone, changes a lane in the step for it. -/
theorem lane_forLanes {f : LaneId → State → State} (hw : ∀ l u, Within u (f l u))
    (hne : ∀ l m u, m ≠ l → (f l u).lane m = u.lane m) (s : State) (l : LaneId) :
    ∃ u, Within s u ∧ u.lane l = s.lane l ∧ (s.forLanes f).lane l = (f l u).lane l := by
  have loop (ls : List LaneId) (hls : ls.Nodup) (u : State) :
      (l ∉ ls → (ls.foldl (fun s l => f l s) u).lane l = u.lane l)
        ∧ (l ∈ ls → ∃ v, Within u v ∧ v.lane l = u.lane l ∧ (ls.foldl (fun s l => f l s) u).lane l = (f l v).lane l) := by
    induction ls generalizing u with
    | nil => exact ⟨fun _ => rfl, nofun⟩
    | cons m ms ih =>
      rw [List.nodup_cons] at hls
      obtain ⟨hout, hin⟩ := ih hls.2 (f m u)
      refine ⟨fun h => ?_, fun h => ?_⟩
      · rw [List.mem_cons, not_or] at h
        rw [List.foldl_cons, hout h.2, hne m l u h.1]
      · by_cases hm : l = m
        · subst hm
          exact ⟨u, .refl u, rfl, by rw [List.foldl_cons, hout hls.1]⟩
        · obtain ⟨v, hv, hlane, hlast⟩ := hin ((List.mem_cons.1 h).resolve_left hm)
          exact ⟨v, (hw m u).trans hv, by rw [hlane, hne m l u hm], by rw [List.foldl_cons, hlast]⟩
  exact (loop allLanes nodup_allLanes s).2 (mem_allLanes l)

/-- The lane is FREE and IDLE, unbound, its gate closed. -/
def Lane.idleFree (x : Lane) : Prop :=
  x.role = .free ∧ x.slot = none ∧ x.state = .idle ∧ x.gate = false ∧ x.mark = .none

theorem laneClosed_idleFree {s : State} {l : LaneId} (h : s.claimActive = false) : LaneClosed s l Lane.idleFree where
  release x hx ht := by rw [hx.1] at ht; cases ht
  ctx _ _ hx _ := hx
  gaveUp _ x _ _ _ _ _ _ _ _ _ := ⟨rfl, rfl, rfl, rfl, rfl⟩
  unheld x y hx hh _ := by rw [hx.2.2.2.2] at hh; cases hh
  bind ha _ _ _ _ _ _ := by rw [h] at ha; cases ha

theorem idleFree_release (x : Lane) : x.release.idleFree := ⟨rfl, rfl, rfl, rfl, rfl⟩
theorem idleFree_gaveUp (x : Lane) : x.gaveUp.idleFree := ⟨rfl, rfl, rfl, rfl, rfl⟩

section
variable {u : State} {l : LaneId}

theorem restLane_trial (h : (u.lane l).role = .trial) : (State.restLane l u).lane l = (u.lane l).release := by
  simp only [State.restLane, h]
  exact lane_dropTrial u l

theorem restLane_standby {k : Nat} (h : (u.lane l).role = .standby) (hslot : (u.lane l).slot = some k) :
    (State.restLane l u).lane l = (u.lane l).gaveUp := by
  have hdrain : u.drainLane k l = u.giveUp k .standby l .resting := by rw [State.drainLane, h]
  simp only [State.restLane, h, hslot]
  rw [hdrain]
  exact lane_giveUp u k _ l _

theorem restLane_carrier {k : Nat} (h : (u.lane l).role = .carrier) (hslot : (u.lane l).slot = some k)
    (hctx : (u.lane l).ctx = .none) (hrow : (u.row k).standby = none ∨ u.termOf k = 0xFFFF#16) :
    (State.restLane l u).lane l = (u.lane l).gaveUp := by
  have hdrain : u.drainLane k l = u.giveUp k .carrier l .resting := by
    rw [State.drainLane, h]
    refine if_neg ?_
    rintro ⟨hsome, hterm⟩
    rcases hrow with hrow | hrow
    · rw [hrow] at hsome
      cases hsome
    · exact hterm hrow
  simp only [State.restLane, h, hslot, hctx]
  rw [hdrain]
  exact lane_giveUp u k _ l _

end

/-- The station as REST finds its lanes. -/
def State.toRest (s : State) : State := (State.requestRoll { s with mode := .resting }).withdraw isQuiet

theorem enterResting_eq (s : State) : s.enterResting = s.toRest.forLanes State.restLane := rfl

theorem claimActive_of_ne {s : State} (h : s.mode ≠ .joined) : s.claimActive = false := by
  simp [State.claimActive, h]

theorem directResume_of_resting {s : State} (h : (s.peer s.number).mode = some .resting) :
    s.directResume = (s.enterJoined, .done) := if_pos h

theorem directResume_busy {s : State} (h : (s.peer s.number).mode ≠ some .resting) :
    s.directResume = (s, .refusedBusy) := if_neg h

/-- Settles O42. -/
theorem directiveRestAndResume : Obligations.DirectiveRestAndResume := by
  intro s rx target argument h htarget
  refine ⟨fun hmode => ?_, fun hmode => ?_⟩
  · obtain ⟨u, hu, hdone⟩ := directed_completes h htarget 3#8 argument
    obtain ⟨-, hrows, hsel⟩ := directive_completes h htarget 3#8 argument
    have hjoined : s.heard.mode = .joined := hmode
    have hjudged : s.heard.judge 3#8 argument = (s.heard.enterResting, .done) :=
      (judge_rest _ _).trans (if_pos hjoined)
    rw [hjudged] at hu hsel
    have hw : Within s.heard.toRest s.heard.enterResting := within_forLanes _ within_restLane _
    have humode : u.mode = .resting := hu.mode.trans hw.mode
    have hjoins : ¬u.joins := not_joins_of_mode (by rw [humode]; decide)
    have hsettled := within_settle hjoins true
    refine ⟨_, rfl, hrows, ?_, hsel, ?_, fun l hheld => ?_⟩
    · rw [hdone, hsettled.mode, humode]
    · rw [hdone, hsettled.rollTimer, hu.rollTimer]
      exact hw.rollTimer
    · have rests (hidle : ∀ v, Within s.heard.toRest v → v.lane l = s.lane l → ((State.restLane l v).lane l).idleFree) :
          ((s.completeFrame rx (.directive target 3#8 argument)).lane l).idleFree := by
        obtain ⟨v, hv, hvl, hlast⟩ := lane_forLanes within_restLane (fun l m u h => lane_restLane_ne u h) s.heard.toRest l
        have hlane : (u.lane l).idleFree := by
          rw [hu.lane]
          show (s.heard.enterResting.lane l).idleFree
          rw [enterResting_eq, hlast]
          exact hidle v hv hvl
        rw [hdone]
        refine lane_settle (by rw [humode]; rfl) ?_ hlane true
        rw [joinIfComplete_of_not hjoins]
        exact laneClosed_idleFree (claimActive_of_ne (by rw [humode]; decide))
      refine ⟨fun hrole => ?_, fun k hrole hslot => ?_, fun k hrole hslot hctx hrow => ?_⟩
      · obtain ⟨h1, h2, h3, -⟩ := rests fun v _ hv => by
          rw [restLane_trial (by rw [hv]; exact hrole)]
          exact idleFree_release _
        exact ⟨h1, h2, h3⟩
      · obtain ⟨h1, h2, h3, h4, -⟩ := rests fun v _ hv => by
          rw [restLane_standby (k := k) (by rw [hv]; exact hrole) (by rw [hv]; exact hslot)]
          exact idleFree_gaveUp _
        exact ⟨h1, h2, h3, h4⟩
      · obtain ⟨h1, h2, h3, h4, -⟩ := rests fun v hvw hv => by
          have hvrow : v.row k = s.row k := hvw.row k
          rw [restLane_carrier (k := k) (by rw [hv]; exact hrole) (by rw [hv]; exact hslot) (by rw [hv]; exact hctx)
            (by rw [State.termOf, hvrow]; exact hrow)]
          exact idleFree_gaveUp _
        exact ⟨h1, h2, h3, h4⟩
  · obtain ⟨u, hu, hdone⟩ := directed_completes h htarget 4#8 argument
    obtain ⟨-, hrows, hsel⟩ := directive_completes h htarget 4#8 argument
    have hresting : s.heard.mode = .resting := hmode
    have hjudged : s.heard.judge 4#8 argument = s.heard.directResume := (judge_resume _ _).trans (if_pos hresting)
    rw [hjudged] at hu hsel
    refine ⟨_, rfl, hrows, fun hself => ?_, fun hself => ?_⟩
    · rw [directResume_of_resting (s := s.heard) hself] at hu hsel
      have humode : u.mode = .joined := by rw [hu.mode, enterJoined_eq]
      have hsettled := within_settle (s := u) (not_joins_of_mode (by rw [humode]; decide)) true
      refine ⟨?_, hsel, ?_⟩
      · rw [hdone, hsettled.mode, humode]
      · rw [hdone, hsettled.rollTimer, hu.rollTimer, enterJoined_eq]
    · rw [directResume_busy (s := s.heard) hself] at hu hsel
      have humode : u.mode = .resting := hu.mode.trans hresting
      refine ⟨?_, hsel⟩
      rw [hdone, mode_settle (not_joins_of_mode (by rw [humode]; decide)), humode]

end Sys2Proof.Machine
end

section
/-! # SWAP-OFFER and SWAP-READY -/

namespace Sys2Proof.Machine

open Sys2Proof.Safety

/-! ### A frame that reaches the table -/

/-- The station that settles after a frame: what the frame does, but for the directory and the join quiet timer. -/
structure Taken (a w : State) : Prop where
  eq : w = { a with dir := w.dir, joinQuiet := w.joinQuiet }
  self : w.peer w.number = a.peer a.number

section
variable {a w : State} (h : Taken a w)
include h

theorem Taken.lanes : w.lanes = a.lanes := (congrArg State.lanes h.eq :)
theorem Taken.table : w.table = a.table := (congrArg State.table h.eq :)
theorem Taken.link : w.link = a.link := (congrArg State.link h.eq :)
theorem Taken.mode : w.mode = a.mode := (congrArg State.mode h.eq :)
theorem Taken.number : w.number = a.number := (congrArg State.number h.eq :)
theorem Taken.joinMark : w.joinMark = a.joinMark := (congrArg State.joinMark h.eq :)
theorem Taken.plan : w.plan = a.plan := (congrArg State.plan h.eq :)
theorem Taken.lane (l : LaneId) : w.lane l = a.lane l := State.lane_congr h.lanes l
theorem Taken.row (k : Nat) : w.row k = a.row k := State.row_congr h.table k
theorem Taken.loc (k : Nat) : w.loc k = a.loc k := State.loc_congr h.table k
theorem Taken.length : w.table.length = a.table.length := congrArg List.length h.table
theorem Taken.ownPair (l : LaneId) : w.ownPair l = a.ownPair l := by rw [State.ownPair, h.number]; rfl
theorem Taken.claimActive : w.claimActive = a.claimActive := by rw [State.claimActive, h.mode, h.self]; rfl
theorem Taken.slotRec (k : Nat) : w.slotRec k = a.slotRec k := by rw [State.slotRec, State.slots, h.plan]; rfl

end

theorem frame_completes {s : State} {rx : Rx} {f : Frame} {x : Station} (h : Applies s rx f x) (hf : isCarriage f = true) :
    ∃ v w, Met s x v ∧ v.mayAct (BitVec.ofNat 4 x.val) = some x ∧ Taken (v.actOn (BitVec.ofNat 4 x.val) f) w
      ∧ s.completeFrame rx f = w.settle true := by
  have hroll (b : RollBody) : f ≠ .roll b := by
    rintro rfl
    cases hf
  obtain ⟨v, hv, hdone⟩ := completeFrame_of_applies' h hroll
  refine ⟨v, _, hv, met_mayAct h hv, ⟨directoryTake_eq _ _ f, ?_⟩, hdone⟩
  have hnumber : ((v.actOn (BitVec.ofNat 4 x.val) f).directoryTake (BitVec.ofNat 4 x.val) f).number
      = (v.actOn (BitVec.ofNat 4 x.val) f).number := by rw [directoryTake_eq]
  rw [hnumber]
  by_cases hx : BitVec.ofNat 4 x.val = (v.actOn (BitVec.ofNat 4 x.val) f).sender
  · rw [directoryTake_own hx]
  · exact peer_directoryTake_ne _ hx f

section
variable {s v : State} {x : Station} (h : Met s x v)
include h

theorem Met.lane (l : LaneId) : v.lane l = s.lane l := h.only.lane l
theorem Met.row (k : Nat) : v.row k = s.row k := h.only.row k
theorem Met.number : v.number = s.number := h.only.inner.number
theorem Met.mode : v.mode = s.mode := h.only.inner.mode
theorem Met.length : v.table.length = s.table.length := congrArg List.length h.only.table
theorem Met.ownPair (l : LaneId) : v.ownPair l = s.ownPair l := h.only.inner.ownPair l

end

/-! ### Lanes that settling leaves as they are -/

/-- A lane in no trial and not HELD, its swap context standing, that is not to be bound stays. -/
theorem laneClosed_fixed {s : State} {l : LaneId} {y : Lane} (htrial : y.role ≠ .trial) (hheld : y.mark.isHeld = false)
    (hctx : ∀ c, ¬CtxMove s y.ctx c) (hbind : y.available = false) : LaneClosed s l (· = y) where
  release x hx ht := absurd (hx ▸ ht) htrial
  ctx x c hx hm := absurd (hx ▸ hm) (hctx c)
  gaveUp _ x k t st a b hx hc he _ := by
    rw [hx] at hc
    exact absurd (hc ▸ CtxMove.giverEnds k t st a b he) (hctx .none)
  unheld x _ hx hh _ := by rw [hx, hheld] at hh; cases hh
  bind _ x _ _ hx hav _ := by rw [hx, hbind] at hav; cases hav

/-- A swap context that stands stays, whatever becomes of a lane that is not HELD. -/
theorem laneClosed_ctx {s : State} {l : LaneId} {c : SwapCtx} (hctx : ∀ c', ¬CtxMove s c c') :
    LaneClosed s l fun x => x.ctx = c ∧ x.mark.isHeld = false where
  release _ hx _ := ⟨hx.1, rfl⟩
  ctx x c' hx hm := absurd (hx.1 ▸ hm) (hctx c')
  gaveUp _ x k t st a b hx hc he _ := by
    rw [hx.1] at hc
    exact absurd (hc ▸ CtxMove.giverEnds k t st a b he) (hctx .none)
  unheld x _ hx hh _ := by rw [hx.2] at hh; cases hh
  bind _ x k m hx _ hm := ⟨hx.1, by rcases hm with ⟨rfl, -⟩ | ⟨rfl, -⟩ <;> rfl⟩

theorem swappingAt_of_row {s : State} {k : Nat} {t : Term} {c sb : Pair} {lc : Option Station} {ph : SwapPhase}
    (h : s.row k = .swapping t c sb lc ph) (p : SwapPhase → Bool) : s.swappingAt k t p = p ph := by
  rw [State.swappingAt, h]
  simp

theorem no_move_giver {s : State} {k : Nat} {t : Term} (h : s.swappingAt k t (fun _ => true) = true) (st : GiverStage)
    (a b : Nat) (c : SwapCtx) : ¬CtxMove s (.giver k t st a b) c := by
  intro hm
  cases hm with
  | giverEnds _ _ _ _ _ he =>
    rw [h] at he
    cases he

theorem no_move_taker {s : State} {k : Nat} {t : Term} (h : s.swappingAt k t (fun _ => true) = true) {st : TakerStage}
    (hst : st ≠ .readied ∨ s.swappingAt k t SwapPhase.isOffered = false) (al : Option Nat) (c : SwapCtx) :
    ¬CtxMove s (.taker k t st al) c := by
  intro hm
  cases hm with
  | takerEnds _ _ _ _ he =>
    rw [h] at he
    cases he
  | unready _ _ _ he =>
    rcases hst with hst | hst
    · exact hst rfl
    · rw [hst] at he
      cases he

/-! ### SWAP-OFFER -/

/-- A STANDBY lane that becomes TAKER (R58, R65). -/
def Lane.takes (k : Nat) (t : Term) (x : Lane) : Lane :=
  { x.setRole .taker with
    traceNo := x.traceNo + 1, taker := some { trace := [], aligned := false, feeding := true },
    ctx := .taker k t .seeking (some 2000) }

/-- The standby's side of an accepted SWAP-OFFER. -/
def State.takesOffer (s : State) (k : Nat) (t : Term) (sb : Pair) : State :=
  if sb.station = s.number ∧ s.mode.holdsRoles = true ∧ (s.lane sb.lane).role = .standby ∧ (s.lane sb.lane).slot = some k then
    s.modLane sb.lane (Lane.takes k t)
  else s

section
variable {v : State} {sender : BitVec 4} {x : Station} {slot : Byte} {term : Term} (hx : v.mayAct sender = some x)
include hx

theorem takeOffer_accepted {c sb : Pair} {lc : Option Station} (hrow : v.row slot.toNat = .carried term c (some sb) lc)
    (hc : c.station = x) :
    v.takeOffer sender slot term
      = (v.putRow slot.toNat (.swapping term c sb lc .offered)).takesOffer slot.toNat term sb := by
  simp only [State.takeOffer, hx, hrow, hc, and_self, if_true]
  rfl

theorem takeOffer_ignored (hnot : ¬∃ c sb lc, v.row slot.toNat = .carried term c (some sb) lc ∧ c.station = x) :
    v.takeOffer sender slot term = v := by
  simp only [State.takeOffer, hx]
  split
  · rename_i y t c sb lc hy hrow
    obtain rfl := Option.some.inj hy
    refine if_neg ?_
    rintro ⟨hc, rfl⟩
    exact hnot ⟨c, sb, lc, hrow, hc⟩
  · rfl

end

theorem row_takesOffer (s : State) (k : Nat) (t : Term) (sb : Pair) (j : Nat) : (s.takesOffer k t sb).row j = s.row j := by
  rw [State.takesOffer]
  split <;> rfl

/-! ### SWAP-READY -/

/-- The giver's side of an accepted SWAP-READY (R71). -/
def State.goes (s : State) (slot : Byte) (t : Term) (c : Pair) : State :=
  match (s.lane c.lane).ctx with
  | .giver k' t' .offering _ _ =>
    if c.station = s.number ∧ k' = slot.toNat ∧ t' = t then
      (s.setCtx c.lane (.giver slot.toNat t .going 0 0)).send (.swapGo slot t (byteOf s.drainCount))
    else s
  | _ => s

theorem goes_offering {s : State} {slot : Byte} {t : Term} {c : Pair} {a b : Nat} (hc : c.station = s.number)
    (hctx : (s.lane c.lane).ctx = .giver slot.toNat t .offering a b) :
    s.goes slot t c = (s.setCtx c.lane (.giver slot.toNat t .going 0 0)).send (.swapGo slot t (byteOf s.drainCount)) := by
  simp only [State.goes, hctx, hc, and_self, if_true]

theorem within_goes (s : State) (slot : Byte) (t : Term) (c : Pair) : Within s (s.goes slot t c) := by
  rw [State.goes]
  split
  · exact within_ite ((within_setCtx s _ _).trans (within_send _ _)) (.refl s)
  · exact .refl s

section
variable {v : State} {sender : BitVec 4} {x : Station} {slot : Byte} {term : Term} (hx : v.mayAct sender = some x)
include hx

theorem takeReady_accepted {c sb : Pair} {lc : Option Station} (hrow : v.row slot.toNat = .swapping term c sb lc .offered)
    (hsb : sb.station = x) :
    v.takeReady sender slot term = (v.putRow slot.toNat (.swapping term c sb lc .ready)).goes slot term c := by
  simp only [State.takeReady, hx, hrow, hsb, and_self, if_true]
  rfl

theorem takeReady_ignored (hnot : ¬∃ c sb lc, v.row slot.toNat = .swapping term c sb lc .offered ∧ sb.station = x) :
    v.takeReady sender slot term = v := by
  simp only [State.takeReady, hx]
  split
  · rename_i y t c sb lc hy hrow
    obtain rfl := Option.some.inj hy
    refine if_neg ?_
    rintro ⟨hsb, rfl⟩
    exact hnot ⟨c, sb, lc, hrow, hsb⟩
  · rfl

end

/-- A giver in GOING on a row in phase READY keeps its context and its SWAP-GO through settling (R64, R71). -/
theorem swapSettles_going {s : State} {l : LaneId} {y : Lane} {slot dc : Byte} {t : Term} {c sb : Pair}
    {lc : Option Station} (hrow : s.row slot.toNat = .swapping t c sb lc .ready)
    (hctx : y.ctx = .giver slot.toNat t .going 0 0) (hrole : y.role = .carrier) (hslot : y.slot = some slot.toNat)
    (hheld : y.mark.isHeld = false) (hlength : s.table.length ≤ 20) : SwapSettles s l y (.swapGo slot t dc) slot := by
  have hk : slot.toNat < s.table.length := s.lt_length_of_row (by rw [hrow]; nofun)
  have hbeside := beside_of_row (l := l) hlength hk fun m _ => .inr (by rw [hrow]; rfl)
  rw [byteOf_toNat] at hbeside
  refine ⟨rfl, fun j hj => ?_, fun _ _ => rfl, by rw [hrole]; decide, hheld, by simp [Lane.available, hrole],
    fun _ => hbeside, fun u hu hl => ?_, fun u hu hl hholds => ?_⟩
  · simp only [isGiverFrame, isTakerFrame, Bool.or_false, beq_iff_eq] at hj
    exact hj.symm
  · have hgiving : u.givingCarrier slot.toNat = true := someLane l (by simp [hl, hrole, hslot, hctx, SwapCtx.isGiver])
    have hready := swappingAt_of_row ((hu slot.toNat).trans hrow) SwapPhase.isReady
    simp [State.wants, hgiving, hready, SwapPhase.isReady]
  · have hsame : State.settleSwap l u = u := by
      simp only [State.settleSwap, hl, hctx]
      exact if_pos (.inl (swappingAt_of_row ((hu slot.toNat).trans hrow) _))
    rw [hsame]
    exact ⟨hl, hholds⟩

/-- Settles O30. -/
theorem swapOfferAndReady : Obligations.SwapOfferAndReady := by
  refine fun s rx slot term x => ⟨fun h => ?_, fun h => ?_⟩
  · obtain ⟨v, w, hv, hx, hw, hdone⟩ := frame_completes h rfl
    have hrow (k : Nat) : (s.completeFrame rx (.swapOffer slot term)).row k
        = (v.takeOffer (BitVec.ofNat 4 x.val) slot term).row k := by
      rw [hdone, row_settle, hw.row]
      rfl
    by_cases hacc : ∃ c sb lc, s.row slot.toNat = .carried term c (some sb) lc ∧ c.station = x
    · obtain ⟨c, sb, lc, hs, hc⟩ := hacc
      have hvrow : v.row slot.toNat = .carried term c (some sb) lc := (hv.row _).trans hs
      have hk : slot.toNat < v.table.length := v.lt_length_of_row (by rw [hvrow]; nofun)
      have hact := takeOffer_accepted hx hvrow hc
      have hself : (s.completeFrame rx (.swapOffer slot term)).row slot.toNat = .swapping term c sb lc .offered := by
        rw [hrow, hact, row_takesOffer, State.row_putRow_self _ _ hk]
      refine ⟨_, rfl, fun j hj => ?_, fun c' sb' lc' hs' _ => ?_, fun hnot => absurd ⟨c, sb, lc, hs, hc⟩ hnot⟩
      · rw [hrow, hact, row_takesOffer, State.row_putRow_ne _ _ hj, hv.row]
      · rw [hs] at hs'
        obtain ⟨-, rfl, hsb, rfl⟩ := Row.carried.inj hs'
        obtain rfl := Option.some.inj hsb
        refine ⟨hself, fun hstation hmode hrole hslot hheld => ?_⟩
        have hlane : w.lane sb.lane = (s.lane sb.lane).takes slot.toNat term := by
          have htakes : v.takeOffer (BitVec.ofNat 4 x.val) slot term
              = (v.putRow slot.toNat (.swapping term c sb lc .offered)).modLane sb.lane (Lane.takes slot.toNat term) :=
            hact.trans (if_pos ⟨hstation.trans hv.number.symm, by rw [← hv.mode] at hmode; exact hmode,
              by rw [← hv.lane] at hrole; exact hrole, by rw [← hv.lane] at hslot; exact hslot⟩)
          rw [hw.lane, State.actOn, htakes, State.lane_modLane_self, ← hv.lane]
          rfl
        have hwmode : w.mode = s.mode := (hw.mode.trans (inner_takeOffer v _ _ _).mode).trans hv.mode
        have hjoins : ¬w.joins := not_joins_of_mode (by rw [hwmode]; intro hj; rw [hj] at hmode; cases hmode)
        have hwrow : w.row slot.toNat = .swapping term c sb lc .offered := by
          rw [← row_settle w true, ← hdone, hself]
        have hkept : (w.settle true).lane sb.lane = w.lane sb.lane := by
          refine lane_settle (P := (· = w.lane sb.lane)) (by rw [hwmode]; exact h.1) ?_ rfl true
          rw [joinIfComplete_of_not hjoins]
          refine laneClosed_fixed ?_ ?_ (fun c => ?_) ?_
          all_goals rw [hlane]
          · nofun
          · exact hheld
          · exact no_move_taker (st := .seeking) (swappingAt_of_row hwrow _) (.inl nofun) (some 2000) c
          · rfl
        rw [hdone, hkept, hlane]
        refine ⟨rfl, rfl, rfl, rfl, ?_⟩
        simp [Lane.takes, Lane.setRole, LaneRole.mayOpen]
    · have hact := takeOffer_ignored hx (slot := slot) (term := term) (by simpa only [hv.row] using hacc)
      refine ⟨_, rfl, fun j _ => ?_, fun c sb lc hs hc => absurd ⟨c, sb, lc, hs, hc⟩ hacc, fun _ => ?_⟩
      all_goals rw [hrow, hact, hv.row]
  · obtain ⟨v, w, hv, hx, hw, hdone⟩ := frame_completes h rfl
    have hrow (k : Nat) : (s.completeFrame rx (.swapReady slot term)).row k
        = (v.takeReady (BitVec.ofNat 4 x.val) slot term).row k := by
      rw [hdone, row_settle, hw.row]
      rfl
    by_cases hacc : ∃ c sb lc, s.row slot.toNat = .swapping term c sb lc .offered ∧ sb.station = x
    · obtain ⟨c, sb, lc, hs, hsb⟩ := hacc
      have hvrow : v.row slot.toNat = .swapping term c sb lc .offered := (hv.row _).trans hs
      have hk : slot.toNat < v.table.length := v.lt_length_of_row (by rw [hvrow]; nofun)
      have hact := takeReady_accepted hx hvrow hsb
      have hself : (s.completeFrame rx (.swapReady slot term)).row slot.toNat = .swapping term c sb lc .ready := by
        rw [hrow, hact, (within_goes _ slot term c).row, State.row_putRow_self _ _ hk]
      refine ⟨_, rfl, fun j hj => ?_, fun c' sb' lc' hs' _ => ?_, fun hnot => absurd ⟨c, sb, lc, hs, hsb⟩ hnot⟩
      · rw [hrow, hact, (within_goes _ slot term c).row, State.row_putRow_ne _ _ hj, hv.row]
      · rw [hs] at hs'
        obtain ⟨-, rfl, rfl, rfl, -⟩ := Row.swapping.inj hs'
        refine ⟨hself, fun a b hstation hctx hheld => ?_⟩
        have hgoes := hact.trans (goes_offering (s := v.putRow slot.toNat (.swapping term c sb lc .ready))
          (hstation.trans hv.number.symm) (by rw [← hv.lane] at hctx; exact hctx))
        have hlane : w.lane c.lane = { s.lane c.lane with ctx := .giver slot.toNat term .going 0 0 } := by
          rw [hw.lane, State.actOn, hgoes, lane_send, lane_setCtx, ← hv.lane]
          rfl
        have hwmode : w.mode = s.mode := (hw.mode.trans (inner_takeReady v _ _ _).mode).trans hv.mode
        have hwrow : w.row slot.toNat = .swapping term c sb lc .ready := by
          rw [← row_settle w true, ← hdone, hself]
        have happlies : w.mode.appliesFrames = true := by rw [hwmode]; exact h.1
        have hjoinedRow : w.joinIfComplete.row slot.toNat = .swapping term c sb lc .ready :=
          (row_joinIfComplete w _).trans hwrow
        have hkept := lane_settle happlies
          (laneClosed_ctx (l := c.lane) (no_move_giver (swappingAt_of_row hjoinedRow _) .going 0 0))
          (by rw [hlane]; exact ⟨rfl, hheld⟩) true
        rw [hdone]
        refine ⟨hkept.1, fun hrole hslot hapart hlength => ?_⟩
        have hwlength : w.table.length = s.table.length :=
          (hw.length.trans (keeps_actOn v _ (.swapReady slot term)).rows).trans hv.length
        have hsent : Holds (.swapGo slot term (byteOf s.drainCount)) w.link := by
          have hdrain : v.drainCount = s.drainCount := hv.only.inner.drainCount
          rw [hw.link, State.actOn, hgoes, ← hdrain]
          exact holds_join rfl _
        refine (swapKept_settle happlies (swapSettles_going hwrow (by rw [hlane]) (by rw [hlane]; exact hrole)
          (by rw [hlane]; exact hslot) (by rw [hlane]; exact hheld) (by rw [hwlength]; exact hlength)) (fun _ => rfl)
          ⟨rfl, fun m hm => ?_, hsent⟩ true).2.2
        rw [hw.lane, State.actOn, hgoes, lane_send, lane_setCtx_ne _ _ hm]
        show (v.lane m).apart slot
        rw [hv.lane]
        exact fun j hj => hapart m j hm hj
    · have hact := takeReady_ignored hx (slot := slot) (term := term) (by simpa only [hv.row] using hacc)
      refine ⟨_, rfl, fun j _ => ?_, fun c sb lc hs hsb => absurd ⟨c, sb, lc, hs, hsb⟩ hacc, fun _ => ?_⟩
      all_goals rw [hrow, hact, hv.row]

end Sys2Proof.Machine
end

section
/-! # SWAP-DONE and SWAP-DROP -/

namespace Sys2Proof.Machine

open Sys2Proof.Safety

/-! ### From the frame's action to the settled station -/

/-- The station `t` is what settling makes of `a`, once the directory has taken the frame's sender. -/
def SettlesTo (a t : State) : Prop := ∃ w, Taken a w ∧ t = w.settle true

theorem frame_settles {s : State} {rx : Rx} {f : Frame} {x : Station} (h : Applies s rx f x) (hf : isCarriage f = true) :
    ∃ v, Met s x v ∧ v.mayAct (BitVec.ofNat 4 x.val) = some x
      ∧ SettlesTo (v.actOn (BitVec.ofNat 4 x.val) f) (s.completeFrame rx f) := by
  obtain ⟨v, w, hv, hx, hw, hdone⟩ := frame_completes h hf
  exact ⟨v, hv, hx, w, hw, hdone⟩

section
variable {a t : State} {l : LaneId} (h : SettlesTo a t)
include h

theorem SettlesTo.row (k : Nat) : t.row k = a.row k := by
  obtain ⟨w, hw, rfl⟩ := h
  rw [row_settle, hw.row]

theorem SettlesTo.unplaced (k : Nat) : (t.loc k).unplaced = (a.loc k).unplaced := by
  obtain ⟨w, hw, rfl⟩ := h
  rw [unplaced_settle, hw.loc]

theorem SettlesTo.settled (hl : Settled (a.lane l)) : t.lane l = a.lane l := by
  obtain ⟨w, hw, rfl⟩ := h
  rw [lane_settle_settled w true l (by rw [hw.lane]; exact hl), hw.lane]

/-- A property of the lane that settling keeps. -/
theorem SettlesTo.closed {P : Lane → Prop} (hmode : a.mode.appliesFrames = true) (hjoin : a.mode ≠ .joining)
    (closed : ∀ w, Taken a w → LaneClosed w l P) (hl : P (a.lane l)) : P (t.lane l) := by
  obtain ⟨w, hw, rfl⟩ := h
  refine lane_settle (by rw [hw.mode]; exact hmode) ?_ (by rw [hw.lane]; exact hl) true
  rw [joinIfComplete_of_ne (by rw [hw.mode]; exact hjoin)]
  exact closed w hw

/-- At a RESTING station a lane in no trial and no swap, and not HELD, stays. -/
theorem SettlesTo.still (hmode : a.mode = .resting) (htrial : (a.lane l).role ≠ .trial)
    (hheld : (a.lane l).mark.isHeld = false) (hctx : (a.lane l).ctx = .none) : t.lane l = a.lane l :=
  h.closed (P := (· = a.lane l)) (by rw [hmode]; rfl) (by rw [hmode]; decide)
    (fun w hw => laneClosed_still htrial hheld hctx (.inl (claimActive_of_ne (by rw [hw.mode, hmode]; decide)))) rfl

theorem SettlesTo.roleless (hmode : a.mode.appliesFrames = true) (hjoin : a.mode ≠ .joining) (hl : (a.lane l).roleless) :
    (t.lane l).roleless := h.closed hmode hjoin (fun w _ => laneClosed_roleless w l) hl

/-- A CEDE of a lane that is not HELD, and that its row names in the role at the CEDE's term, stays held. -/
theorem SettlesTo.cede (hmode : a.mode.appliesFrames = true) (hjoin : a.mode ≠ .joining) {slot : Byte} {ρ : CarriageRole}
    {n : Term} {r : CedeReason} (hr : ∀ fs, r ≠ .reclaimed fs) (hheld : (a.lane l).mark.isHeld = false)
    (hterm : (a.row slot.toNat).term = some n) (hnamed : (a.row slot.toNat).named ρ = some (a.ownPair l))
    (hsent : Holds (.cede slot (CarriageRole.byte ρ) n (byteOf l.val) r) a.link) :
    Holds (.cede slot (CarriageRole.byte ρ) n (byteOf l.val) r) t.link := by
  obtain ⟨w, hw, rfl⟩ := h
  refine holds_cede_settle (by rw [hw.mode]; exact hmode) (not_joins_of_mode (by rw [hw.mode]; exact hjoin)) hr
    (by rw [hw.lane]; exact hheld) (by rw [hw.row]; exact hterm) ?_ (by rw [hw.link]; exact hsent) true
  rw [hw.row, hw.ownPair, hnamed]

/-- A CARRIER that has just offered its swap keeps its context, and its SWAP-OFFER is held. -/
theorem SettlesTo.offering (hmode : a.mode.appliesFrames = true) {slot : Byte} {n : Term} {c sb : Pair} {lc : Option Station}
    {p q : Nat} (hrow : a.row slot.toNat = .carried n c (some sb) lc)
    (hctx : (a.lane l).ctx = .giver slot.toNat n .offering p q) (hrole : (a.lane l).role = .carrier)
    (hslot : (a.lane l).slot = some slot.toNat) (hheld : (a.lane l).mark.isHeld = false) (hlength : a.table.length ≤ 20)
    (hbeside : ∀ m, m ≠ l → (a.row slot.toNat).names (a.ownPair m) = false)
    (hapart : ∀ m, m ≠ l → (a.lane m).apart slot) (hsent : Holds (.swapOffer slot n) a.link) :
    t.lane l = a.lane l ∧ Holds (.swapOffer slot n) t.link := by
  obtain ⟨w, hw, rfl⟩ := h
  have hk : slot.toNat < w.table.length := w.lt_length_of_row (by rw [hw.row, hrow]; nofun)
  have hkept := swapKept_offering (u := w) (l := l) (by rw [hw.mode]; exact hmode) slot.isLt ((hw.row _).trans hrow)
    (by rw [hw.lane]; exact hctx) (by rw [hw.lane]; exact hrole) (by rw [hw.lane]; exact hslot)
    (by rw [hw.lane]; exact hheld)
    (fun _ => beside_of_row (by rw [hw.length]; exact hlength) hk fun m hm => .inl (by
      rw [hw.row, hw.ownPair]
      exact hbeside m hm))
    (fun m hm => by rw [hw.lane, byteOf_toNat]; exact hapart m hm) (by rw [hw.link, byteOf_toNat]; exact hsent) true
  rw [byteOf_toNat, hw.lane] at hkept
  exact hkept

end

/-! ### A row names a lane in vain -/

/-- A lane that is not HELD and is named in vain: at most its swap context ends. -/
theorem lane_namedInVain {s : State} {l : LaneId} (hheld : (s.lane l).mark.isHeld = false) (k : Nat) (ρ : CarriageRole)
    (r : CedeReason) (after : Bool) :
    (s.namedInVain k l ρ r after).lane l = s.lane l
      ∨ (s.namedInVain k l ρ r after).lane l = { s.lane l with ctx := .none } := by
  simp only [State.namedInVain]
  split
  · rename_i hmark
    rw [hmark] at hheld
    cases hheld
  · have sent (u : State) (p : Bool) :
        (if p = true then u.owe (u.cedeFrame k ρ l r) else u.sendCede k ρ l r).lane l = u.lane l := by
      split
      · rfl
      · exact lane_sendCede u k ρ l r l
    rw [sent]
    split
    · exact .inr (State.lane_modLane_self _ l _)
    · exact .inl rfl

/-- The CEDE of a lane that is not HELD and is named in vain is handed over, in the cases of R75 at once. -/
theorem holds_namedInVain {s : State} {l : LaneId} (hheld : (s.lane l).mark.isHeld = false) (k : Nat) (ρ : CarriageRole)
    {r : CedeReason} (hr : ∀ fs, r ≠ .reclaimed fs) (after : Bool) :
    Holds (s.cedeFrame k ρ l r) (s.namedInVain k l ρ r after).link := by
  simp only [State.namedInVain]
  split
  · rename_i hmark
    rw [hmark] at hheld
    cases hheld
  · have owed (u : State) (hu : u.cedeFrame k ρ l r = s.cedeFrame k ρ l r) (p : Bool) : Holds (s.cedeFrame k ρ l r)
        (if p = true then u.owe (u.cedeFrame k ρ l r) else u.sendCede k ρ l r).link := by
      rw [← hu]
      split
      · exact (holds_iff _).2 (.inr (.inl (List.mem_append.2 (.inr (List.mem_singleton.2 rfl)))))
      · exact holds_sendCede u k ρ l hr
    refine owed _ ?_ _
    split <;> rfl

theorem swapReason_ne (s : State) (fs : Byte) : s.swapReason ≠ .reclaimed fs := by
  rw [State.swapReason]
  split <;> nofun

theorem roleless_of_free {x : Lane} (hrole : x.role = .free) (hgate : x.gate = false) (hheld : x.mark.isHeld = false) :
    x.roleless := ⟨.inl hrole, hgate, hheld⟩

/-- A free lane that is named in vain comes to hold no role. -/
theorem roleless_namedInVain {s : State} {l : LaneId} (hx : (s.lane l).roleless) (k : Nat) (ρ : CarriageRole)
    (r : CedeReason) (after : Bool) : ((s.namedInVain k l ρ r after).lane l).roleless := by
  rcases lane_namedInVain hx.2.2 k ρ r after with h | h
  all_goals
    rw [h]
    exact hx

/-- The lane holds no role and is not HELD. -/
def Lane.unplaced (x : Lane) : Prop := (x.role = .free ∨ x.role = .trial) ∧ x.mark.isHeld = false

theorem laneClosed_unplaced (s : State) (l : LaneId) : LaneClosed s l Lane.unplaced where
  release _ _ _ := ⟨.inl rfl, rfl⟩
  ctx _ _ h _ := h
  gaveUp _ x _ _ _ _ _ _ _ _ _ := ⟨.inl rfl, rfl⟩
  unheld x y h hh _ := by
    rw [h.2] at hh
    cases hh
  bind _ x k m _ _ hm := ⟨.inr rfl, by rcases hm with ⟨rfl, -⟩ | ⟨rfl, -⟩ <;> rfl⟩

theorem unplaced_namedInVain {s : State} {l : LaneId} (hx : (s.lane l).unplaced) (k : Nat) (ρ : CarriageRole)
    (r : CedeReason) (after : Bool) : ((s.namedInVain k l ρ r after).lane l).unplaced := by
  rcases lane_namedInVain hx.2 k ρ r after with h | h
  all_goals
    rw [h]
    exact hx

theorem Lane.unplaced.ne {x : Lane} (h : x.unplaced) {r : LaneRole} (hf : r ≠ .free) (ht : r ≠ .trial) : x.role ≠ r := by
  rintro rfl
  exact h.1.elim hf ht

/-! ### SWAP-DONE -/

section
variable {v : State} {sender : BitVec 4} {x : Station} {slot lane : Byte} {newTerm : Term} (hx : v.mayAct sender = some x)
include hx

theorem takeDone_accepted {t : Term} {c sb : Pair} {lc : Option Station} {h : Bool} {dc : Nat}
    (hrow : v.row slot.toNat = .swapping t c sb lc (.draining h dc)) (hsb : sb.station = x)
    (hlane : laneOf lane = some sb.lane) (hterm : newTerm.toNat = t.toNat + 1) :
    v.takeDone sender slot newTerm lane
      = (let u := v.putRow slot.toNat (.carried newTerm sb (some c) (some c.station))
         let u := if sb.station = u.number then u.doneCarrier slot.toNat sb.lane else u
         if c.station = u.number then u.doneStandby slot.toNat c.lane else u) := by
  simp only [State.takeDone, hx, hrow, hsb, hterm, hlane, and_self, if_true]

theorem takeDone_ignored (hnot : ¬∃ t c sb lc h dc, v.row slot.toNat = .swapping t c sb lc (.draining h dc) ∧ sb.station = x
    ∧ laneOf lane = some sb.lane ∧ newTerm.toNat = t.toNat + 1) : v.takeDone sender slot newTerm lane = v := by
  simp only [State.takeDone, hx]
  split
  · rename_i y t c sb lc h dc hy hrow
    obtain rfl := Option.some.inj hy
    refine if_neg ?_
    rintro ⟨hsb, hterm, hlane⟩
    exact hnot ⟨t, c, sb, lc, h, dc, hrow, hsb, hlane, hterm⟩
  · rfl

end

section
variable {u : State} {k : Nat} {l : LaneId} (hmode : u.mode.holdsRoles = true)
include hmode

/-- The taker's lane at SWAP-DONE, before a RESTING station drains it. -/
theorem doneCarrier_taker (hrole : (u.lane l).role = .taker) (hslot : (u.lane l).slot = some k) :
    u.doneCarrier k l
      = ((u.withdraw (isTakerFrame k)).modLane l fun x => { x.setRole .carrier with ctx := .none }).drainIfResting k l := by
  rw [State.doneCarrier, if_neg (by rw [hmode]; decide), if_pos ⟨hrole, hslot⟩]

theorem doneCarrier_vain (hnot : (u.lane l).role ≠ .taker ∨ (u.lane l).slot ≠ some k) :
    u.doneCarrier k l = u.namedInVain k l .carrier u.swapReason false := by
  rw [State.doneCarrier, if_neg (by rw [hmode]; decide), if_neg fun h => hnot.elim (· h.1) (· h.2)]

theorem doneStandby_giver (hrole : (u.lane l).role = .giver) (hslot : (u.lane l).slot = some k) :
    u.doneStandby k l = if u.mode = .resting then u.giveUp k .standby l .resting
      else (u.withdraw (isGiverFrame k)).modLane l fun x => { x.setRole .standby with ctx := .none } := by
  rw [State.doneStandby, if_neg (by rw [hmode]; decide), if_pos ⟨hrole, hslot⟩]

theorem doneStandby_vain (hnot : (u.lane l).role ≠ .giver ∨ (u.lane l).slot ≠ some k) :
    u.doneStandby k l = u.namedInVain k l .standby u.swapReason false := by
  rw [State.doneStandby, if_neg (by rw [hmode]; decide), if_neg fun h => hnot.elim (· h.1) (· h.2)]

end

theorem drainIfResting_of_ne {s : State} (h : s.mode ≠ .resting) (k : Nat) (l : LaneId) : s.drainIfResting k l = s := if_neg h

theorem drainIfResting_carrier {s : State} (h : s.mode = .resting) {k : Nat} {l : LaneId} (hrole : (s.lane l).role = .carrier) :
    s.drainIfResting k l = if (s.row k).standby.isSome ∧ s.termOf k ≠ 0xFFFF#16 then s.offerSwap k l
      else s.giveUp k .carrier l .resting := by
  rw [State.drainIfResting, if_pos h, State.drainLane, hrole]

theorem gaveUp_gaveUp (x : Lane) : GaveUp x.gaveUp := ⟨rfl, rfl, rfl, rfl, rfl, rfl, rfl⟩

theorem setRole_carrier_gate (x : Lane) : (x.setRole .carrier).gate = x.gate := by
  simp [Lane.setRole, LaneRole.mayOpen]

theorem setRole_standby_gate (x : Lane) : (x.setRole .standby).gate = false := by
  simp [Lane.setRole, LaneRole.mayOpen]

theorem available_of_ne_free {x : Lane} (h : x.role ≠ .free) : x.available = false := by
  simp [Lane.available, h]

theorem termOf_of_row {s : State} {k : Nat} {n : Term} (h : (s.row k).term = some n) : s.termOf k = n := by
  rw [State.termOf, h]
  rfl

end Sys2Proof.Machine
end

section
/-! # SWAP-DONE -/

namespace Sys2Proof.Machine

open Sys2Proof.Safety

/-! ### The station with the row's new state -/

/-- The station `u` is `s` with row `k` set to `r`, as far as the swaps' frames look. -/
structure Rowed (s : State) (k : Nat) (r : Row) (u : State) : Prop where
  lane : ∀ l, u.lane l = s.lane l
  row : u.row k = r
  other : ∀ j, j ≠ k → u.row j = s.row j
  mode : u.mode = s.mode
  number : u.number = s.number
  length : u.table.length = s.table.length

theorem Met.rowed {s v : State} {x : Station} (h : Met s x v) {k : Nat} (hk : s.row k ≠ .unknown) (r : Row) :
    Rowed s k r (v.putRow k r) where
  lane := h.lane
  row := State.row_putRow_self _ _ (v.lt_length_of_row (by rw [h.row]; exact hk))
  other j hj := (State.row_putRow_ne _ _ hj).trans (h.row j)
  mode := h.mode
  number := h.number
  length := (State.length_setEntry _ _ _).trans h.length

theorem Rowed.ownPair {s u : State} {k : Nat} {r : Row} (h : Rowed s k r u) (l : LaneId) : u.ownPair l = s.ownPair l := by
  rw [State.ownPair, h.number]
  rfl

theorem Rowed.swapReason {s u : State} {k : Nat} {r : Row} (h : Rowed s k r u) : u.swapReason = s.swapReason := by
  rw [State.swapReason, h.mode]
  rfl

theorem appliesFrames_of_holdsRoles {m : Mode} (h : m.holdsRoles = true) : m.appliesFrames = true := by
  cases m <;> first | rfl | cases h

theorem ne_joining_of_holdsRoles {m : Mode} (h : m.holdsRoles = true) : m ≠ .joining := by
  rintro rfl
  cases h

/-! ### The lane's side, settled -/

section
variable {s u t : State} {slot : Byte} {r : Row} (hu : Rowed s slot.toNat r u) {l : LaneId}
include hu

/-- A lane that is named in vain comes out of settling with its CEDE held (R75). -/
theorem cede_of_vain (hmode : s.mode.holdsRoles = true) (hheld : (s.lane l).mark.isHeld = false) {ρ : CarriageRole}
    {n : Term} (hterm : r.term = some n) (hnamed : r.named ρ = some (s.ownPair l))
    (h : SettlesTo (u.namedInVain slot.toNat l ρ u.swapReason false) t) :
    Holds (.cede slot (CarriageRole.byte ρ) n (byteOf l.val) s.swapReason) t.link := by
  have hw := within_namedInVain u slot.toNat l ρ u.swapReason false
  have hmode' : (u.namedInVain slot.toNat l ρ u.swapReason false).mode = s.mode := hw.mode.trans hu.mode
  have hrow : (u.namedInVain slot.toNat l ρ u.swapReason false).row slot.toNat = r := (hw.row _).trans hu.row
  have hmark : ((u.namedInVain slot.toNat l ρ u.swapReason false).lane l).mark.isHeld = false := by
    rcases lane_namedInVain (by rw [hu.lane]; exact hheld) slot.toNat ρ u.swapReason false with e | e
    all_goals
      rw [e, hu.lane]
      exact hheld
  have hsent := holds_namedInVain (s := u) (by rw [hu.lane]; exact hheld) slot.toNat ρ (swapReason_ne u) false
  rw [State.cedeFrame, termOf_of_row (by rw [hu.row]; exact hterm), byteOf_toNat] at hsent
  rw [← hu.swapReason]
  exact h.cede (by rw [hmode']; exact appliesFrames_of_holdsRoles hmode) (by rw [hmode']; exact ne_joining_of_holdsRoles hmode)
    (swapReason_ne u) hmark (by rw [hrow]; exact hterm) (by rw [hrow, hw.ownPair, hu.ownPair]; exact hnamed) hsent

theorem roleless_of_vain (hmode : s.mode.holdsRoles = true) (hheld : (s.lane l).mark.isHeld = false)
    (hrole : (s.lane l).role = .free) (hgate : (s.lane l).gate = false) {ρ : CarriageRole}
    (h : SettlesTo (u.namedInVain slot.toNat l ρ u.swapReason false) t) : (t.lane l).roleless := by
  have hmode' : (u.namedInVain slot.toNat l ρ u.swapReason false).mode = s.mode :=
    (within_namedInVain u slot.toNat l ρ _ false).mode.trans hu.mode
  refine h.roleless (by rw [hmode']; exact appliesFrames_of_holdsRoles hmode)
    (by rw [hmode']; exact ne_joining_of_holdsRoles hmode) (roleless_namedInVain ?_ _ _ _ _)
  rw [hu.lane]
  exact roleless_of_free hrole hgate hheld

theorem unplaced_of_vain (hmode : s.mode.holdsRoles = true) (hheld : (s.lane l).mark.isHeld = false)
    (hrole : (s.lane l).role = .free) {ρ : CarriageRole}
    (h : SettlesTo (u.namedInVain slot.toNat l ρ u.swapReason false) t) : (t.lane l).unplaced := by
  have hmode' : (u.namedInVain slot.toNat l ρ u.swapReason false).mode = s.mode :=
    (within_namedInVain u slot.toNat l ρ _ false).mode.trans hu.mode
  refine h.closed (by rw [hmode']; exact appliesFrames_of_holdsRoles hmode)
    (by rw [hmode']; exact ne_joining_of_holdsRoles hmode) (fun w _ => laneClosed_unplaced w l) (unplaced_namedInVain ?_ _ _ _ _)
  rw [hu.lane]
  exact ⟨.inl hrole, hheld⟩

end

/-- A RESTING station's lane that gives up its role keeps none, and its CEDE is held (R167). -/
theorem gaveUp_of_giveUp {u t : State} {slot : Byte} {l : LaneId} (hmode : u.mode = .resting) {ρ : CarriageRole} {n : Term}
    (hterm : (u.row slot.toNat).term = some n) (hnamed : (u.row slot.toNat).named ρ = some (u.ownPair l))
    (h : SettlesTo (u.giveUp slot.toNat ρ l .resting) t) :
    GaveUp (t.lane l) ∧ Holds (.cede slot (CarriageRole.byte ρ) n (byteOf l.val) .resting) t.link := by
  have hw := within_giveUp u slot.toNat ρ l .resting
  have hlane := lane_giveUp u slot.toNat ρ l .resting
  have hmode' : (u.giveUp slot.toNat ρ l .resting).mode = .resting := hw.mode.trans hmode
  constructor
  · rw [h.still hmode' (by rw [hlane]; nofun) (by rw [hlane]; rfl) (by rw [hlane]; rfl), hlane]
    exact gaveUp_gaveUp _
  · have hsent := holds_giveUp_cede u slot.toNat ρ l (r := .resting) nofun
    rw [State.cedeFrame, termOf_of_row hterm, byteOf_toNat] at hsent
    exact h.cede (by rw [hmode']; rfl) (by rw [hmode']; decide) nofun (by rw [hlane]; rfl) (by rw [hw.row]; exact hterm)
      (by rw [hw.row, hw.ownPair]; exact hnamed) hsent

theorem settled_of_role {x : Lane} (ht : x.role ≠ .trial) (hf : x.role ≠ .free) (hheld : x.mark.isHeld = false)
    (hctx : x.ctx = .none) : Settled x := ⟨ht, hheld, hctx, available_of_ne_free hf⟩

theorem drainIfResting_standby {s : State} (h : s.mode = .resting) {k : Nat} {l : LaneId} (hrole : (s.lane l).role = .standby) :
    s.drainIfResting k l = s.giveUp k .standby l .resting := by
  rw [State.drainIfResting, if_pos h, State.drainLane, hrole]

/-- The lane takes the role at the end of its swap (R62, R63). -/
def Lane.swapsTo (r : LaneRole) (x : Lane) : Lane := { x.setRole r with ctx := .none }

section
variable {s u t : State} {slot : Byte} {n : Term} {c sb : Pair} {lc : Option Station}
  (hu : Rowed s slot.toNat (.carried n sb (some c) lc) u)
include hu

section
variable (hrole : (s.lane sb.lane).role = .taker) (hslot : (s.lane sb.lane).slot = some slot.toNat)
include hrole hslot

theorem doneCarrier_eq (hmode : s.mode.holdsRoles = true) : u.doneCarrier slot.toNat sb.lane
    = ((u.withdraw (isTakerFrame slot.toNat)).modLane sb.lane (Lane.swapsTo .carrier)).drainIfResting slot.toNat sb.lane :=
  doneCarrier_taker (by rw [hu.mode]; exact hmode) (by rw [hu.lane]; exact hrole) (by rw [hu.lane]; exact hslot)

theorem newCarrier_joined (hmode : s.mode = .joined) (hheld : (s.lane sb.lane).mark.isHeld = false)
    (h : SettlesTo (u.doneCarrier slot.toNat sb.lane) t) :
    t.lane sb.lane = (s.lane sb.lane).swapsTo .carrier := by
  have hlane : (u.doneCarrier slot.toNat sb.lane).lane sb.lane = (s.lane sb.lane).swapsTo .carrier := by
    rw [doneCarrier_eq hu hrole hslot (by rw [hmode]; rfl), drainIfResting_of_ne (fun e => by
        have humode : u.mode = .resting := e
        rw [hu.mode, hmode] at humode
        cases humode),
      State.lane_modLane_self, lane_withdraw, hu.lane]
  rw [h.settled, hlane]
  rw [hlane]
  exact settled_of_role nofun nofun hheld rfl

/-- The new carrier of a RESTING station drains: it offers the swap back, or gives the role up (R168). -/
theorem newCarrier_resting (hmode : s.mode = .resting) : ∃ v, Within u v ∧ (∀ m, m ≠ sb.lane → v.lane m = s.lane m)
    ∧ v.lane sb.lane = (s.lane sb.lane).swapsTo .carrier
    ∧ u.doneCarrier slot.toNat sb.lane = (if n ≠ 0xFFFF#16 then v.offerSwap slot.toNat sb.lane
        else v.giveUp slot.toNat .carrier sb.lane .resting) := by
  have hw : Within u ((u.withdraw (isTakerFrame slot.toNat)).modLane sb.lane (Lane.swapsTo .carrier)) :=
    (within_withdraw u _).trans (within_modLane _ _ _)
  have hlane : ((u.withdraw (isTakerFrame slot.toNat)).modLane sb.lane (Lane.swapsTo .carrier)).lane sb.lane
      = (s.lane sb.lane).swapsTo .carrier := by
    rw [State.lane_modLane_self, lane_withdraw, hu.lane]
  refine ⟨_, hw, fun m hm => ?_, hlane, ?_⟩
  · rw [State.lane_modLane_ne _ _ hm, lane_withdraw, hu.lane]
  · rw [doneCarrier_eq hu hrole hslot (by rw [hmode]; rfl),
      drainIfResting_carrier (hw.mode.trans (hu.mode.trans hmode)) (by rw [hlane]; rfl), hw.row, hw.termOf, hu.row,
      termOf_of_row (by rw [hu.row]; rfl)]
    simp [Row.standby]

theorem newCarrier_offers (hmode : s.mode = .resting) (hheld : (s.lane sb.lane).mark.isHeld = false)
    (hc : c.station ≠ s.number) (hn : n ≠ 0xFFFF#16) (hbeside : NoSwapBeside s slot sb.lane)
    (hlength : s.table.length ≤ 20) (h : SettlesTo (u.doneCarrier slot.toNat sb.lane) t) :
    t.lane sb.lane = { (s.lane sb.lane).swapsTo .carrier with ctx := .giver slot.toNat n .offering 0 0 }
      ∧ Holds (.swapOffer slot n) t.link := by
  obtain ⟨v, hw, hothers, hlane, hdone⟩ := newCarrier_resting hu hrole hslot hmode
  rw [hdone, if_pos hn] at h
  have ho := hw.trans (within_offerSwap v slot.toNat sb.lane)
  have htermOf : v.termOf slot.toNat = n := by rw [hw.termOf, termOf_of_row (by rw [hu.row]; rfl)]
  have hoffer : (v.offerSwap slot.toNat sb.lane).lane sb.lane
      = { (s.lane sb.lane).swapsTo .carrier with ctx := .giver slot.toNat n .offering 0 0 } := by
    rw [lane_offerSwap, hlane, htermOf]
  have hrow : (v.offerSwap slot.toNat sb.lane).row slot.toNat = .carried n sb (some c) lc := (ho.row _).trans hu.row
  have hsent : Holds (.swapOffer slot n) (v.offerSwap slot.toNat sb.lane).link := by
    have := holds_offerSwap v slot.toNat sb.lane
    rwa [htermOf, byteOf_toNat] at this
  rw [← hoffer]
  refine h.offering (by rw [ho.mode, hu.mode, hmode]; rfl) hrow (by rw [hoffer]) (by rw [hoffer]; rfl)
    (by rw [hoffer]; exact hslot) (by rw [hoffer]; exact hheld) (by rw [ho.length, hu.length]; exact hlength)
    (fun m hm => ?_) (fun m hm => ?_) hsent
  · rw [hrow, ho.ownPair, hu.ownPair, ← Bool.not_eq_true, Row.names_iff]
    rintro (hcarrier | hstandby)
    · exact hm (congrArg Pair.lane (Option.some.inj hcarrier)).symm
    · exact hc (congrArg Pair.station (Option.some.inj hstandby))
  · rw [lane_offerSwap_ne _ _ hm, hothers m hm]
    exact fun j hj => hbeside m j hm hj

theorem newCarrier_cedes (hmode : s.mode = .resting) (hsb : sb.station = s.number) (hn : n = 0xFFFF#16)
    (h : SettlesTo (u.doneCarrier slot.toNat sb.lane) t) :
    GaveUp (t.lane sb.lane) ∧ Holds (.cede slot 0#8 n (byteOf sb.lane.val) .resting) t.link := by
  obtain ⟨v, hw, -, -, hdone⟩ := newCarrier_resting hu hrole hslot hmode
  rw [hdone, if_neg (not_not.2 hn)] at h
  refine gaveUp_of_giveUp (ρ := .carrier) (hw.mode.trans (hu.mode.trans hmode)) (by rw [hw.row, hu.row]; rfl) ?_ h
  rw [hw.row, hu.row, hw.ownPair, hu.ownPair, ← pair_eq_ownPair hsb]
  rfl

end

section
variable (hrole : (s.lane c.lane).role = .giver) (hslot : (s.lane c.lane).slot = some slot.toNat)
include hrole hslot

theorem newStandby_joined (hmode : s.mode = .joined) (hheld : (s.lane c.lane).mark.isHeld = false)
    (h : SettlesTo (u.doneStandby slot.toNat c.lane) t) : t.lane c.lane = (s.lane c.lane).swapsTo .standby := by
  have humode : u.mode = .joined := hu.mode.trans hmode
  have hlane : (u.doneStandby slot.toNat c.lane).lane c.lane = (s.lane c.lane).swapsTo .standby := by
    rw [doneStandby_giver (by rw [humode]; rfl) (by rw [hu.lane]; exact hrole) (by rw [hu.lane]; exact hslot),
      if_neg (by rw [humode]; decide), State.lane_modLane_self, lane_withdraw, hu.lane]
    rfl
  rw [h.settled, hlane]
  rw [hlane]
  exact settled_of_role nofun nofun hheld rfl

theorem newStandby_cedes (hmode : s.mode = .resting) (hc : c.station = s.number)
    (h : SettlesTo (u.doneStandby slot.toNat c.lane) t) :
    GaveUp (t.lane c.lane) ∧ Holds (.cede slot 1#8 n (byteOf c.lane.val) .resting) t.link := by
  have humode : u.mode = .resting := hu.mode.trans hmode
  rw [doneStandby_giver (by rw [humode]; rfl) (by rw [hu.lane]; exact hrole) (by rw [hu.lane]; exact hslot),
    if_pos humode] at h
  refine gaveUp_of_giveUp (ρ := .standby) humode (by rw [hu.row]; rfl) ?_ h
  rw [hu.row, hu.ownPair, ← pair_eq_ownPair hc]
  rfl

end

end

theorem row_doneCarrier (s : State) (k : Nat) (l : LaneId) (j : Nat) : (s.doneCarrier k l).row j = s.row j :=
  row_of_skeleton (skeleton_doneCarrier s k l) j

theorem row_doneStandby (s : State) (k : Nat) (l : LaneId) (j : Nat) : (s.doneStandby k l).row j = s.row j :=
  row_of_skeleton (skeleton_doneStandby s k l) j

/-- Settles O32. -/
theorem swapDoneExchangesTheRoles : Obligations.SwapDoneExchangesTheRoles := by
  intro s rx slot lane newTerm x h
  obtain ⟨v, hv, hx, hsettles⟩ := frame_settles h rfl
  have hact : v.actOn (BitVec.ofNat 4 x.val) (.swapDone slot newTerm lane)
      = v.takeDone (BitVec.ofNat 4 x.val) slot newTerm lane := rfl
  by_cases hacc : ∃ t c sb lc h dc, s.row slot.toNat = .swapping t c sb lc (.draining h dc) ∧ sb.station = x
      ∧ laneOf lane = some sb.lane ∧ newTerm.toNat = t.toNat + 1
  · obtain ⟨t, c, sb, lc, hold, dc, hs, hsb, hlane, hterm⟩ := hacc
    have hu := hv.rowed (by rw [hs]; nofun) (.carried newTerm sb (some c) (some c.station))
    obtain ⟨u, hueq⟩ : ∃ u, u = v.putRow slot.toNat (.carried newTerm sb (some c) (some c.station)) := ⟨_, rfl⟩
    rw [hact, takeDone_accepted hx (by rw [hv.row]; exact hs) hsb hlane hterm, ← hueq] at hsettles
    rw [← hueq] at hu
    have hrow (j : Nat) : (s.completeFrame rx (.swapDone slot newTerm lane)).row j = u.row j := by
      rw [hsettles.row]
      dsimp only
      split <;> split <;> simp only [row_doneCarrier, row_doneStandby]
    refine ⟨_, rfl, fun j hj => (hrow j).trans (hu.other j hj), fun t' c' sb' lc' h' dc' hs' _ _ _ => ?_,
      fun hnot => absurd ⟨t, c, sb, lc, hold, dc, hs, hsb, hlane, hterm⟩ hnot⟩
    rw [hs] at hs'
    obtain ⟨-, rfl, rfl, -, -⟩ := Row.swapping.inj hs'
    have taker (hsb : sb.station = s.number) (hc : c.station ≠ s.number) :
        SettlesTo (u.doneCarrier slot.toNat sb.lane) (s.completeFrame rx (.swapDone slot newTerm lane)) := by
      dsimp only at hsettles
      rwa [if_pos (c := sb.station = u.number) (hsb.trans hu.number.symm),
        if_neg (by rw [(inner_doneCarrier u _ _).number, hu.number]; exact hc)] at hsettles
    have giver (hc : c.station = s.number) (hsb : sb.station ≠ s.number) :
        SettlesTo (u.doneStandby slot.toNat c.lane) (s.completeFrame rx (.swapDone slot newTerm lane)) := by
      dsimp only at hsettles
      rwa [if_neg (c := sb.station = u.number) (by rw [hu.number]; exact hsb), if_pos (hc.trans hu.number.symm)] at hsettles
    refine ⟨(hrow _).trans hu.row, fun hmode hsb hc hrole hslot hheld => ?_, fun hmode hc hsb hrole hslot hheld => ?_,
      fun hmode hsb hc hrole hslot hheld => ⟨fun hn hbeside hlength => ?_, fun hn => ?_⟩,
      fun hmode hc hsb hrole hslot hheld => ?_, fun hmode hsb hc hnot hheld => ?_, fun hmode hc hsb hnot hheld => ?_⟩
    · rw [newCarrier_joined hu hrole hslot hmode hheld (taker hsb hc)]
      exact ⟨rfl, setRole_carrier_gate _, rfl, rfl, rfl⟩
    · rw [newStandby_joined hu hrole hslot hmode hheld (giver hc hsb)]
      exact ⟨rfl, setRole_standby_gate _, rfl, rfl⟩
    · obtain ⟨hl, hsent⟩ := newCarrier_offers hu hrole hslot hmode hheld hc hn hbeside hlength (taker hsb hc)
      rw [hl]
      exact ⟨rfl, setRole_carrier_gate _, rfl, hsent⟩
    · exact newCarrier_cedes hu hrole hslot hmode hsb hn (taker hsb hc)
    · exact newStandby_cedes hu hrole hslot hmode hc (giver hc hsb)
    · have hvain := taker hsb hc
      rw [doneCarrier_vain (by rw [hu.mode]; exact hmode) (by rw [hu.lane]; exact hnot)] at hvain
      refine ⟨cede_of_vain hu (ρ := .carrier) hmode hheld rfl (congrArg some (pair_eq_ownPair hsb)) hvain, fun hrole hgate => ?_⟩
      have := roleless_of_vain hu hmode hheld hrole hgate hvain
      exact ⟨this.ne nofun nofun, this.2.1⟩
    · have hvain := giver hc hsb
      rw [doneStandby_vain (by rw [hu.mode]; exact hmode) (by rw [hu.lane]; exact hnot)] at hvain
      exact ⟨cede_of_vain hu (ρ := .standby) hmode hheld rfl (congrArg some (pair_eq_ownPair hc)) hvain,
        fun hrole => (unplaced_of_vain hu hmode hheld hrole hvain).ne nofun nofun⟩
  · rw [hact, takeDone_ignored hx (by simpa only [hv.row] using hacc)] at hsettles
    refine ⟨_, rfl, fun j _ => ?_, fun t c sb lc h dc hs hsb hlane hterm => absurd ⟨t, c, sb, lc, h, dc, hs, hsb, hlane, hterm⟩ hacc,
      fun _ => ?_⟩
    all_goals rw [hsettles.row, hv.row]

end Sys2Proof.Machine
end

section
/-! # SWAP-DROP -/

namespace Sys2Proof.Machine

open Sys2Proof.Safety

theorem exists_dropReason {b : Byte} (h : b.toNat < 4) : ∃ r, dropReasonOf b = some r := by
  have : b = 0#8 ∨ b = 1#8 ∨ b = 2#8 ∨ b = 3#8 := by
    have : b.toNat = 0 ∨ b.toNat = 1 ∨ b.toNat = 2 ∨ b.toNat = 3 := by omega
    exact this.imp (BitVec.eq_of_toNat_eq ·)
      (Or.imp (BitVec.eq_of_toNat_eq ·) (Or.imp (BitVec.eq_of_toNat_eq ·) (BitVec.eq_of_toNat_eq ·)))
  rcases this with rfl | rfl | rfl | rfl
  all_goals exact ⟨_, rfl⟩

theorem dropReason_lt {b : Byte} {r : DropReason} (h : dropReasonOf b = some r) : b.toNat < 4 := by
  rw [dropReasonOf] at h
  split at h
  · rw [‹b = _›]; decide
  split at h
  · rw [‹b = _›]; decide
  split at h
  · rw [‹b = _›]; decide
  split at h
  · rw [‹b = _›]; decide
  cases h

/-- The row, the standby gone or kept, after the SWAP-DROP (R63). -/
def DropReason.leaves (r : DropReason) (sb : Pair) : Option Pair := if r.removes then none else some sb

/-- The standby's side of an accepted SWAP-DROP (R63, R75). -/
def State.standbyDropped (s : State) (k : Nat) (sb : Pair) (r : DropReason) : State :=
  if sb.station = s.number then
    if r.removes then (s.unnamed k sb.lane .standby).withdraw (isTakerFrame k) else s.dropStandby k sb.lane
  else s

section
variable {v : State} {sender : BitVec 4} {x : Station} {slot reason : Byte} {term : Term} (hx : v.mayAct sender = some x)
include hx

theorem takeDrop_accepted {c sb : Pair} {lc : Option Station} {p : SwapPhase} {r : DropReason}
    (hrow : v.row slot.toNat = .swapping term c sb lc p) (hends : c.station = x ∨ sb.station = x)
    (hr : dropReasonOf reason = some r) :
    v.takeDrop sender slot term reason
      = ((v.putRow slot.toNat (.carried term c (r.leaves sb) lc)).giverKept slot.toNat c true true).standbyDropped slot.toNat sb r := by
  simp only [State.takeDrop, hx, hrow, hr, hends, and_self, if_true]
  rfl

theorem takeDrop_ignored (hnot : ¬∃ c sb lc p, v.row slot.toNat = .swapping term c sb lc p ∧ (c.station = x ∨ sb.station = x)
    ∧ reason.toNat < 4) : v.takeDrop sender slot term reason = v := by
  simp only [State.takeDrop, hx]
  split
  · rename_i y t c sb lc p r hy hrow hr
    obtain rfl := Option.some.inj hy
    refine if_neg ?_
    rintro ⟨hends, rfl⟩
    exact hnot ⟨c, sb, lc, p, hrow, hends, dropReason_lt hr⟩
  · rfl

end

theorem inner_standbyDropped (s : State) (k : Nat) (sb : Pair) (r : DropReason) : Inner s (s.standbyDropped k sb r) :=
  inner_ite (inner_ite ((inner_unnamed s _ _ _).trans (inner_withdraw _ _)) (inner_dropStandby s _ _)) (.refl s)

theorem row_standbyDropped (s : State) (k : Nat) (sb : Pair) (r : DropReason) (j : Nat) :
    (s.standbyDropped k sb r).row j = s.row j := by
  rw [State.standbyDropped]
  split
  · split
    · exact row_unnamed s _ _ _ j
    · exact row_of_skeleton (skeleton_dropStandby s _ _) j
  · rfl

section
variable {s u t : State} {slot : Byte} {n : Term} {c : Pair} {sb : Option Pair} {lc : Option Station}
  (hu : Rowed s slot.toNat (.carried n c sb lc) u)
include hu

/-! ### The giver's side -/

section
variable (hcarries : (s.lane c.lane).carries slot.toNat = true)
include hcarries

theorem giverBack_joined (hmode : s.mode = .joined) (hheld : (s.lane c.lane).mark.isHeld = false)
    (h : SettlesTo (u.giverBack slot.toNat c.lane true true) t) :
    (t.lane c.lane).role = .carrier ∧ (t.lane c.lane).gate = true ∧ (t.lane c.lane).ctx = .none := by
  have humode : u.mode = .joined := hu.mode.trans hmode
  have hlane : (u.giverBack slot.toNat c.lane true true).lane c.lane
      = { ((s.lane c.lane).setRole .carrier).openGate with ctx := .none, qualityStreak := 0 } := by
    rw [State.giverBack, if_neg (by rw [humode]; decide), if_pos (by rw [hu.lane]; exact hcarries), if_neg (by rw [humode]; decide),
      State.lane_modLane_self, lane_withdraw, hu.lane]
    rfl
  have hrole : ((s.lane c.lane).setRole .carrier).openGate.role = .carrier := by
    rw [Lane.openGate]
    split <;> rfl
  have hmark : ((s.lane c.lane).setRole .carrier).openGate.mark.isHeld = false := by
    rw [Lane.openGate]
    split <;> exact hheld
  rw [h.settled, hlane]
  · exact ⟨hrole, Lane.openGate_gate _, rfl⟩
  · rw [hlane]
    exact settled_of_role (by rw [hrole]; decide) (by rw [hrole]; decide) hmark rfl

theorem giverBack_cedes (hmode : s.mode = .resting) (hc : c.station = s.number)
    (h : SettlesTo (u.giverBack slot.toNat c.lane true true) t) :
    GaveUp (t.lane c.lane) ∧ Holds (.cede slot 0#8 n (byteOf c.lane.val) .resting) t.link := by
  have humode : u.mode = .resting := hu.mode.trans hmode
  rw [State.giverBack, if_neg (by rw [humode]; decide), if_pos (by rw [hu.lane]; exact hcarries), if_pos humode] at h
  refine gaveUp_of_giveUp (ρ := .carrier) humode (by rw [hu.row]; rfl) ?_ h
  rw [hu.row, hu.ownPair, ← pair_eq_ownPair hc]
  rfl

end

theorem giverBack_vain (hmode : s.mode.holdsRoles = true) (hcarries : (s.lane c.lane).carries slot.toNat = false) :
    u.giverBack slot.toNat c.lane true true = u.namedInVain slot.toNat c.lane .carrier u.swapReason false := by
  rw [State.giverBack, if_neg (by rw [hu.mode, hmode]; decide), if_neg (by rw [hu.lane, hcarries]; decide)]
  exact if_pos rfl

end

/-! ### The standby's side -/

section
variable {s u t : State} {slot : Byte} {n : Term} {c sb : Pair} {lc : Option Station}
  (hu : Rowed s slot.toNat (.carried n c (some sb) lc) u)
include hu

section
variable (hrole : (s.lane sb.lane).role = .taker) (hslot : (s.lane sb.lane).slot = some slot.toNat)
include hrole hslot

theorem dropStandby_eq (hmode : s.mode.holdsRoles = true) : u.dropStandby slot.toNat sb.lane
    = ((u.withdraw (isTakerFrame slot.toNat)).modLane sb.lane (Lane.swapsTo .standby)).drainIfResting slot.toNat sb.lane := by
  rw [State.dropStandby, if_neg (by rw [hu.mode, hmode]; decide), if_pos ⟨by rw [hu.lane]; exact hrole, by rw [hu.lane]; exact hslot⟩]
  rfl

theorem keptTaker_joined (hmode : s.mode = .joined) (hheld : (s.lane sb.lane).mark.isHeld = false)
    (h : SettlesTo (u.dropStandby slot.toNat sb.lane) t) : t.lane sb.lane = (s.lane sb.lane).swapsTo .standby := by
  have hlane : (u.dropStandby slot.toNat sb.lane).lane sb.lane = (s.lane sb.lane).swapsTo .standby := by
    rw [dropStandby_eq hu hrole hslot (by rw [hmode]; rfl), drainIfResting_of_ne (fun e => by
        have humode : u.mode = .resting := e
        rw [hu.mode, hmode] at humode
        cases humode),
      State.lane_modLane_self, lane_withdraw, hu.lane]
  rw [h.settled, hlane]
  rw [hlane]
  exact settled_of_role nofun nofun hheld rfl

theorem keptTaker_cedes (hmode : s.mode = .resting) (hsb : sb.station = s.number)
    (h : SettlesTo (u.dropStandby slot.toNat sb.lane) t) :
    GaveUp (t.lane sb.lane) ∧ Holds (.cede slot 1#8 n (byteOf sb.lane.val) .resting) t.link := by
  have humode : u.mode = .resting := hu.mode.trans hmode
  obtain ⟨v, hv⟩ : ∃ v, v = (u.withdraw (isTakerFrame slot.toNat)).modLane sb.lane (Lane.swapsTo .standby) := ⟨_, rfl⟩
  have hw : Within u v := hv ▸ (within_withdraw u _).trans (within_modLane _ _ _)
  have hrole' : (v.lane sb.lane).role = .standby := by
    rw [hv, State.lane_modLane_self]
    rfl
  rw [dropStandby_eq hu hrole hslot (by rw [hmode]; rfl), ← hv,
    drainIfResting_standby (hw.mode.trans humode) hrole'] at h
  refine gaveUp_of_giveUp (ρ := .standby) (hw.mode.trans humode) (by rw [hw.row, hu.row]; rfl) ?_ h
  rw [hw.row, hu.row, hw.ownPair, hu.ownPair, ← pair_eq_ownPair hsb]
  rfl

end

theorem dropStandby_vain (hmode : s.mode.holdsRoles = true)
    (hnot : (s.lane sb.lane).role ≠ .taker ∨ (s.lane sb.lane).slot ≠ some slot.toNat) :
    u.dropStandby slot.toNat sb.lane = u.namedInVain slot.toNat sb.lane .standby u.swapReason false := by
  rw [State.dropStandby, if_neg (by rw [hu.mode, hmode]; decide), if_neg]
  rw [hu.lane]
  exact fun h => hnot.elim (· h.1) (· h.2)

end

/-- Settles O33. -/
theorem swapDropReturnsTheRow : Obligations.SwapDropReturnsTheRow := by
  intro s rx slot reason term x h
  obtain ⟨v, hv, hx, hsettles⟩ := frame_settles h rfl
  have hact : v.actOn (BitVec.ofNat 4 x.val) (.swapDrop slot term reason)
      = v.takeDrop (BitVec.ofNat 4 x.val) slot term reason := rfl
  by_cases hacc : ∃ c sb lc p, s.row slot.toNat = .swapping term c sb lc p ∧ (c.station = x ∨ sb.station = x)
      ∧ reason.toNat < 4
  · obtain ⟨c, sb, lc, p, hs, hends, hlt⟩ := hacc
    obtain ⟨r, hr⟩ := exists_dropReason hlt
    have hu := hv.rowed (by rw [hs]; nofun) (.carried term c (r.leaves sb) lc)
    obtain ⟨u, hueq⟩ : ∃ u, u = v.putRow slot.toNat (.carried term c (r.leaves sb) lc) := ⟨_, rfl⟩
    rw [hact, takeDrop_accepted hx (by rw [hv.row]; exact hs) hends hr, ← hueq] at hsettles
    rw [← hueq] at hu
    have hrow (j : Nat) : (s.completeFrame rx (.swapDrop slot term reason)).row j = u.row j := by
      rw [hsettles.row, row_standbyDropped, row_giverKept]
    refine ⟨_, rfl, fun j hj => (hrow j).trans (hu.other j hj), fun c' sb' lc' p' hs' _ => ?_,
      fun hnot => absurd ⟨c, sb, lc, p, hs, hends, hlt⟩ hnot⟩
    rw [hs] at hs'
    obtain ⟨-, rfl, rfl, rfl, rfl⟩ := Row.swapping.inj hs'
    have removed (hreason : reason = 1#8 ∨ reason = 3#8) : r.leaves sb = none := by
      rcases hreason with rfl | rfl
      all_goals
        obtain rfl := Option.some.inj hr
        rfl
    have kept (hreason : reason = 0#8 ∨ reason = 2#8) : r.removes = false := by
      rcases hreason with rfl | rfl
      all_goals
        obtain rfl := Option.some.inj hr
        rfl
    have stays (hreason : reason = 0#8 ∨ reason = 2#8) : r.leaves sb = some sb := if_neg (by rw [kept hreason]; decide)
    have giver (hc : c.station = s.number) (hsb : sb.station ≠ s.number) :
        SettlesTo (u.giverBack slot.toNat c.lane true true) (s.completeFrame rx (.swapDrop slot term reason)) := by
      rw [State.standbyDropped, if_neg (by rw [(inner_giverKept u _ _ _ _).number, hu.number]; exact hsb), State.giverKept,
        if_pos (hc.trans hu.number.symm)] at hsettles
      exact hsettles
    have taker (hreason : reason = 0#8 ∨ reason = 2#8) (hsb : sb.station = s.number) (hc : c.station ≠ s.number) :
        SettlesTo (u.dropStandby slot.toNat sb.lane) (s.completeFrame rx (.swapDrop slot term reason)) := by
      rw [State.giverKept, if_neg (by rw [hu.number]; exact hc), State.standbyDropped, if_pos (hsb.trans hu.number.symm),
        if_neg (by rw [kept hreason]; decide)] at hsettles
      exact hsettles
    have hkept (hreason : reason = 0#8 ∨ reason = 2#8) : Rowed s slot.toNat (.carried term c (some sb) lc) u := by
      rwa [stays hreason] at hu
    refine ⟨fun hreason => ?_, fun hreason => ?_, fun hmode _ hc hsb hcarries hheld => ?_,
      fun hmode hreason hsb hc hrole hslot hheld => ?_, fun hmode _ hc hsb hcarries hheld => ?_,
      fun hmode hreason hsb hc hrole hslot hheld => ?_, fun hmode _ hc hsb hcarries hheld => ?_,
      fun hmode hreason hsb hc hnot hheld => ?_⟩
    · rw [hrow, hu.row, removed hreason]
    · rw [hrow, hu.row, stays hreason]
    · exact giverBack_joined hu hcarries hmode hheld (giver hc hsb)
    · rw [keptTaker_joined (hkept hreason) hrole hslot hmode hheld (taker hreason hsb hc)]
      exact ⟨rfl, setRole_standby_gate _, rfl, rfl, rfl⟩
    · exact giverBack_cedes hu hcarries hmode hc (giver hc hsb)
    · exact keptTaker_cedes (hkept hreason) hrole hslot hmode hsb (taker hreason hsb hc)
    · have hvain := giver hc hsb
      rw [giverBack_vain hu hmode hcarries] at hvain
      refine ⟨cede_of_vain hu (ρ := .carrier) hmode hheld rfl (congrArg some (pair_eq_ownPair hc)) hvain, fun hrole hgate => ?_⟩
      have := roleless_of_vain hu hmode hheld hrole hgate hvain
      exact ⟨this.ne nofun nofun, this.2.1⟩
    · have hvain := taker hreason hsb hc
      rw [dropStandby_vain (hkept hreason) hmode hnot] at hvain
      exact ⟨cede_of_vain (hkept hreason) (ρ := .standby) hmode hheld rfl (congrArg some (pair_eq_ownPair hsb)) hvain,
        fun hrole => (unplaced_of_vain (hkept hreason) hmode hheld hrole hvain).ne nofun nofun⟩
  · rw [hact, takeDrop_ignored hx (by simpa only [hv.row] using hacc)] at hsettles
    refine ⟨_, rfl, fun j _ => ?_, fun c sb lc p hs hends => ?_, fun _ => ?_⟩
    · rw [hsettles.row, hv.row]
    · have hge : ¬reason.toNat < 4 := fun hlt => hacc ⟨c, sb, lc, p, hs, hends, hlt⟩
      have no {b d : Byte} (hb : b.toNat < 4) (hd : d.toNat < 4) (h : reason = b ∨ reason = d) : False := by
        rcases h with rfl | rfl
        · exact hge hb
        · exact hge hd
      exact ⟨fun h => (no (by decide) (by decide) h).elim, fun h => (no (by decide) (by decide) h).elim,
        fun _ h => absurd h hge, fun _ h => (no (by decide) (by decide) h).elim, fun _ h => absurd h hge,
        fun _ h => (no (by decide) (by decide) h).elim, fun _ h => absurd h hge,
        fun _ h => (no (by decide) (by decide) h).elim⟩
    · rw [hsettles.row, hv.row]

end Sys2Proof.Machine
end

section
/-! # What settling does to the link

Settling takes frames from the link, and hands it CEDEs, SWAP-OFFERs, the comparison's SWAP-HOLDs and the frames that fell due. A
property of the link that goes through the first, and through the second for the frames that are handed over, passes through the whole
of settling (`LinkKeeps`). -/

namespace Sys2Proof.Machine

open Sys2Proof.Safety

/-- The property stays with a link that loses frames, and with one that is handed a frame that is `ok`. -/
structure LinkKeeps (ok : Frame → Prop) (I : Link → Prop) : Prop where
  thin : ∀ L L', L'.queue.Sublist L.queue → L'.owed.Sublist L.owed → L'.due.Sublist L.due → I L → I L'
  join : ∀ L q, (∀ f, q = .fixed f → ok f) → I L → I (L.join q)

section
variable {ok : Frame → Prop} {I : Link → Prop} (keeps : LinkKeeps ok I)
include keeps

theorem LinkKeeps.withdraw {L : Link} (p : Frame → Bool) (h : I L) : I (L.withdraw p) :=
  keeps.thin _ _ List.filter_sublist List.filter_sublist List.filter_sublist h

theorem LinkKeeps.send {L : Link} {f : Frame} (hf : ok f) (h : I L) : I (L.join (.fixed f)) :=
  keeps.join _ _ (fun _ e => QFrame.fixed.inj e ▸ hf) h

theorem LinkKeeps.requestRoll {L : Link} (h : I L) : I L.requestRoll := by
  rw [Link.requestRoll]
  split
  · exact h
  · split
    · exact keeps.thin L _ (List.Sublist.refl _) (List.Sublist.refl _) (List.Sublist.refl _) h
    · exact keeps.join L _ nofun h

/-- The comparison of R67 keeps the property where its SWAP-HOLDs are `ok`. -/
theorem LinkKeeps.holdKeeps {k : Nat} (hok : ∀ t v, ok (.swapHold (byteOf k) t v)) : HoldKeeps k I where
  forget L h := keeps.thin L _ (List.Sublist.refl _) List.filter_sublist List.filter_sublist h
  drop L h := keeps.thin L _ (dropLastWhere_sublist _ _) (List.Sublist.refl _) (List.Sublist.refl _) h
  send _ t v h := keeps.send (hok t v) h

end

/-! ### What is handed over -/

/-- The frames that settling hands over for the lanes of the state, SWAP-HOLDs apart, are `ok`. -/
structure Sends (ok : Frame → Prop) (u : State) : Prop where
  offer : ∀ k, ok (.swapOffer (byteOf k) (u.termOf k))
  held : ∀ l k ρ r, (u.lane l).mark.isHeld = true → ok (u.cedeFrame k ρ l r)
  giver : ∀ l k t st a b, (u.lane l).ctx = .giver k t st a b → ok (u.cedeFrame k .carrier l .resting)

section
variable {ok : Frame → Prop} {I : Link → Prop} (keeps : LinkKeeps ok I) {u : State}
include keeps

theorem linkKeeps_dropTrial (l : LaneId) (h : I u.link) : I (u.dropTrial l).link := keeps.withdraw _ h

theorem linkKeeps_replaceRow (k : Nat) (h : I u.link) : I (State.replaceRow k u).link := by
  obtain ⟨due, hrow⟩ := replaceRow_eq k u
  have loop (ls : List LaneId) (v : State) (old : RowLocal) (p q : Option Nat) (hv : I v.link) :
      I (ls.foldl (fun s l => State.raiseLane old p q due k l s) v).link := by
    induction ls generalizing v with
    | nil => exact hv
    | cons l ls ih =>
      refine ih _ ?_
      simp only [State.raiseLane]
      repeat' split
      all_goals first | exact hv | exact linkKeeps_dropTrial keeps l hv
  rw [hrow]
  exact loop allLanes _ _ _ _ h

theorem linkKeeps_settleTrial (l : LaneId) (h : I u.link) : I (State.settleTrial l u).link := by
  simp only [State.settleTrial]
  split
  · exact linkKeeps_dropTrial keeps l h
  · exact h

theorem linkKeeps_assignOne (h : I u.link) : I u.assignOne.link := by
  simp only [State.assignOne]
  repeat' split
  · exact h
  · exact h
  · exact linkKeeps_dropTrial keeps _ h
  · exact h

theorem linkKeeps_giveUp {k : Nat} {ρ : CarriageRole} {l : LaneId} {r : CedeReason} (hok : ok (u.cedeFrame k ρ l r))
    (h : I u.link) : I (u.giveUp k ρ l r).link := keeps.send hok (keeps.withdraw _ h)

theorem linkKeeps_drainLane {k : Nat} {l : LaneId} (hok : ∀ ρ r, ok (u.cedeFrame k ρ l r))
    (hoffer : ok (.swapOffer (byteOf k) (u.termOf k))) (h : I u.link) : I (u.drainLane k l).link := by
  rw [State.drainLane]
  split
  · split
    · exact keeps.send hoffer h
    · exact linkKeeps_giveUp keeps (hok _ _) h
  · exact linkKeeps_giveUp keeps (hok _ _) h
  · exact h

theorem linkKeeps_drainIfResting {k : Nat} {l : LaneId} (hok : ∀ ρ r, ok (u.cedeFrame k ρ l r))
    (hoffer : ok (.swapOffer (byteOf k) (u.termOf k))) (h : I u.link) : I (u.drainIfResting k l).link := by
  rw [State.drainIfResting]
  split
  · exact linkKeeps_drainLane keeps hok hoffer h
  · exact h

theorem linkKeeps_settleHeldLane (l : LaneId) (sends : Sends ok u) (h : I u.link) : I (State.settleHeldLane l u).link := by
  obtain hu | ⟨fs, r, k, hmark, -, -, -, hu⟩ := lane_settleHeldLane_cases l u
  · rwa [hu]
  · have hheld : (u.lane l).mark.isHeld = true := by rw [hmark]; rfl
    have hwithdrawn : I ((u.withdraw (isReclaimCedeOf l)).withdraw (isCedeOf k l)).link :=
      keeps.withdraw _ (keeps.withdraw _ h)
    rw [hu]
    simp only [State.unheld]
    split
    · exact hwithdrawn
    · split
      · exact linkKeeps_drainIfResting keeps (u := State.modLane _ l _) (fun ρ r => sends.held l k ρ r hheld)
          (sends.offer k) hwithdrawn
      · exact keeps.send (sends.held l k _ _ hheld) hwithdrawn

theorem linkKeeps_settleSwap (l : LaneId) (sends : Sends ok u) (h : I u.link) : I (State.settleSwap l u).link := by
  simp only [State.settleSwap]
  split
  · exact h
  · rename_i k t st a b hctx
    simp only [State.settleGiver]
    repeat' split
    · exact h
    · exact h
    · exact linkKeeps_giveUp keeps (u := State.endCtx _ l) (sends.giver l k t st a b hctx) (keeps.withdraw _ h)
    · exact keeps.withdraw _ h
  · simp only [State.settleTaker]
    repeat' split
    all_goals exact keeps.withdraw _ h

omit keeps in
/-- The frames that fell due are handed over again, each in a state that differs in the link alone. -/
theorem sendDue_keeps (hcede : ∀ L f (p : Frame → Bool), I L → I (L.withdraw fun g => isSameCede f g && p g))
    (hsend : ∀ L f, ok f → I L → I (L.join (.fixed f))) (hdue : ∀ f, .fixed f ∈ u.link.due → ok f)
    (checks : ∀ v m, Within u v → (∀ l, v.lane l = u.lane l) → I v.link → I (v.holdCheck m).link)
    (h : I { u.link with due := [] }) : I u.sendDue.link := by
  have again (v : State) (q : QFrame) (hw : Within u v) (hv : ∀ l, v.lane l = u.lane l) (hq : ∀ f, q = .fixed f → ok f) (h : I v.link) :
      I (v.sendAgain q).link := by
    rw [State.sendAgain.eq_def]
    split
    · rw [State.forLanes]
      induction allLanes generalizing v with
      | nil => exact h
      | cons l ls ih =>
        rw [List.foldl_cons]
        split
        · exact ih _ (hw.trans (within_holdCheck v l)) (fun m => ((linkOnly_holdCheck v l).lane m).trans (hv m)) (checks v l hw hv h)
        · exact ih _ hw hv h
    · rename_i f _
      split
      · exact hsend _ f (hq f rfl) (hcede _ f _ h)
      · exact h
    · exact h
  have loop (qs : List QFrame) (v : State) (hw : Within u v) (hv : ∀ l, v.lane l = u.lane l) (hqs : ∀ f, .fixed f ∈ qs → ok f) (h : I v.link) :
      I (qs.foldl State.sendAgain v).link := by
    induction qs generalizing v with
    | nil => exact h
    | cons q qs ih =>
      refine ih _ (hw.trans (within_sendAgain v q)) (fun l => ((linkOnly_sendAgain v q).lane l).trans (hv l)) (fun f hf => hqs f (List.mem_cons_of_mem _ hf)) ?_
      exact again v q hw hv (fun f hf => hqs f (hf ▸ List.mem_cons_self)) h
  rw [State.sendDue]
  exact loop _ _ (.of_table rfl rfl rfl) (fun _ => rfl) hdue h

theorem linkKeeps_sendDue (hdue : ∀ f, .fixed f ∈ u.link.due → ok f)
    (checks : ∀ v m, Within u v → (∀ l, v.lane l = u.lane l) → I v.link → I (v.holdCheck m).link) (h : I u.link) :
    I u.sendDue.link :=
  sendDue_keeps (fun _ _ _ h => keeps.withdraw _ h) (fun _ _ hf h => keeps.send hf h) hdue checks
    (keeps.thin u.link _ (List.Sublist.refl _) (List.Sublist.refl _) (List.nil_sublist _) h)

theorem linkKeeps_joinIfComplete (hquiet : ∀ x n, ok (.quiet x n)) (h : I u.link) : I u.joinIfComplete.link := by
  rw [State.joinIfComplete]
  split
  · rw [State.enterJoined, State.quietStale]
    have hroll : I (State.requestRoll { u with mode := .joined, joinQuiet := none }).link := keeps.requestRoll h
    generalize State.requestRoll { u with mode := .joined, joinQuiet := none } = v at hroll
    induction allStations generalizing v with
    | nil => exact hroll
    | cons x xs ih =>
      refine ih _ ?_
      dsimp only
      split
      · exact keeps.send (hquiet _ _) hroll
      · exact hroll
  · exact h

/-- A property of the link passes through settling beside one of the lanes. -/
theorem settleKeeps_link {s : State} {c : Bool} {P : LaneId → Lane → Prop} (closed : ∀ l, LaneClosed s l (P l))
    (sends : ∀ u, Within s u → (∀ l, P l (u.lane l)) → Sends ok u)
    (checks : ∀ u m, Within s u → (∀ l, P l (u.lane l)) → I u.link → I (u.holdCheck m).link)
    (hdue : c = true → ∀ L f, I L → .fixed f ∈ L.due → ok f) :
    SettleKeeps s c fun u => (∀ l, P l (u.lane l)) ∧ I u.link :=
  have lanes := settleKeeps_lanes closed c
  { quiets := fun u hw h => ⟨lanes.quiets u hw h.1, keeps.withdraw _ h.2⟩
    replaceRow := fun k u hw h => ⟨lanes.replaceRow k u hw h.1, linkKeeps_replaceRow keeps k h.2⟩
    trial := fun l u hw h => ⟨lanes.trial l u hw h.1, linkKeeps_settleTrial keeps l h.2⟩
    held := fun l u hw h => ⟨lanes.held l u hw h.1, linkKeeps_settleHeldLane keeps l (sends u hw h.1) h.2⟩
    swap := fun l u hw h => ⟨lanes.swap l u hw h.1, linkKeeps_settleSwap keeps l (sends u hw h.1) h.2⟩
    moot := fun u hw h => ⟨lanes.moot u hw h.1, keeps.withdraw _ h.2⟩
    holdAgain := fun m u hw h => by
      refine ⟨lanes.holdAgain m u hw h.1, ?_⟩
      simp only [State.holdAgain]
      split
      · split
        · exact checks u m hw h.1 h.2
        · exact h.2
      · exact h.2
    sendDue := fun hc u hw h => by
      refine ⟨lanes.sendDue hc u hw h.1, linkKeeps_sendDue keeps (fun f hf => hdue hc _ f h.2 hf) (fun v m hwv hv hI => ?_) h.2⟩
      exact checks v m (hw.trans hwv) (fun l => by rw [hv]; exact h.1 l) hI
    assign := fun ha u hw h => ⟨lanes.assign ha u hw h.1, linkKeeps_assignOne keeps h.2⟩
    assignStandby := fun ha u hw h => by
      refine ⟨lanes.assignStandby ha u hw h.1, ?_⟩
      rw [assignStandbyOne_link]
      exact h.2 }

end

/-! ### Frames that are absent -/

/-- No frame but one on the line is held that the test means. -/
def Shed (p : Frame → Bool) (L : Link) : Prop :=
  NoIdle p L ∧ (∀ q ∈ L.owed, q.meets p = false) ∧ ∀ q ∈ L.due, q.meets p = false

theorem shed_withdraw (L : Link) (p : Frame → Bool) : Shed p (L.withdraw p) :=
  ⟨noIdle_withdraw L p, fun _ hq => by simpa using (List.mem_filter.1 hq).2, fun _ hq => by simpa using (List.mem_filter.1 hq).2⟩

theorem due_join (L : Link) (q : QFrame) : (L.join q).due = L.due := by
  rw [Link.join, Link.discard.eq_def]
  repeat' split
  all_goals rfl

theorem owed_join {L : Link} {q r : QFrame} (h : r ∈ (L.join q).owed) : r ∈ L.owed ∨ r = q
    ∨ ∃ e ∈ L.queue, e.onLine = false ∧ e.frame = r := by
  have howed : r ∈ L.owed ∨ (arrive q L.queue).2 = some r := by
    rw [Link.join, Link.discard.eq_def] at h
    split at h
    · exact .inl h
    · split at h
      · rcases List.mem_append.1 h with h | h
        · exact .inl h
        · rw [List.mem_singleton.1 h]
          exact .inr ‹_›
      · exact .inl h
  rcases howed with h | h
  · exact .inl h
  · right
    rw [arrive] at h
    split at h
    · cases h
    · split at h
      · exact .inl (Option.some.inj h).symm
      · rename_i rest victim hv
        split at h
        · obtain ⟨-, hperm, hidle⟩ := takeNewestIdle_perm _ hv
          exact .inr ⟨victim, hperm.symm.subset List.mem_cons_self, hidle, Option.some.inj h⟩
        · exact .inl (Option.some.inj h).symm

theorem linkKeeps_shed (p : Frame → Bool) : LinkKeeps (fun f => p f = false) (Shed p) where
  thin _ _ hqueue howed hdue h := ⟨fun e he => h.1 e (hqueue.subset he), fun q hq => h.2.1 q (howed.subset hq),
    fun q hq => h.2.2 q (hdue.subset hq)⟩
  join L q hq h := by
    have hmeets : q.meets p = false := by
      cases q with
      | fixed f => exact hq f rfl
      | _ => rfl
    refine ⟨h.1.join hmeets, fun r hr => ?_, fun r hr => h.2.2 r (due_join L q ▸ hr)⟩
    rcases owed_join hr with hr | rfl | ⟨e, he, hidle, rfl⟩
    · exact h.2.1 r hr
    · exact hmeets
    · exact h.1 e he hidle

/-- No frame at all is held that the test means. -/
def Absent (p : Frame → Bool) (L : Link) : Prop := L.heldFrame p = false

theorem absent_iff (p : Frame → Bool) (L : Link) : Absent p L ↔ (∀ e ∈ L.queue, e.frame.meets p = false)
    ∧ (∀ q ∈ L.owed, q.meets p = false) ∧ ∀ q ∈ L.due, q.meets p = false := by
  rw [Absent, ← Bool.not_eq_true, heldFrame_iff]
  simp [not_or]

theorem linkKeeps_absent (p : Frame → Bool) : LinkKeeps (fun f => p f = false) (Absent p) where
  thin _ _ hqueue howed hdue h := by
    rw [absent_iff] at h ⊢
    exact ⟨fun e he => h.1 e (hqueue.subset he), fun q hq => h.2.1 q (howed.subset hq), fun q hq => h.2.2 q (hdue.subset hq)⟩
  join L q hq h := by
    rw [absent_iff] at h ⊢
    obtain ⟨hqueue, howed, hdue⟩ := h
    have hmeets : q.meets p = false := by
      cases q with
      | fixed f => exact hq f rfl
      | _ => rfl
    refine ⟨fun e he => ?_, fun r hr => ?_, fun r hr => hdue r (due_join L q ▸ hr)⟩
    · rw [Link.join_queue] at he
      rcases of_mem_arrive he with he | rfl
      · exact hqueue e he
      · exact hmeets
    · rcases owed_join hr with hr | rfl | ⟨e, he, -, rfl⟩
      · exact howed r hr
      · exact hmeets
      · exact hqueue e he

/-- A withdrawn frame that is not on the line is gone. -/
theorem absent_withdraw {L : Link} {p : Frame → Bool} (h : L.onLineFrame p = false) : Absent p (L.withdraw p) := by
  have hshed := shed_withdraw L p
  rw [absent_iff]
  refine ⟨fun e he => ?_, hshed.2⟩
  cases hon : e.onLine with
  | false => exact hshed.1 e he hon
  | true => simpa [hon] using List.any_eq_false.1 h e (List.mem_filter.1 he).1

theorem ok_of_due {p : Frame → Bool} {L : Link} (h : Absent p L) {f : Frame} (hf : .fixed f ∈ L.due) : p f = false :=
  ((absent_iff p L).1 h).2.2 _ hf

theorem Shed.ok_of_due {p : Frame → Bool} {L : Link} (h : Shed p L) {f : Frame} (hf : .fixed f ∈ L.due) : p f = false :=
  h.2.2 _ hf

end Sys2Proof.Machine
end

section
/-! # A taker through settling -/

namespace Sys2Proof.Machine

open Sys2Proof.Safety

/-! ### Frames that no part of settling hands over -/

/-- The kinds of frame that settling makes are `ok`. -/
structure Makes (ok : Frame → Prop) : Prop where
  cede : ∀ slot role term lane r, ok (.cede slot role term lane r)
  offer : ∀ slot term, ok (.swapOffer slot term)
  hold : ∀ slot term v, ok (.swapHold slot term v)
  quiet : ∀ x n, ok (.quiet x n)

/-- A property of the link that goes through every frame settling makes comes out of settling. -/
theorem linkKeeps_settle {ok : Frame → Prop} {I : Link → Prop} (keeps : LinkKeeps ok I) (makes : Makes ok)
    (hdue : ∀ L f, I L → .fixed f ∈ L.due → ok f) {s : State} (hmode : s.mode.appliesFrames = true) (h : I s.link) (c : Bool) :
    I (s.settle c).link := by
  rw [settle_eq hmode]
  refine (settleBlocks_keeps (settleKeeps_link keeps (P := fun _ _ => True)
    (fun l => ⟨⟨fun _ _ _ => trivial, fun _ _ _ _ => trivial, fun _ _ _ _ _ _ _ _ _ _ _ => trivial,
      fun _ _ _ _ _ => trivial⟩, fun _ _ _ _ _ _ _ => trivial⟩)
    (fun u _ _ => ⟨fun _ => makes.offer _ _, fun _ _ _ _ _ => makes.cede _ _ _ _ _, fun _ _ _ _ _ _ _ => makes.cede _ _ _ _ _⟩)
    (fun u m _ _ hI => HoldKeeps.holdCheck (fun k _ => keeps.holdKeeps fun _ _ => makes.hold _ _ _) hI) fun _ => hdue)
    ⟨fun _ => trivial, linkKeeps_joinIfComplete keeps makes.quiet h⟩).2.2

theorem absent_settle {p : Frame → Bool} (makes : Makes fun f => p f = false) {s : State}
    (hmode : s.mode.appliesFrames = true) (h : Absent p s.link) (c : Bool) : Absent p (s.settle c).link :=
  linkKeeps_settle (linkKeeps_absent p) makes (fun _ _ hL hf => ok_of_due hL hf) hmode h c

theorem makes_drop (k : Nat) : Makes fun f => isDropFrame k f = false :=
  ⟨fun _ _ _ _ _ => rfl, fun _ _ => rfl, fun _ _ _ => rfl, fun _ _ => rfl⟩

/-! ### The taker's own lane -/

/-- A taker in a stage that the row keeps stays through settling, and so does a frame that the row and the lane want. -/
theorem swapSettles_taker {s : State} {l : LaneId} {y : Lane} {f : Frame} {k : Nat} {t : Term} {c sb : Pair} {lc : Option Station}
    {p : SwapPhase} {st : TakerStage} {al : Option Nat} (hrow : s.row k = .swapping t c sb lc p)
    (hctx : y.ctx = .taker k t st al) (hst : st ≠ .readied) (htrial : y.role ≠ .trial) (havailable : y.available = false)
    (hheld : y.mark.isHeld = false) (hlength : s.table.length ≤ 20) (howed : isOwed (.fixed f) = true)
    (hslot : ∀ j, (isGiverFrame j f || isTakerFrame j f) = true → byteOf j = byteOf k) (hcede : ∀ j m, isCedeOf j m f = false)
    (hwanted : ∀ u : State, SameRows s u → u.lane l = y → u.wants f = true) : SwapSettles s l y f (byteOf k) := by
  have hk : k < s.table.length := s.lt_length_of_row (by rw [hrow]; nofun)
  refine ⟨howed, hslot, hcede, htrial, hheld, havailable, fun _ => beside_of_row hlength hk fun m _ => .inr (by rw [hrow]; rfl),
    hwanted, fun u hu hl hholds => ?_⟩
  have hsame : State.settleSwap l u = u.withdraw fun g => isTakerFrame k g && !u.wants g := by
    simp only [State.settleSwap, hl, hctx, State.settleTaker]
    rw [if_pos (swappingAt_of_row ((hu k).trans hrow) _), if_neg fun h => hst h.1]
  rw [hsame]
  refine ⟨hl, hholds.withdraw ?_⟩
  rw [hwanted u hu hl]
  simp

/-! ### The pending SWAP-HOLD of a taker in DRAINING -/

/-- The SWAP-HOLD(SET) of the row. -/
def holdSet (k : Nat) (t : Term) : Frame := .swapHold (byteOf k) t 1#8

/-- A SWAP-HOLD of the slot that the taker does not want: `w` says that it wants the hold SET. -/
def strayHold (k : Nat) (t : Term) (w : Bool) (f : Frame) : Bool := isHoldFrame k f && !(w && f == holdSet k t)

/-- No SWAP-HOLD of the slot is held that the taker does not want, and none is due. -/
def HoldClear (k : Nat) (t : Term) (w : Bool) (L : Link) : Prop :=
  Absent (strayHold k t w) L ∧ ∀ q ∈ L.due, q.meets (isHoldFrame k) = false

/-- The SWAP-HOLDs held are the one that the taker wants. -/
def HoldPends (k : Nat) (t : Term) (w : Bool) (L : Link) : Prop :=
  HoldClear k t w L ∧ (w = true → Holds (holdSet k t) L)

section
variable {k : Nat} {t : Term} {w : Bool}

theorem heldFrame_imp {L : Link} {p q : Frame → Bool} (hpq : ∀ f, p f = true → q f = true) (h : L.heldFrame p = true) :
    L.heldFrame q = true := by
  have meets {x : QFrame} (hx : x.meets p = true) : x.meets q = true := by
    cases x with
    | fixed f => exact hpq f hx
    | _ => cases hx
  rw [heldFrame_iff] at h ⊢
  exact h.imp (fun ⟨e, he, hp⟩ => ⟨e, he, meets hp⟩)
    (Or.imp (fun ⟨x, hx, hp⟩ => ⟨x, hx, meets hp⟩) fun ⟨x, hx, hp⟩ => ⟨x, hx, meets hp⟩)

theorem holdSet_of_not_stray {f : Frame} (hhold : isHoldFrame k f = true) (hstray : strayHold k t w f = false) :
    w = true ∧ f = holdSet k t := by
  simpa [strayHold, hhold] using hstray

theorem HoldPends.heldFrame_set {L : Link} (h : HoldPends k t w L) : L.heldFrame (· == holdSet k t) = w := by
  cases w with
  | true => exact h.2 rfl
  | false =>
    refine Bool.eq_false_iff.2 fun hheld => ?_
    have : L.heldFrame (strayHold k t false) = true := heldFrame_imp (fun f hf => by
      rw [beq_iff_eq.1 hf]
      simp [strayHold, isHoldFrame, holdSet]) hheld
    rw [h.1.1] at this
    cases this

theorem HoldPends.heldFrame_clear {L : Link} (h : HoldPends k t w L) : L.heldFrame (· == .swapHold (byteOf k) t 0#8) = false := by
  refine Bool.eq_false_iff.2 fun hheld => ?_
  have : L.heldFrame (strayHold k t w) = true := heldFrame_imp (fun f hf => by
    rw [beq_iff_eq.1 hf]
    simp [strayHold, isHoldFrame, holdSet]) hheld
  rw [h.1.1] at this
  cases this

theorem strayHold_of_apart {j : Nat} (h : byteOf j ≠ byteOf k) (t' : Term) (v : Byte) :
    strayHold k t w (.swapHold (byteOf j) t' v) = false := by
  simp [strayHold, isHoldFrame, h]

theorem strayHold_of_not_hold {f : Frame} (h : isHoldFrame k f = false) : strayHold k t w f = false := by
  simp [strayHold, h]

theorem linkKeeps_holdClear : LinkKeeps (fun f => strayHold k t w f = false) (HoldClear k t w) where
  thin L L' hqueue howed hdue h := ⟨(linkKeeps_absent _).thin L L' hqueue howed hdue h.1, fun q hq => h.2 q (hdue.subset hq)⟩
  join L q hq h := ⟨(linkKeeps_absent _).join L q hq h.1, by rw [due_join]; exact h.2⟩

theorem holdClear_of_absent {L : Link} (h : Absent (isHoldFrame k) L) : HoldClear k t w L := by
  rw [absent_iff] at h
  refine ⟨(absent_iff _ _).2 ?_, h.2.2⟩
  have none {q : QFrame} (hq : q.meets (isHoldFrame k) = false) : q.meets (strayHold k t w) = false := by
    cases q with
    | fixed f => exact strayHold_of_not_hold hq
    | _ => rfl
  exact ⟨fun e he => none (h.1 e he), fun q hq => none (h.2.1 q hq), fun q hq => none (h.2.2 q hq)⟩

/-- The latest SWAP-HOLD in the queue, where all are the one that is wanted. -/
theorem latestHold_of_clear {L : Link} (h : ∀ e ∈ L.queue, e.frame.meets (strayHold k t w) = false) :
    L.latestHold k = none ∨ w = true ∧ (∃ on, L.latestHold k = some (true, on)) ∧ Holds (holdSet k t) L := by
  have read (e : QEntry) (he : e ∈ L.queue) (acc : Option (Bool × Bool)) : holdRead k acc e = acc
      ∨ w = true ∧ e.frame = .fixed (holdSet k t) ∧ holdRead k acc e = some (true, e.onLine) := by
    cases hhold : e.frame.meets (isHoldFrame k) with
    | false => exact .inl (holdRead_of_not hhold acc)
    | true =>
      cases hframe : e.frame with
      | fixed f =>
        have hstray := h e he
        rw [hframe] at hhold hstray
        obtain ⟨hw, rfl⟩ := holdSet_of_not_stray hhold hstray
        exact .inr ⟨hw, rfl, by simp [holdRead, hframe, holdSet]⟩
      | _ =>
        rw [hframe] at hhold
        cases hhold
  have fold (q : List QEntry) (hq : q ⊆ L.queue) (acc : Option (Bool × Bool)) : q.foldl (holdRead k) acc = acc
      ∨ w = true ∧ (∃ on, q.foldl (holdRead k) acc = some (true, on)) ∧ ∃ e ∈ L.queue, e.frame = .fixed (holdSet k t) := by
    induction q generalizing acc with
    | nil => exact .inl rfl
    | cons e q ih =>
      have he : e ∈ L.queue := hq List.mem_cons_self
      rw [List.foldl_cons]
      rcases ih (fun x hx => hq (List.mem_cons_of_mem _ hx)) (holdRead k acc e) with hr | hr
      · rw [hr]
        rcases read e he acc with hr | ⟨hw, hframe, hr⟩
        · exact .inl hr
        · exact .inr ⟨hw, ⟨_, hr⟩, e, he, hframe⟩
      · exact .inr hr
  rw [latestHold_eq]
  rcases fold L.queue (fun _ h => h) none with h | ⟨hw, hon, he⟩
  · exact .inl h
  · exact .inr ⟨hw, hon, (holds_iff L).2 (.inl he)⟩

/-- The taker's comparison leaves the hold that it wants pending (R67). -/
theorem holdPends_holdCheck {u : State} {l : LaneId} {al : Option Nat} {tk : Taker}
    (hctx : (u.lane l).ctx = .taker k t .draining al) (htk : (u.lane l).taker = some tk) (hw : w = !tk.aligned)
    (hrow : (u.row k).hold = false) (h : HoldClear k t w u.link) : HoldPends k t w (u.holdCheck l).link := by
  obtain ⟨v, hv⟩ : ∃ v : State, v = { u with link := { u.link with
      owed := u.link.owed.filter (fun q => !q.meets (isHoldFrame k)), due := u.link.due.filter (fun q => !q.meets (isHoldFrame k)) } } :=
    ⟨_, rfl⟩
  have hcheck : u.holdCheck l = v.compareHold k t w (8 + 1) := by
    simp only [State.holdCheck, hctx, htk]
    rw [hv, hw]
  have hclear : HoldClear k t w v.link := by
    rw [hv]
    exact linkKeeps_holdClear.thin u.link _ (List.Sublist.refl _) List.filter_sublist List.filter_sublist h
  have hvrow : (v.row k).hold = false := by
    rw [hv]
    exact hrow
  rw [hcheck, compareHold_succ]
  rcases latestHold_of_clear ((absent_iff _ _).1 hclear.1).1 with hnone | ⟨rfl, ⟨on, hon⟩, hholds⟩
  · rw [hnone]
    dsimp only
    cases w with
    | false =>
      rw [if_pos hvrow]
      exact ⟨hclear, nofun⟩
    | true =>
      rw [if_neg (by rw [hvrow]; decide)]
      exact ⟨linkKeeps_holdClear.send (by simp [strayHold, holdSet, holdByte]) hclear, fun _ => holds_join rfl _⟩
  · rw [hon]
    dsimp only
    rw [if_pos rfl]
    exact ⟨hclear, fun _ => hholds⟩

/-- The comparison for a lane in a swap of another slot does not touch the SWAP-HOLDs of this one. -/
theorem holdClear_holdCheck {u : State} {m : LaneId} (hapart : (u.lane m).apart (byteOf k)) (h : HoldClear k t w u.link) :
    HoldClear k t w (u.holdCheck m).link := by
  refine HoldKeeps.holdCheck (fun j hj => linkKeeps_holdClear.holdKeeps (strayHold_of_apart (hapart j ?_))) h
  cases hctx : (u.lane m).ctx with
  | taker i t st al =>
    rw [hctx] at hj
    rw [beq_iff_eq.1 hj]
    rfl
  | _ =>
    rw [hctx] at hj
    cases hj

theorem holds_holdCheck {u : State} {m : LaneId} (hapart : (u.lane m).apart (byteOf k)) (h : Holds (holdSet k t) u.link) :
    Holds (holdSet k t) (u.holdCheck m).link := by
  refine HoldKeeps.holdCheck (fun j hj => holdKeeps_holds rfl ?_) h
  rw [holdSet, isHoldFrame, beq_eq_false_iff_ne]
  refine Ne.symm (hapart j ?_)
  cases hctx : (u.lane m).ctx with
  | taker i t st al =>
    rw [hctx] at hj
    rw [beq_iff_eq.1 hj]
    rfl
  | _ =>
    rw [hctx] at hj
    cases hj

theorem holdPends_holdAgain {u : State} (m : LaneId)
    (checks : HoldPends k t w u.link → HoldPends k t w (u.holdCheck m).link) (h : HoldPends k t w u.link) :
    HoldPends k t w (State.holdAgain m u).link := by
  simp only [State.holdAgain]
  split
  · split
    · exact checks h
    · exact h
  · exact h

end

theorem holdPends_sendDue {k : Nat} {t : Term} {w : Bool} {u : State}
    (checks : ∀ v m, Within u v → (∀ l, v.lane l = u.lane l) → HoldPends k t w v.link → HoldPends k t w (v.holdCheck m).link)
    (h : HoldPends k t w u.link) : HoldPends k t w u.sendDue.link := by
  refine sendDue_keeps (ok := fun f => isHoldFrame k f = false) (fun L f p hL => ?_) (fun L f hf hL => ?_) (fun f hf => h.1.2 _ hf)
    checks ⟨?_, fun hw => ?_⟩
  · exact ⟨linkKeeps_holdClear.withdraw _ hL.1, fun hw => (hL.2 hw).withdraw (by cases f <;> rfl)⟩
  · exact ⟨linkKeeps_holdClear.send (strayHold_of_not_hold hf) hL.1, fun hw => (hL.2 hw).join rfl _⟩
  · exact linkKeeps_holdClear.thin u.link _ (List.Sublist.refl _) (List.Sublist.refl _) (List.nil_sublist _) h.1
  · rw [holds_iff]
    refine ((holds_iff _).1 (h.2 hw)).imp_right fun hor => hor.imp_right fun hmem => ?_
    have hhold := h.1.2 _ hmem
    simp [QFrame.meets, isHoldFrame, holdSet] at hhold

/-! ### The taker's lane and its SWAP-HOLD through settling -/

/-- A taker in DRAINING on a row in phase DRAINING with the hold CLEAR. -/
structure Drains (s : State) (l : LaneId) (y : Lane) (k : Nat) (t : Term) (w : Bool) : Prop where
  row : ∃ c sb lc dc, s.row k = .swapping t c sb lc (.draining false dc)
  ctx : y.ctx = .taker k t .draining none
  taker : ∃ tk, y.taker = some tk ∧ w = !tk.aligned
  role : y.role = .taker
  held : y.mark.isHeld = false

section
variable {s : State} {l : LaneId} {y : Lane} {k : Nat} {t : Term} {w : Bool} (h : Drains s l y k t w)
include h

theorem Drains.of_rows {u : State} (hu : SameRows s u) : Drains u l y k t w := by
  obtain ⟨c, sb, lc, dc, hrow⟩ := h.row
  exact { h with row := ⟨c, sb, lc, dc, (hu k).trans hrow⟩ }

theorem Drains.laneClosed : LaneClosed s l (· = y) := by
  obtain ⟨c, sb, lc, dc, hrow⟩ := h.row
  refine laneClosed_fixed (by rw [h.role]; decide) h.held (fun c' => ?_) (available_of_ne_free (by rw [h.role]; decide))
  rw [h.ctx]
  exact no_move_taker (st := .draining) (swappingAt_of_row hrow _) (.inl nofun) none c'

theorem Drains.settles (hlength : s.table.length ≤ 20) : SwapSettles s l y (holdSet k t) (byteOf k) := by
  obtain ⟨c, sb, lc, dc, hrow⟩ := h.row
  have hk : k < s.table.length := s.lt_length_of_row (by rw [hrow]; nofun)
  have hbyte : (byteOf k).toNat = k := toNat_byteOf (by omega)
  refine swapSettles_taker hrow h.ctx nofun (by rw [h.role]; decide) (available_of_ne_free (by rw [h.role]; decide)) h.held hlength rfl
    (fun j hj => ?_) (fun _ _ => rfl) fun u hu hl => ?_
  · simp only [holdSet, isGiverFrame, isTakerFrame, Bool.false_or, beq_iff_eq] at hj
    exact hj.symm
  · have hdraining := swappingAt_of_row ((hu k).trans hrow) SwapPhase.isDraining
    simp only [State.wants, holdSet, hbyte, hdraining]
    rw [show (SwapPhase.draining false dc).isDraining = true from rfl, Bool.true_and]
    refine someLane l ?_
    dsimp only
    rw [hl, h.ctx]
    exact beq_self_eq_true k

theorem Drains.checks {u : State} (hu : SameRows s u) (hl : u.lane l = y) (hapart : ∀ m, m ≠ l → (u.lane m).apart (byteOf k))
    (m : LaneId) (hI : HoldClear k t w u.link) : HoldClear k t w (u.holdCheck m).link := by
  by_cases hm : m = l
  · subst hm
    obtain ⟨c, sb, lc, dc, hrow⟩ := h.row
    obtain ⟨tk, htk, hw⟩ := h.taker
    exact (holdPends_holdCheck (by rw [hl]; exact h.ctx) (by rw [hl]; exact htk) hw (by rw [hu, hrow]; rfl) hI).1
  · exact holdClear_holdCheck (hapart m hm) hI

theorem Drains.pends {u : State} (hu : SameRows s u) (hl : u.lane l = y) (hapart : ∀ m, m ≠ l → (u.lane m).apart (byteOf k))
    (m : LaneId) (hI : HoldPends k t w u.link) : HoldPends k t w (u.holdCheck m).link := by
  by_cases hm : m = l
  · subst hm
    obtain ⟨c, sb, lc, dc, hrow⟩ := h.row
    obtain ⟨tk, htk, hw⟩ := h.taker
    exact holdPends_holdCheck (by rw [hl]; exact h.ctx) (by rw [hl]; exact htk) hw (by rw [hu, hrow]; rfl) hI.1
  · exact ⟨holdClear_holdCheck (hapart m hm) hI.1, fun hw => holds_holdCheck (hapart m hm) (hI.2 hw)⟩

/-- All lanes, as settling keeps them beside the taker. -/
theorem Drains.settleKeeps (hlength : s.table.length ≤ 20) (c : Bool) : SettleKeeps s c fun u =>
    (∀ m, (m = l → u.lane m = y) ∧ (m ≠ l → (u.lane m).apart (byteOf k))) ∧ HoldClear k t w u.link := by
  have hsettles := h.settles hlength
  refine settleKeeps_link linkKeeps_holdClear (P := fun m x => (m = l → x = y) ∧ (m ≠ l → x.apart (byteOf k)))
    (fun m => laneClosed_and (laneClosed_imp fun hm => hm ▸ h.laneClosed)
      (laneClosed_imp fun hm => laneClosed_apart fun hmode => hsettles.beside hmode m hm))
    (fun u _ _ => ⟨fun _ => rfl, fun _ _ _ _ _ => rfl, fun _ _ _ _ _ _ _ => rfl⟩)
    (fun u m hw hu hI => h.checks hw.row ((hu l).1 rfl) (fun m hm => (hu m).2 hm) m hI)
    fun _ L f hL hf => strayHold_of_not_hold (hL.2 _ hf)

/-- The taker keeps its lane, and the SWAP-HOLD that it wants stays pending, through settling. -/
theorem Drains.settled (hmode : s.mode.appliesFrames = true) (hlength : s.table.length ≤ 20) (hl : s.lane l = y)
    (hapart : ∀ m, m ≠ l → (s.lane m).apart (byteOf k)) (hI : HoldPends k t w s.link) (c : Bool) :
    (s.settle c).lane l = y ∧ HoldPends k t w (s.settle c).link := by
  have hj : Drains s.joinIfComplete l y k t w := h.of_rows (row_joinIfComplete s)
  have hjlength : s.joinIfComplete.table.length ≤ 20 := by rwa [table_joinIfComplete]
  have hlanes : ∀ m, (m = l → s.joinIfComplete.lane m = y) ∧ (m ≠ l → (s.joinIfComplete.lane m).apart (byteOf k)) := by
    intro m
    rw [lane_joinIfComplete]
    exact ⟨fun hm => hm ▸ hl, hapart m⟩
  have hclear : HoldClear k t w s.joinIfComplete.link := linkKeeps_joinIfComplete linkKeeps_holdClear (fun _ _ => rfl) hI.1
  rw [settle_eq hmode]
  cases w with
  | false =>
    obtain ⟨hlast, hlink⟩ := (settleBlocks_keeps (hj.settleKeeps hjlength c) ⟨hlanes, hclear⟩).2
    exact ⟨(hlast l).1 rfl, hlink, nofun⟩
  | true =>
    have pends {u : State} (hJ : HoldClear k t true u.link) (hu : SwapKept l y (holdSet k t) (byteOf k) u) :
        HoldPends k t true u.link := ⟨hJ, fun _ => hu.2.2⟩
    obtain ⟨⟨-, hlink⟩, hkept⟩ := (settleBlocks_keeps (settleKeeps_swap (hj.settles hjlength) (hj.settleKeeps hjlength c)
      (fun m u hw hJ hu => (holdPends_holdAgain m (hj.pends hw.row hu.1 hu.2.1 m) (pends hJ.2 hu)).2 rfl)
      fun _ u hw hJ hu => (holdPends_sendDue (fun v m hv hlanes => hj.pends (fun i => (hv.row i).trans (hw.row i))
        ((hlanes l).trans hu.1) (fun m hm => by rw [hlanes]; exact hu.2.1 m hm) m) (pends hJ.2 hu)).2 rfl)
      ⟨⟨hlanes, hclear⟩, swapKept_joinIfComplete (h.settles hlength) ⟨hl, hapart, hI.2 rfl⟩⟩).2
    exact ⟨hkept.1, hlink, fun _ => hkept.2.2⟩

end

end Sys2Proof.Machine
end

section
/-! # SWAP-GO and SWAP-HOLD -/

namespace Sys2Proof.Machine

open Sys2Proof.Safety

/-! ### SWAP-GO -/

theorem row_holdChecks (s : State) (k j : Nat) :
    (s.forLanes fun l s => if (s.lane l).ctx.isTaker k then s.holdCheck l else s).row j = s.row j :=
  (linkOnly_foldl _ (fun s l => linkOnly_ite (linkOnly_holdCheck s l) (.refl s)) allLanes s).row j

/-- The giver's side of an accepted SWAP-GO (R66, R71). -/
def State.giverGoes (s : State) (k : Nat) (t : Term) (c : Pair) (n : Nat) : State :=
  if c.station = s.number ∧ (s.lane c.lane).role = .carrier ∧ (s.lane c.lane).slot = some k
      ∧ (s.lane c.lane).ctx.isGiver k = true then
    s.modLane c.lane fun y => { y.setRole .giver with ctx := .giver k t .draining n 0 }
  else s

/-- The taker's side of an accepted SWAP-GO (R66, R67). -/
def State.takerGoes (s : State) (k : Nat) (sb : Pair) : State :=
  if sb.station = s.number ∧ (s.lane sb.lane).ctx.isTaker k = true then s.takerGo sb.lane else s

section
variable {v : State} {sender : BitVec 4} {x : Station} {slot a : Byte} {term : Term} (hx : v.mayAct sender = some x)
include hx

theorem takeGo_accepted {c sb : Pair} {lc : Option Station} (hrow : v.row slot.toNat = .swapping term c sb lc .ready)
    (hc : c.station = x) (ha : 16 ≤ a.toNat) :
    v.takeGo sender slot term a
      = ((v.putRow slot.toNat (.swapping term c sb lc (.draining false a.toNat))).giverGoes slot.toNat term c a.toNat).takerGoes
          slot.toNat sb := by
  subst hc
  simp only [State.takeGo, hx, hrow, ha, and_self, if_true]
  rfl

theorem takeGo_ignored (hnot : ¬∃ c sb lc, v.row slot.toNat = .swapping term c sb lc .ready ∧ c.station = x ∧ 16 ≤ a.toNat) :
    v.takeGo sender slot term a = v := by
  simp only [State.takeGo, hx]
  split
  · rename_i y t c sb lc hy hrow
    obtain rfl := Option.some.inj hy
    refine if_neg ?_
    rintro ⟨hc, rfl, ha⟩
    exact hnot ⟨c, sb, lc, hrow, hc, ha⟩
  · rfl

theorem row_takeHold_accepted {c sb : Pair} {lc : Option Station} {h h' : Bool} {dc : Nat}
    (hrow : v.row slot.toNat = .swapping term c sb lc (.draining h dc)) (hsb : sb.station = x) (hh : holdOf a = some h') (j : Nat) :
    (v.takeHold sender slot term a).row j = (v.putRow slot.toNat (.swapping term c sb lc (.draining h' dc))).row j := by
  simp only [State.takeHold, hx, hrow, hh, hsb, and_self, if_true]
  split
  · exact row_holdChecks _ _ j
  · rfl

theorem row_takeHold_ignored (hnot : ¬∃ c sb lc h dc, v.row slot.toNat = .swapping term c sb lc (.draining h dc) ∧ sb.station = x
    ∧ (a = 0#8 ∨ a = 1#8)) (j : Nat) : (v.takeHold sender slot term a).row j = v.row j := by
  have hsame (s : State) (hs : s = v) : (if some x = some v.number then
      s.forLanes fun l s => if (s.lane l).ctx.isTaker slot.toNat then s.holdCheck l else s else s).row j = v.row j := by
    subst hs
    split
    · exact row_holdChecks _ _ j
    · rfl
  simp only [State.takeHold, hx]
  refine hsame _ ?_
  split
  · rename_i y t c sb lc h dc h' hy hrow hh
    obtain rfl := Option.some.inj hy
    refine if_neg ?_
    rintro ⟨hsb, rfl⟩
    refine hnot ⟨c, sb, lc, h, dc, hrow, hsb, ?_⟩
    rw [holdOf] at hh
    split at hh
    · exact .inr ‹_›
    · split at hh
      · exact .inl ‹_›
      · cases hh
  · rfl

end

/-! ### The taker's stage becomes DRAINING -/

/-- The trace's entry marked LAST is there and the taker is not ALIGNED: it makes its rough cut (R69). -/
def Taker.late (tk : Taker) : Bool := !tk.aligned && tk.trace.any (·.last)

theorem Taker.late_iff (tk : Taker) : tk.late = true ↔ tk.aligned = false ∧ tk.trace.any (·.last) = true := by
  simp [Taker.late]

theorem takerDrains_eq {u : State} {l : LaneId} {tk : Taker} (htk : (u.lane l).taker = some tk) (k : Nat) (t : Term) :
    u.takerDrains l k t = if tk.late = true then (u.setCtx l (.taker k t .draining none)).openTaker l k t
      else (u.setCtx l (.taker k t .draining none)).holdCheck l := by
  have : ((u.setCtx l (.taker k t .draining none)).lane l).taker = some tk := by rw [lane_setCtx]; exact htk
  simp only [State.takerDrains, this]
  rfl

theorem within_openTaker (s : State) (l : LaneId) (k : Nat) (t : Term) : Within s (s.openTaker l k t) :=
  ((within_modLane s l _).trans (within_withdraw _ _)).trans (within_sendOver _ _)

theorem linkKeeps_takerDrains {ok : Frame → Prop} {I : Link → Prop} (keeps : LinkKeeps ok I)
    (hhold : ∀ slot t v, ok (.swapHold slot t v)) (hdone : ∀ slot t b, ok (.swapDone slot t b)) {u : State} (h : I u.link)
    (l : LaneId) (k : Nat) (t : Term) : I (u.takerDrains l k t).link := by
  have holdKeeps (k : Nat) : HoldKeeps k I := keeps.holdKeeps fun t v => hhold _ t v
  simp only [State.takerDrains]
  split
  · exact h
  · split
    · rw [State.openTaker, State.sendOver]
      exact HoldKeeps.holdsAgain (fun _ k _ => holdKeeps k) (keeps.send (hdone _ _ _) (keeps.withdraw _ h))
    · exact HoldKeeps.holdCheck (s := u.setCtx l _) (fun k _ => holdKeeps k) h

theorem Rowed.withdraw {s u : State} {k : Nat} {r : Row} (h : Rowed s k r u) (p : Frame → Bool) : Rowed s k r (u.withdraw p) :=
  ⟨h.lane, h.row, h.other, h.mode, h.number, h.length⟩

theorem within_takerDrains (s : State) (l : LaneId) (k : Nat) (t : Term) : Within s (s.takerDrains l k t) := by
  simp only [State.takerDrains]
  split
  · exact within_setCtx s l _
  · exact (within_setCtx s l _).trans (within_ite (within_openTaker _ l k t) (within_holdCheck _ l))

/-- The lane of a taker whose stage becomes DRAINING. -/
def Lane.drains (k : Nat) (t : Term) (x : Lane) : Lane := { x with ctx := .taker k t .draining none }

section
variable {s u t : State} {slot : Byte} {n : Term} {c sb : Pair} {lc : Option Station} {dc : Nat} {l : LaneId} {tk : Taker}
  (hu : Rowed s slot.toNat (.swapping n c sb lc (.draining false dc)) u) (hmode : s.mode.appliesFrames = true)
  (hlength : s.table.length ≤ 20) (hrole : (s.lane l).role = .taker) (hheld : (s.lane l).mark.isHeld = false)
  (htk : (s.lane l).taker = some tk) (hbeside : NoSwapBeside s slot l) (h : SettlesTo (u.takerDrains l slot.toNat n) t)
include hu hmode hlength hrole hheld htk hbeside h

theorem takerDrains_waits (hlate : tk.late = false) (hclear : Absent (isHoldFrame slot.toNat) u.link) :
    t.lane l = (s.lane l).drains slot.toNat n ∧ HoldPends slot.toNat n (!tk.aligned) t.link := by
  obtain ⟨w, hw, rfl⟩ := h
  have hdrains := takerDrains_eq (u := u) (l := l) (by rw [hu.lane]; exact htk) slot.toNat n
  rw [if_neg (by rw [hlate]; decide)] at hdrains
  have honly := linkOnly_holdCheck (u.setCtx l (.taker slot.toNat n .draining none)) l
  have hlane : w.lane l = (s.lane l).drains slot.toNat n := by
    rw [hw.lane, hdrains, honly.lane, lane_setCtx, hu.lane]
    rfl
  have hrow : w.row slot.toNat = .swapping n c sb lc (.draining false dc) := by
    rw [hw.row, hdrains, honly.row]
    exact hu.row
  have hmode' : w.mode = s.mode := by
    rw [hw.mode, hdrains, (within_holdCheck _ l).mode]
    exact hu.mode
  have hlength' : w.table.length = s.table.length := by
    rw [hw.length, hdrains, honly.table]
    exact hu.length
  have hpends : HoldPends slot.toNat n (!tk.aligned) w.link := by
    rw [hw.link, hdrains]
    refine holdPends_holdCheck (al := none) (tk := tk) (by rw [lane_setCtx]) (by rw [lane_setCtx, hu.lane]; exact htk) rfl ?_
      (holdClear_of_absent hclear)
    show (u.row slot.toNat).hold = false
    rw [hu.row]
    rfl
  have drains : Drains w l ((s.lane l).drains slot.toNat n) slot.toNat n (!tk.aligned) :=
    ⟨⟨c, sb, lc, dc, hrow⟩, rfl, ⟨tk, htk, rfl⟩, hrole, hheld⟩
  refine drains.settled (by rw [hmode']; exact hmode) (by rw [hlength']; exact hlength) hlane (fun m hm => ?_) hpends true
  rw [hw.lane, hdrains, honly.lane, lane_setCtx_ne _ _ hm, hu.lane, byteOf_toNat]
  exact fun j hj => hbeside m j hm hj

theorem takerDrains_opens (hlate : tk.late = true) :
    t.lane l = { (s.lane l).openGate with
        taker := some { trace := [], aligned := tk.aligned, feeding := false }, ctx := .taker slot.toNat n .opened none }
      ∧ Holds (.swapDone slot (n + 1#16) (byteOf l.val)) t.link := by
  obtain ⟨w, hw, rfl⟩ := h
  have hdrains := takerDrains_eq (u := u) (l := l) (by rw [hu.lane]; exact htk) slot.toNat n
  rw [if_pos hlate] at hdrains
  have hwithin := (within_setCtx u l (.taker slot.toNat n .draining none)).trans (within_openTaker _ l slot.toNat n)
  have hlane : w.lane l = { (s.lane l).openGate with
        taker := some { trace := [], aligned := tk.aligned, feeding := false }, ctx := .taker slot.toNat n .opened none } := by
    rw [hw.lane, hdrains, lane_openTaker, lane_setCtx, hu.lane, htk]
    simp only [Option.map_some, Lane.openGate]
    split <;> rfl
  have hrow : w.row slot.toNat = .swapping n c sb lc (.draining false dc) := by
    rw [hw.row, hdrains, hwithin.row, hu.row]
  have hmode' : w.mode = s.mode := by rw [hw.mode, hdrains, hwithin.mode, hu.mode]
  have hlength' : w.table.length = s.table.length := by rw [hw.length, hdrains, hwithin.length, hu.length]
  have hk : slot.toNat < s.table.length := by
    rw [← hlength']
    exact w.lt_length_of_row (by rw [hrow]; nofun)
  have hopened : ((s.lane l).openGate).role = .taker ∧ ((s.lane l).openGate).mark.isHeld = false := by
    rw [Lane.openGate]
    split <;> exact ⟨hrole, hheld⟩
  have hsettles : SwapSettles w l (w.lane l) (.swapDone slot (n + 1#16) (byteOf l.val)) (byteOf slot.toNat) := by
    refine swapSettles_taker hrow (by rw [hlane]) (st := .opened) (al := none) nofun (by rw [hlane]; simp [hrole])
      (available_of_ne_free (by rw [hlane]; simp [hrole])) (by rw [hlane]; exact hopened.2) (by rw [hlength']; exact hlength) rfl
      (fun j hj => ?_) (fun _ _ => rfl) fun v hv _ => ?_
    · simp only [isGiverFrame, isTakerFrame, Bool.false_or, beq_iff_eq] at hj
      rw [byteOf_toNat]
      exact hj.symm
    · have hdraining := swappingAt_of_row ((hv slot.toNat).trans hrow) SwapPhase.isDraining
      simp only [State.wants, BitVec.add_sub_cancel, hdraining]
      rfl
  have hsent : Holds (.swapDone slot (n + 1#16) (byteOf l.val)) w.link := by
    rw [hw.link, hdrains, State.openTaker, byteOf_toNat]
    exact heldFrame_sendOver rfl (fun _ => rfl) _
  have hkept := swapKept_settle (by rw [hmode']; exact hmode) hsettles (fun _ => rfl) ⟨rfl, fun m hm => ?_, hsent⟩ true
  · rw [← hlane]
    exact ⟨hkept.1, hkept.2.2⟩
  · rw [hw.lane, hdrains, (laneAndLink_openTaker _ l _ _).others m hm, lane_setCtx_ne _ _ hm, hu.lane, byteOf_toNat]
    exact fun j hj => hbeside m j hm hj

end

/-! ### The obligation -/

/-- A lane in no trial and not HELD, that no assignment takes and whose swap stands, stays. -/
theorem SettlesTo.fixed {a t : State} {l : LaneId} (h : SettlesTo a t) (hmode : a.mode.appliesFrames = true)
    (htrial : (a.lane l).role ≠ .trial) (havailable : (a.lane l).available = false) (hheld : (a.lane l).mark.isHeld = false)
    (hctx : ∀ w, SameRows a w → ∀ c, ¬CtxMove w (a.lane l).ctx c) : t.lane l = a.lane l := by
  obtain ⟨w, hw, rfl⟩ := h
  refine lane_settle (P := (· = a.lane l)) (by rw [hw.mode]; exact hmode)
    (laneClosed_fixed htrial hheld (hctx _ fun k => (row_joinIfComplete w k).trans (hw.row k)) havailable) (hw.lane l) true

section
variable {s u t : State} {slot : Byte} {n : Term} {c sb : Pair} {lc : Option Station} {dc : Nat}
  (hu : Rowed s slot.toNat (.swapping n c sb lc (.draining false dc)) u) (hmode : s.mode.appliesFrames = true)
include hu hmode

theorem giverGoes_settled (hc : c.station = s.number) (hrole : (s.lane c.lane).role = .carrier)
    (hslot : (s.lane c.lane).slot = some slot.toNat) (hgiver : (s.lane c.lane).ctx.isGiver slot.toNat = true)
    (hheld : (s.lane c.lane).mark.isHeld = false) (h : SettlesTo (u.giverGoes slot.toNat n c dc) t) :
    t.lane c.lane = { (s.lane c.lane).setRole .giver with ctx := .giver slot.toNat n .draining dc 0 } := by
  have hgoes : u.giverGoes slot.toNat n c dc
      = u.modLane c.lane fun y => { y.setRole .giver with ctx := .giver slot.toNat n .draining dc 0 } :=
    if_pos ⟨hc.trans hu.number.symm, by rw [hu.lane]; exact hrole, by rw [hu.lane]; exact hslot, by rw [hu.lane]; exact hgiver⟩
  have hlane : (u.giverGoes slot.toNat n c dc).lane c.lane
      = { (s.lane c.lane).setRole .giver with ctx := .giver slot.toNat n .draining dc 0 } := by
    rw [hgoes, State.lane_modLane_self, hu.lane]
  have hrow : (u.giverGoes slot.toNat n c dc).row slot.toNat = .swapping n c sb lc (.draining false dc) := by
    rw [hgoes]
    exact hu.row
  have hmode' : (u.giverGoes slot.toNat n c dc).mode = s.mode := by
    rw [hgoes]
    exact hu.mode
  rw [h.fixed (by rw [hmode']; exact hmode) (by rw [hlane]; nofun) (available_of_ne_free (by rw [hlane]; nofun))
    (by rw [hlane]; exact hheld), hlane]
  intro w hw c'
  rw [hlane]
  exact no_move_giver (swappingAt_of_row ((hw slot.toNat).trans hrow) _) .draining dc 0 c'

/-- A taker that SWAP-GO finds with its SWAP-DROP on the line waits for the row (R66). -/
theorem taker_waitsForDrop {l : LaneId} {al : Option Nat} (hrole : (s.lane l).role = .taker)
    (hheld : (s.lane l).mark.isHeld = false) (hctx : (s.lane l).ctx = .taker slot.toNat n (.dropping .alignTimeout) al)
    (hline : u.link.onLineFrame (isDropFrame slot.toNat) = true) (h : SettlesTo (u.takerGo l) t) : t.lane l = s.lane l := by
  have hsame : u.takerGo l = u := by
    simp only [State.takerGo, hu.lane, hctx]
    exact if_pos hline
  rw [hsame] at h
  rw [← hu.lane]
  refine h.fixed (by rw [hu.mode]; exact hmode) (by rw [hu.lane, hrole]; decide) (available_of_ne_free (by rw [hu.lane, hrole]; decide))
    (by rw [hu.lane]; exact hheld) fun w hw c' => ?_
  rw [hu.lane, hctx]
  exact no_move_taker (st := .dropping .alignTimeout) (swappingAt_of_row ((hw slot.toNat).trans hu.row) _) (.inl nofun) al c'

end

theorem row_giverGoes (s : State) (k : Nat) (t : Term) (c : Pair) (n j : Nat) : (s.giverGoes k t c n).row j = s.row j := by
  rw [State.giverGoes]
  split <;> rfl

theorem row_takerGoes (s : State) (k : Nat) (sb : Pair) (j : Nat) : (s.takerGoes k sb).row j = s.row j := by
  rw [State.takerGoes]
  split
  · exact row_of_skeleton (skeleton_takerGo s _) j
  · rfl

theorem giverGoes_number (s : State) (k : Nat) (t : Term) (c : Pair) (n : Nat) : (s.giverGoes k t c n).number = s.number := by
  rw [State.giverGoes]
  split <;> rfl

/-- What SWAP-GO starts at the taker that has READIED, or whose SWAP-DROP it withdraws (R66, R67, R69). -/
theorem taker_goes {s u t : State} {slot : Byte} {n : Term} {c sb : Pair} {lc : Option Station} {dc : Nat} {l : LaneId}
    {tk : Taker} {st : TakerStage} {al : Option Nat}
    (hu : Rowed s slot.toNat (.swapping n c sb lc (.draining false dc)) u) (hmode : s.mode.appliesFrames = true)
    (hlength : s.table.length ≤ 20) (hrole : (s.lane l).role = .taker) (hheld : (s.lane l).mark.isHeld = false)
    (htk : (s.lane l).taker = some tk) (hbeside : NoSwapBeside s slot l) (hctx : (s.lane l).ctx = .taker slot.toNat n st al)
    (hclear : Absent (isHoldFrame slot.toNat) u.link)
    (hst : st = .readied ∨ st = .dropping .alignTimeout ∧ u.link.onLineFrame (isDropFrame slot.toNat) = false)
    (h : SettlesTo (u.takerGo l) t) : (st = .dropping .alignTimeout → Absent (isDropFrame slot.toNat) t.link)
      ∧ (tk.late = false → t.lane l = (s.lane l).drains slot.toNat n ∧ HoldPends slot.toNat n (!tk.aligned) t.link)
      ∧ (tk.late = true → t.lane l = { (s.lane l).openGate with
            taker := some { trace := [], aligned := tk.aligned, feeding := false }, ctx := .taker slot.toNat n .opened none }
          ∧ Holds (.swapDone slot (n + 1#16) (byteOf l.val)) t.link) := by
  rcases hst with rfl | ⟨rfl, hline⟩
  · have hgo : u.takerGo l = u.takerDrains l slot.toNat n := by simp only [State.takerGo, hu.lane, hctx]
    rw [hgo] at h
    exact ⟨nofun, fun hlate => takerDrains_waits hu hmode hlength hrole hheld htk hbeside h hlate hclear,
      takerDrains_opens hu hmode hlength hrole hheld htk hbeside h⟩
  · have hgo : u.takerGo l = (u.withdraw (isDropFrame slot.toNat)).takerDrains l slot.toNat n := by
      simp only [State.takerGo, hu.lane, hctx]
      exact if_neg (by rw [hline]; decide)
    rw [hgo] at h
    have hu' := hu.withdraw (isDropFrame slot.toNat)
    refine ⟨fun _ => ?_, fun hlate => takerDrains_waits hu' hmode hlength hrole hheld htk hbeside h hlate
      ((linkKeeps_absent _).withdraw _ hclear), takerDrains_opens hu' hmode hlength hrole hheld htk hbeside h⟩
    obtain ⟨w, hw, rfl⟩ := h
    refine absent_settle (makes_drop _) ?_ ?_ true
    · rw [hw.mode, (within_takerDrains _ l _ _).mode]
      exact hu.mode ▸ hmode
    · rw [hw.link]
      exact linkKeeps_takerDrains (linkKeeps_absent _) (fun _ _ _ => rfl) (fun _ _ _ => rfl) (absent_withdraw hline) l _ _

/-- Settles O31. -/
theorem swapGoAndHold : Obligations.SwapGoAndHold := by
  refine fun s rx slot a term x => ⟨fun h => ?_, fun h => ?_⟩
  · obtain ⟨v, hv, hx, hsettles⟩ := frame_settles h rfl
    have hact : v.actOn (BitVec.ofNat 4 x.val) (.swapGo slot term a) = v.takeGo (BitVec.ofNat 4 x.val) slot term a := rfl
    by_cases hacc : ∃ c sb lc, s.row slot.toNat = .swapping term c sb lc .ready ∧ c.station = x ∧ 16 ≤ a.toNat
    · obtain ⟨c, sb, lc, hs, hc, ha⟩ := hacc
      have hu := hv.rowed (by rw [hs]; nofun) (.swapping term c sb lc (.draining false a.toNat))
      obtain ⟨u, hueq⟩ : ∃ u, u = v.putRow slot.toNat (.swapping term c sb lc (.draining false a.toNat)) := ⟨_, rfl⟩
      have hlink : u.link = v.link := by
        rw [hueq]
        rfl
      rw [hact, takeGo_accepted hx (by rw [hv.row]; exact hs) hc ha, ← hueq] at hsettles
      rw [← hueq] at hu
      have hrow (j : Nat) : (s.completeFrame rx (.swapGo slot term a)).row j = u.row j := by
        rw [hsettles.row, row_takerGoes, row_giverGoes]
      refine ⟨_, rfl, fun j hj => (hrow j).trans (hu.other j hj), fun c' sb' lc' hs' _ _ => ?_,
        fun hnot => absurd ⟨c, sb, lc, hs, hc, ha⟩ hnot⟩
      rw [hs] at hs'
      obtain ⟨-, rfl, rfl, -, -⟩ := Row.swapping.inj hs'
      refine ⟨?_, fun hown hsb hrole hslot hgiver hheld => ?_,
        fun st al tk hsb hown hrole hslot hheld hctx htk hbeside hlength hclear => ?_⟩
      · rw [hrow, hu.row, ← (Row.swapping.inj hs').2.2.2.1]
      · have hgoes : SettlesTo (u.giverGoes slot.toNat term c a.toNat) (s.completeFrame rx (.swapGo slot term a)) := by
          rwa [State.takerGoes, if_neg fun hstation => hsb (by rw [hstation.1, giverGoes_number, hu.number])] at hsettles
        rw [giverGoes_settled hu h.1 hown hrole hslot hgiver hheld hgoes]
        exact ⟨rfl, by simp [Lane.setRole, LaneRole.mayOpen], rfl⟩
      · have hgo : SettlesTo (u.takerGo sb.lane) (s.completeFrame rx (.swapGo slot term a)) := by
          rwa [State.giverGoes, if_neg fun hstation => hown (by rw [hstation.1, hu.number]), State.takerGoes,
            if_pos ⟨hsb.trans hu.number.symm, by rw [hu.lane, hctx]; exact beq_self_eq_true slot.toNat⟩] at hsettles
        have hqueue : v.link.queue = s.link.queue := hv.queue (by rw [← hc]; exact hown)
        have hline : u.link.onLineFrame (isDropFrame slot.toNat) = s.link.onLineFrame (isDropFrame slot.toNat) := by
          rw [hlink, Link.onLineFrame, hqueue]
          rfl
        refine ⟨fun hst hon => ?_, fun hst => ?_⟩
        · rw [hst] at hctx
          rw [taker_waitsForDrop hu h.1 hrole hheld hctx (hline.trans hon) hgo]
        · have hnone : Absent (isHoldFrame slot.toNat) u.link := by
            rw [hlink]
            refine Bool.eq_false_iff.2 fun hheldFrame => ?_
            rw [hv.held _ hheldFrame] at hclear
            cases hclear
          obtain ⟨hdrop, hwaits, hopens⟩ := taker_goes hu h.1 hlength hrole hheld htk hbeside hctx hnone (by rw [hline]; exact hst) hgo
          refine ⟨hdrop, fun hlate => ?_, fun hlate => ?_⟩
          · obtain ⟨hlane, hpends⟩ := hwaits (Bool.eq_false_iff.2 fun hl => hlate (tk.late_iff.1 hl))
            have hset := hpends.heldFrame_set
            have hnotClear := hpends.heldFrame_clear
            rw [holdSet, byteOf_toNat] at hset
            rw [byteOf_toNat] at hnotClear
            rw [hlane]
            exact ⟨rfl, htk, rfl, hset, hnotClear⟩
          · obtain ⟨hlane, hdone⟩ := hopens (tk.late_iff.2 hlate)
            rw [hlane, hlate.1]
            exact ⟨rfl, rfl, Lane.openGate_gate _, hdone⟩
    · rw [hact, takeGo_ignored hx (by simpa only [hv.row] using hacc)] at hsettles
      refine ⟨_, rfl, fun j _ => ?_, fun c sb lc hs hc ha => absurd ⟨c, sb, lc, hs, hc, ha⟩ hacc, fun _ => ?_⟩
      all_goals rw [hsettles.row, hv.row]
  · obtain ⟨v, hv, hx, hsettles⟩ := frame_settles h rfl
    have hrow (j : Nat) : (s.completeFrame rx (.swapHold slot term a)).row j
        = (v.takeHold (BitVec.ofNat 4 x.val) slot term a).row j := hsettles.row j
    by_cases hacc : ∃ c sb lc h dc, s.row slot.toNat = .swapping term c sb lc (.draining h dc) ∧ sb.station = x
        ∧ (a = 0#8 ∨ a = 1#8)
    · obtain ⟨c, sb, lc, hold, dc, hs, hsb, ha⟩ := hacc
      have taken {b : Bool} (hb : holdOf a = some b) (j : Nat) := (hrow j).trans
        (row_takeHold_accepted hx ((hv.row _).trans hs) hsb hb j)
      have hself {b : Bool} (hb : holdOf a = some b) : (s.completeFrame rx (.swapHold slot term a)).row slot.toNat
          = .swapping term c sb lc (.draining b dc) := (taken hb _).trans (hv.rowed (by rw [hs]; nofun) _).row
      refine ⟨_, rfl, fun j hj => ?_, fun c' sb' lc' h' dc' hs' _ => ?_,
        fun hnot => absurd ⟨c, sb, lc, hold, dc, hs, hsb, ha⟩ hnot⟩
      · obtain ⟨b, hb⟩ : ∃ b, holdOf a = some b := by
          rcases ha with rfl | rfl
          · exact ⟨false, rfl⟩
          · exact ⟨true, rfl⟩
        rw [taken hb, State.row_putRow_ne _ _ hj, hv.row]
      · rw [hs] at hs'
        obtain ⟨-, rfl, rfl, rfl, hphase⟩ := Row.swapping.inj hs'
        obtain ⟨-, rfl⟩ := SwapPhase.draining.inj hphase
        exact ⟨fun ha => hself (by rw [ha]; rfl), fun ha => hself (by rw [ha]; rfl)⟩
    · have hsame (j : Nat) := (hrow j).trans ((row_takeHold_ignored hx (by simpa only [hv.row] using hacc) j).trans (hv.row j))
      refine ⟨_, rfl, fun j _ => hsame j, fun c sb lc h' dc hs hsb => ⟨fun ha => ?_, fun ha => ?_⟩, fun _ => hsame _⟩
      · exact absurd ⟨c, sb, lc, h', dc, hs, hsb, .inr ha⟩ hacc
      · exact absurd ⟨c, sb, lc, h', dc, hs, hsb, .inl ha⟩ hacc

end Sys2Proof.Machine
end

section
/-! # A row falls due -/

namespace Sys2Proof.Machine

open Sys2Proof.Safety

/-! ### The parts of settling before lanes are assigned -/

theorem LaneMoves.and {s : State} {l : LaneId} {P Q : Lane → Prop} (hP : LaneMoves s l P) (hQ : LaneMoves s l Q) :
    LaneMoves s l fun x => P x ∧ Q x where
  release x h ht := ⟨hP.release x h.1 ht, hQ.release x h.2 ht⟩
  ctx x c h hm := ⟨hP.ctx x c h.1 hm, hQ.ctx x c h.2 hm⟩
  gaveUp hmode x k t st a b h hc he hr := ⟨hP.gaveUp hmode x k t st a b h.1 hc he hr, hQ.gaveUp hmode x k t st a b h.2 hc he hr⟩
  unheld x y h hh hm := ⟨hP.unheld x y h.1 hh hm, hQ.unheld x y h.2 hh hm⟩

theorem available_gaveUp (x : Lane) : x.gaveUp.available = true := rfl

theorem laneMoves_available (s : State) (l : LaneId) : LaneMoves s l fun x => x.available = true where
  release x _ _ := available_release x
  ctx _ _ h _ := h
  gaveUp _ x _ _ _ _ _ _ _ _ _ := available_gaveUp x
  unheld x y h hh _ := by
    simp only [Lane.available, Bool.and_eq_true, beq_iff_eq] at h
    rw [h.2] at hh
    cases hh

theorem laneMoves_unbound (s : State) (l : LaneId) (k : Nat) : LaneMoves s l fun x => x.slot ≠ some k where
  release _ _ _ := nofun
  ctx _ _ h _ := h
  gaveUp _ _ _ _ _ _ _ _ _ _ _ := nofun
  unheld x y h _ hm := by
    cases hm with
    | released => nofun
    | carrier =>
      rw [Lane.openGate_slot]
      exact h
    | standby => exact h
    | offers =>
      dsimp only
      rw [Lane.openGate_slot]
      exact h
    | gaveUp => nofun

theorem laneMoves_notHeldFor (s : State) (l : LaneId) (k : Nat) : LaneMoves s l fun x => ∀ r, x.mark ≠ .held k r where
  release _ _ _ := fun _ => nofun
  ctx _ _ h _ := h
  gaveUp _ _ _ _ _ _ _ _ _ _ _ := fun _ => nofun
  unheld x y h _ hm := by
    cases hm with
    | released => exact fun _ => nofun
    | carrier =>
      rw [Lane.openGate_mark]
      exact fun _ => nofun
    | standby => exact fun _ => nofun
    | offers =>
      dsimp only
      rw [Lane.openGate_mark]
      exact fun _ => nofun
    | gaveUp => exact fun _ => nofun

theorem PartsKeep.and {s : State} {c : Bool} {I J : State → Prop} (hI : PartsKeep s c I) (hJ : PartsKeep s c J) :
    PartsKeep s c fun u => I u ∧ J u where
  quiets u hw h := ⟨hI.quiets u hw h.1, hJ.quiets u hw h.2⟩
  replaceRow k u hw h := ⟨hI.replaceRow k u hw h.1, hJ.replaceRow k u hw h.2⟩
  trial l u hw h := ⟨hI.trial l u hw h.1, hJ.trial l u hw h.2⟩
  held l u hw h := ⟨hI.held l u hw h.1, hJ.held l u hw h.2⟩
  swap l u hw h := ⟨hI.swap l u hw h.1, hJ.swap l u hw h.2⟩
  moot u hw h := ⟨hI.moot u hw h.1, hJ.moot u hw h.2⟩
  holdAgain l u hw h := ⟨hI.holdAgain l u hw h.1, hJ.holdAgain l u hw h.2⟩
  sendDue hc u hw h := ⟨hI.sendDue hc u hw h.1, hJ.sendDue hc u hw h.2⟩

theorem PartsKeep.forall {α : Type} {s : State} {c : Bool} {I : α → State → Prop} (h : ∀ a, PartsKeep s c (I a)) :
    PartsKeep s c fun u => ∀ a, I a u where
  quiets u hw hu a := (h a).quiets u hw (hu a)
  replaceRow k u hw hu a := (h a).replaceRow k u hw (hu a)
  trial l u hw hu a := (h a).trial l u hw (hu a)
  held l u hw hu a := (h a).held l u hw (hu a)
  swap l u hw hu a := (h a).swap l u hw (hu a)
  moot u hw hu a := (h a).moot u hw (hu a)
  holdAgain l u hw hu a := (h a).holdAgain l u hw (hu a)
  sendDue hc u hw hu a := (h a).sendDue hc u hw (hu a)

/-! ### The places of a row -/

section
variable {s t : State} (hrow : SameRows s t) (hplan : t.plan = s.plan) (hdir : t.dir = s.dir) (hnumber : t.number = s.number)
include hplan

theorem slotRec_of_plan (k : Nat) : t.slotRec k = s.slotRec k := by
  rw [State.slotRec, State.slots, hplan]
  rfl

theorem standbyWanted_of_plan (k : Nat) : t.standbyWanted k = s.standbyWanted k := by
  rw [State.standbyWanted, slotRec_of_plan hplan]
  rfl

include hdir hnumber

theorem candidate_of_plan (k : Nat) (x : Station) : t.candidate k x = s.candidate k x := by
  have hmask : t.inMask k x = s.inMask k x := by
    rw [State.inMask, slotRec_of_plan hplan]
    rfl
  have hjoined : t.isJoinedStation x = s.isJoinedStation x := by
    rw [State.isJoinedStation, State.peer, hdir, hnumber]
    rfl
  rw [State.candidate, hmask, hjoined]
  rfl

include hrow

theorem placeNow_of_rows (k : Nat) : t.placeNow k = s.placeNow k := by
  have horder : t.bidOrder k = s.bidOrder k := by
    rw [State.bidOrder, State.bidOrder, slotRec_of_plan hplan, hrow, funext (candidate_of_plan hplan hdir hnumber k)]
  rw [State.placeNow, horder, hrow, hnumber]
  rfl

theorem standbyPlaceNow_of_rows (k : Nat) : t.standbyPlaceNow k = s.standbyPlaceNow k := by
  have horder : t.standbyOrder k = s.standbyOrder k := by
    rw [State.standbyOrder, State.standbyOrder, hrow, funext (candidate_of_plan hplan hdir hnumber k)]
  rw [State.standbyPlaceNow, horder, hrow, hnumber, standbyWanted_of_plan hplan]
  rfl

end

theorem Within.placeNow {s u : State} (h : Within s u) (k : Nat) : u.placeNow k = s.placeNow k :=
  placeNow_of_rows h.row h.plan h.dir h.number k

theorem Within.standbyPlaceNow {s u : State} (h : Within s u) (k : Nat) : u.standbyPlaceNow k = s.standbyPlaceNow k :=
  standbyPlaceNow_of_rows h.row h.plan h.dir h.number k

/-- A row's places are computed again, and its local data are otherwise left. -/
theorem loc_replaceRow (j : Nat) (u : State) (k : Nat) : (State.replaceRow j u).loc k = u.loc k
    ∨ (State.replaceRow j u).loc k = { u.loc k with place := u.placeNow k, standbyPlace := u.standbyPlaceNow k } := by
  have htable : (State.replaceRow j u).loc k
      = (u.setLoc j { u.loc j with place := u.placeNow j, standbyPlace := u.standbyPlaceNow j }).loc k := by
    rw [State.replaceRow, State.loc_congr (table_forLanes _ (fun l s => ?_) _)]
    dsimp only
    repeat' split
    all_goals rfl
  rw [htable, State.setLoc]
  by_cases hk : k = j
  · subst hk
    by_cases hlength : k < u.table.length
    · exact .inr (State.loc_setEntry_self _ _ hlength)
    · left
      rw [State.setEntry, List.set_eq_of_length_le (by omega)]
  · exact .inl (State.loc_setEntry_ne _ _ hk)

/-- What holds of a row's local data, its places as they now are, stays through the parts of settling. -/
theorem partsKeep_loc {s : State} {k : Nat} {Q : RowLocal → Prop}
    (hQ : ∀ loc, Q loc → Q { loc with place := s.placeNow k, standbyPlace := s.standbyPlaceNow k }) (c : Bool) :
    PartsKeep s c fun u => Q (u.loc k) where
  quiets _ _ h := h
  replaceRow j u hw h := by
    rcases loc_replaceRow j u k with hr | hr
    · rwa [hr]
    · rw [hr, hw.placeNow, hw.standbyPlaceNow]
      exact hQ _ h
  trial l u _ h := by rwa [State.loc_congr (table_settleTrial l u)]
  held l u _ h := by rwa [State.loc_congr (table_settleHeldLane l u)]
  swap l u _ h := by rwa [State.loc_congr (table_settleSwap l u)]
  moot _ _ h := h
  holdAgain l u _ h := by rwa [State.loc_congr (linkOnly_holdAgain l u).table]
  sendDue _ u _ h := by rwa [State.loc_congr (table_sendDue u)]

/-! ### One row alone is due -/

theorem leastKey_nil {ks : List (Nat × Nat)} (h : leastKey ks = none) : ks = [] := by
  cases ks with
  | nil => rfl
  | cons a rest =>
    rw [leastKey] at h
    split at h
    · cases h
    · split at h <;> cases h

theorem firstDue_none {s : State} {isDue : Nat → Bool} (h : ∀ j, isDue j = false) (place : RowLocal → Option Nat) :
    s.firstDue isDue place = none := by
  cases hk : s.firstDue isDue place with
  | none => rfl
  | some k =>
    have := firstDue_some hk
    rw [h] at this
    cases this

theorem firstDue_alone {s : State} {isDue : Nat → Bool} {k : Nat} (hk : isDue k = true) (hlength : k < s.table.length)
    (hothers : ∀ j, j ≠ k → isDue j = false) (place : RowLocal → Option Nat) : s.firstDue isDue place = some k := by
  cases hj : s.firstDue isDue place with
  | none =>
    rw [State.firstDue, Option.map_eq_none_iff] at hj
    have hmem : k ∈ (List.range s.table.length).filter isDue := List.mem_filter.2 ⟨List.mem_range.2 hlength, hk⟩
    rw [List.map_eq_nil_iff.1 (leastKey_nil hj)] at hmem
    cases hmem
  | some j =>
    by_contra hne
    have hdue := firstDue_some hj
    rw [hothers j fun e => hne (congrArg some e)] at hdue
    cases hdue

theorem availableLane_some {s : State} {l : LaneId} (h : (s.lane l).available = true) :
    ∃ m, s.availableLane = some m ∧ (s.lane m).available = true := by
  cases hm : s.availableLane with
  | none => exact absurd h (List.find?_eq_none.1 hm l (mem_allLanes l))
  | some m => exact ⟨m, rfl, availableLane_available hm⟩

theorem slotBound_of_lane {s : State} {k : Nat} {l : LaneId} (h : (s.lane l).slot = some k) : s.slotBound k = true :=
  someLane l (by rw [h]; exact beq_self_eq_true _)

theorem slotBound_false {s : State} {k : Nat} (h : ∀ l, (s.lane l).slot ≠ some k) : s.slotBound k = false := by
  rw [State.slotBound, List.any_eq_false]
  exact fun l _ => by simpa using h l

theorem due_bound {s : State} {k : Nat} (h : s.slotBound k = true) : s.due k = false := by
  simp [State.due, h]

theorem standbyDue_bound {s : State} {k : Nat} (h : s.slotBound k = true) : s.standbyDue k = false := by
  simp [State.standbyDue, h]

theorem due_not_open {s : State} {k : Nat} (h : (s.row k).isOpen = false) : s.due k = false := by
  simp [State.due, h]

theorem standbyDue_not_lacking {s : State} {k : Nat} (h : (s.row k).lacksStandby = false) : s.standbyDue k = false := by
  simp [State.standbyDue, h]

theorem assignOne_idle {s : State} (h : ∀ j, s.due j = false) : s.assignOne = s := by
  simp only [State.assignOne, firstDue_none h]

theorem assignStandbyOne_idle {s : State} (h : ∀ j, s.standbyDue j = false) : s.assignStandbyOne = s := by
  simp only [State.assignStandbyOne, firstDue_none h]
  cases s.firstDue s.due RowLocal.place <;> rfl

/-- A lane that is not available stays as standby trials are assigned. -/
theorem lane_assignStandbyOne_taken {s : State} {l : LaneId} (h : (s.lane l).available = false) :
    s.assignStandbyOne.lane l = s.lane l := by
  rcases lane_assignStandbyOne_cases s l with hs | ⟨k, -, hav, -⟩
  · exact hs
  · rw [h] at hav
    cases hav

theorem available_bind (x : Lane) (k : Nat) (r : Option SlotRec) (m : ClaimMark) : (x.bind k r .trial m).available = false := rfl

section
variable {u : State} {k : Nat} (hactive : u.claimActive = true) (hlength : k < u.table.length)
  (havailable : ∃ l, (u.lane l).available = true)
include hactive hlength havailable

/-- The one due row is given a lane, which keeps its trial (R36). -/
theorem assignLanes_due (hdue : u.due k = true) (hothers : ∀ j, j ≠ k → (u.row j).isOpen = false) :
    ∃ l, u.assignLanes.lane l = (u.lane l).bind k (u.slotRec k) .trial .ordinary := by
  obtain ⟨l, hl⟩ := havailable
  obtain ⟨m, hm, -⟩ := availableLane_some hl
  have hbound : u.assignOne = u.bindLane m k .trial .ordinary := by
    simp only [State.assignOne, firstDue_alone hdue hlength fun j hj => due_not_open (hothers j hj), hm]
  have hlane : (u.bindLane m k .trial .ordinary).lane m = (u.lane m).bind k (u.slotRec k) .trial .ordinary :=
    State.lane_modLane_self u m _
  have hidle : (u.bindLane m k .trial .ordinary).assignOne = u.bindLane m k .trial .ordinary := by
    refine assignOne_idle fun j => ?_
    by_cases hj : j = k
    · subst hj
      exact due_bound (slotBound_of_lane (l := m) (by rw [hlane]; rfl))
    · exact due_not_open (hothers j hj)
  have htaken (v : State) (hv : v.lane m = (u.lane m).bind k (u.slotRec k) .trial .ordinary) :
      v.assignStandbyOne.lane m = (u.lane m).bind k (u.slotRec k) .trial .ordinary :=
    (lane_assignStandbyOne_taken (by rw [hv]; rfl)).trans hv
  refine ⟨m, ?_⟩
  rw [State.assignLanes, if_pos hactive, hbound, hidle, hidle, hidle]
  exact htaken _ (htaken _ (htaken _ (htaken _ hlane)))

/-- The one row due for a standby trial is given a lane where no row is OPEN (R46). -/
theorem assignLanes_standbyDue (hdue : u.standbyDue k = true) (hopen : ∀ j, (u.row j).isOpen = false)
    (hothers : ∀ j, j ≠ k → (u.row j).lacksStandby = false) :
    ∃ l, u.assignLanes.lane l = (u.lane l).bind k (u.slotRec k) .trial (.standby (u.termOf k)) := by
  obtain ⟨l, hl⟩ := havailable
  obtain ⟨m, hm, -⟩ := availableLane_some hl
  have hidle : u.assignOne = u := assignOne_idle fun j => due_not_open (hopen j)
  have hbound : u.assignStandbyOne = u.bindLane m k .trial (.standby (u.termOf k)) := by
    simp only [State.assignStandbyOne, firstDue_none fun j => due_not_open (hopen j), hm,
      firstDue_alone hdue hlength fun j hj => standbyDue_not_lacking (hothers j hj)]
  have hlane : (u.bindLane m k .trial (.standby (u.termOf k))).lane m
      = (u.lane m).bind k (u.slotRec k) .trial (.standby (u.termOf k)) := State.lane_modLane_self u m _
  have hlast : (u.bindLane m k .trial (.standby (u.termOf k))).assignStandbyOne
      = u.bindLane m k .trial (.standby (u.termOf k)) := by
    refine assignStandbyOne_idle fun j => ?_
    by_cases hj : j = k
    · subst hj
      exact standbyDue_bound (slotBound_of_lane (l := m) (by rw [hlane]; rfl))
    · exact standbyDue_not_lacking (hothers j hj)
  refine ⟨m, ?_⟩
  rw [State.assignLanes, if_pos hactive, hidle, hidle, hidle, hidle, hbound, hlast, hlast, hlast, hlane]

end

theorem tunedTo_bind (s : State) (k : Nat) (x : Lane) (role : LaneRole) (m : ClaimMark) :
    TunedTo s k (x.bind k (s.slotRec k) role m) := by
  intro r hr
  simp [Lane.bind, Lane.enterTune, Tuner.set, hr]

theorem mode_of_claimActive {s : State} (h : s.claimActive = true) : s.mode = .joined := by
  simp only [State.claimActive, Bool.and_eq_true, beq_iff_eq] at h
  exact h.1

/-- The row `k` waits for a lane: one is available, none is bound to the slot. -/
def Waits (k : Nat) (P : Lane → Prop) (Q : RowLocal → Prop) (l : LaneId) (u : State) : Prop :=
  (u.lane l).available = true ∧ (∀ m, (u.lane m).slot ≠ some k ∧ P (u.lane m)) ∧ Q (u.loc k)

/-- A row that waits for a lane waits still when lanes are assigned. -/
theorem waits_settleParts {s : State} {k : Nat} {P : Lane → Prop} {Q : RowLocal → Prop} {l : LaneId}
    (hP : ∀ m, LaneMoves s m P)
    (hQ : ∀ loc, Q loc → Q { loc with place := s.placeNow k, standbyPlace := s.standbyPlaceNow k }) (h : Waits k P Q l s) (c : Bool) :
    Within s (s.settleParts c) ∧ Waits k P Q l (s.settleParts c) :=
  settleParts_keeps ((partsKeep_lane (laneMoves_available s l) c).and
    ((PartsKeep.forall fun m => partsKeep_lane ((laneMoves_unbound s m k).and (hP m)) c).and (partsKeep_loc hQ c))) h

theorem reachTime_some {due c : Nat} {clock : Option Nat} (h : clock = some c) :
    ∃ c', reachTime due clock = some c' ∧ due ≤ c' := by
  subst h
  exact ⟨max c due, rfl, Nat.le_max_right _ _⟩

theorem bidDue_of_place {s : State} {k p : Nat} (h : (s.loc k).place = some p) : s.bidDue k
    = (s.setLoc k { s.loc k with bidClock := reachTime (p * 100) (s.loc k).bidClock }).settle false := by
  rw [State.bidDue]
  dsimp only
  split
  · rename_i hnone
    rw [h] at hnone
    cases hnone
  · rename_i q hq
    rw [h] at hq
    obtain rfl := Option.some.inj hq
    rfl

theorem standbyBidDue_of_place {s : State} {k p : Nat} (h : (s.loc k).standbyPlace = some p) : s.standbyBidDue k
    = (s.setLoc k { s.loc k with standbyClock := reachTime (1000 + p * 100) (s.loc k).standbyClock }).settle false := by
  rw [State.standbyBidDue]
  dsimp only
  split
  · rename_i hnone
    rw [h] at hnone
    cases hnone
  · rename_i q hq
    rw [h] at hq
    obtain rfl := Option.some.inj hq
    rfl

theorem due_of {s : State} {k p c : Nat} (hactive : s.claimActive = true) (hopen : (s.row k).isOpen = true)
    (hplace : (s.loc k).place = some p) (hclock : (s.loc k).bidClock = some c) (hle : p * 100 ≤ c)
    (htried : (s.loc k).tried = false) (hterm : (s.termOf k).toNat < 65535) (hbound : s.slotBound k = false)
    (hheld : ∀ l r, (s.lane l).mark ≠ .held k r) : s.due k = true := by
  rw [State.due, hactive, hopen, hplace, hclock, htried, hbound]
  simp only [hle, hterm, decide_true, Bool.not_false, Bool.and_self, Bool.true_and, List.all_eq_true]
  intro m _
  split
  · rename_i fs r hmark
    rw [bne_iff_ne]
    rintro rfl
    exact hheld m r hmark
  · rfl

/-- Settles O46. -/
theorem bidClocksBindTrials : Obligations.BidClocksBindTrials := by
  intro s k p hactive ⟨l, hl⟩ hunbound
  have unbound (m : LaneId) : (s.lane m).slot ≠ some k := by
    rw [State.slotBound, List.any_eq_false] at hunbound
    simpa using hunbound m (mem_allLanes m)
  have hmode := mode_of_claimActive hactive
  refine ⟨fun hopen hothers hplace hnow hclock htried hterm hheld => ?_, fun hlacks hopen hothers hwanted hplace hnow hclock htried => ?_⟩
  · have hk : k < s.table.length := s.lt_length_of_row fun hu => by
      rw [hu] at hopen
      cases hopen
    obtain ⟨c, hc⟩ := Option.isSome_iff_exists.1 hclock
    obtain ⟨c', hreach, hle⟩ := reachTime_some (due := p * 100) hc
    obtain ⟨v, hv⟩ : ∃ v, v = s.setLoc k { s.loc k with bidClock := reachTime (p * 100) (s.loc k).bidClock } := ⟨_, rfl⟩
    have hrows (j : Nat) : v.row j = s.row j := hv ▸ State.row_setLoc s k j _
    have hvmode : v.mode = .joined := hv ▸ hmode
    have hloc : v.loc k = { s.loc k with bidClock := reachTime (p * 100) (s.loc k).bidClock } :=
      hv ▸ State.loc_setEntry_self s _ hk
    have hvnow : v.placeNow k = some p := by
      rw [placeNow_of_rows (s := s) hrows (hv ▸ rfl) (hv ▸ rfl) (hv ▸ rfl), hnow]
    have hexec : s.bidDue k = v.settle false := hv ▸ bidDue_of_place hplace
    obtain ⟨hw, havailable, hlanes, hplaced, hclocked, huntried⟩ := waits_settleParts (s := v) (k := k) (l := l)
      (P := fun x => ∀ r, x.mark ≠ .held k r)
      (Q := fun loc => loc.place = some p ∧ loc.bidClock = some c' ∧ loc.tried = false)
      (fun m => laneMoves_notHeldFor v m k) (fun loc h => ⟨hvnow, h.2⟩)
      ⟨by rw [hv]; exact hl, fun m => by rw [hv]; exact ⟨unbound m, fun r => hheld m r⟩, by
        rw [hloc]
        exact ⟨hplace, hreach, htried⟩⟩ false
    obtain ⟨u, hu⟩ : ∃ u, u = v.settleParts false := ⟨_, rfl⟩
    rw [← hu] at hw havailable hlanes hplaced hclocked huntried
    have hsettled : v.settle false = u.assignLanes := by
      rw [settle_eq (by rw [hvmode]; rfl), joinIfComplete_of_ne (by rw [hvmode]; decide), State.settleBlocks, hu]
    have huactive : u.claimActive = true := by
      rw [hw.claimActive, hv]
      exact hactive
    have hterm' : (u.termOf k).toNat < 65535 := by
      have hsame : u.termOf k = s.termOf k := by
        rw [hw.termOf, State.termOf, hrows]
        rfl
      have hmax : s.termOf k ≠ 65535#16 := hterm
      rw [hsame]
      bv_omega
    have hdue : u.due k = true := due_of huactive (by rw [hw.row, hrows, hopen]) hplaced hclocked hle huntried hterm'
      (slotBound_false fun m => (hlanes m).1) fun m => (hlanes m).2
    obtain ⟨m, hm⟩ := assignLanes_due huactive (by rw [hw.length, hv]; exact (State.length_setEntry _ _ _).symm ▸ hk)
      ⟨l, havailable⟩ hdue fun j hj => by rw [hw.row, hrows, hothers j hj]
    have hslot : u.slotRec k = s.slotRec k := by
      rw [hw.slotRec, hv]
      rfl
    refine ⟨_, congrArg Host.Outcome.next hexec, fun j => ?_, m, ?_⟩
    · rw [row_settle, hrows]
    · rw [hsettled, hm, hslot]
      exact ⟨rfl, rfl, rfl, rfl, by simp [Lane.bind, Lane.enterTune, Lane.setRole, LaneRole.mayOpen], rfl, rfl,
        tunedTo_bind s k _ _ _⟩
  · have hk : k < s.table.length := s.lt_length_of_row fun hu => by
      rw [hu] at hlacks
      cases hlacks
    obtain ⟨c, hc⟩ := Option.isSome_iff_exists.1 hclock
    obtain ⟨c', hreach, hle⟩ := reachTime_some (due := 1000 + p * 100) hc
    obtain ⟨v, hv⟩ : ∃ v, v = s.setLoc k { s.loc k with standbyClock := reachTime (1000 + p * 100) (s.loc k).standbyClock } :=
      ⟨_, rfl⟩
    have hrows (j : Nat) : v.row j = s.row j := hv ▸ State.row_setLoc s k j _
    have hvmode : v.mode = .joined := hv ▸ hmode
    have hloc : v.loc k = { s.loc k with standbyClock := reachTime (1000 + p * 100) (s.loc k).standbyClock } :=
      hv ▸ State.loc_setEntry_self s _ hk
    have hvnow : v.standbyPlaceNow k = some p := by
      rw [standbyPlaceNow_of_rows (s := s) hrows (hv ▸ rfl) (hv ▸ rfl) (hv ▸ rfl), hnow]
    have hexec : s.standbyBidDue k = v.settle false := hv ▸ standbyBidDue_of_place hplace
    obtain ⟨hw, havailable, hlanes, hplaced, hclocked, huntried⟩ := waits_settleParts (s := v) (k := k) (l := l)
      (P := fun _ => True)
      (Q := fun loc => loc.standbyPlace = some p ∧ loc.standbyClock = some c' ∧ loc.standbyTried = false)
      (fun m => ⟨fun _ _ _ => trivial, fun _ _ _ _ => trivial, fun _ _ _ _ _ _ _ _ _ _ _ => trivial, fun _ _ _ _ _ => trivial⟩)
      (fun loc h => ⟨hvnow, h.2⟩)
      ⟨by rw [hv]; exact hl, fun m => by rw [hv]; exact ⟨unbound m, trivial⟩, by
        rw [hloc]
        exact ⟨hplace, hreach, htried⟩⟩ false
    obtain ⟨u, hu⟩ : ∃ u, u = v.settleParts false := ⟨_, rfl⟩
    rw [← hu] at hw havailable hlanes hplaced hclocked huntried
    have hsettled : v.settle false = u.assignLanes := by
      rw [settle_eq (by rw [hvmode]; rfl), joinIfComplete_of_ne (by rw [hvmode]; decide), State.settleBlocks, hu]
    have huactive : u.claimActive = true := by
      rw [hw.claimActive, hv]
      exact hactive
    have huwanted : u.standbyWanted k = true := by
      rw [hw.standbyWanted, hv]
      exact hwanted
    have hdue : u.standbyDue k = true := by
      rw [State.standbyDue, huactive, hw.row, hrows, hlacks, huwanted, hplaced, hclocked, huntried,
        slotBound_false fun m => (hlanes m).1]
      simp [hle]
    obtain ⟨m, hm⟩ := assignLanes_standbyDue huactive (by rw [hw.length, hv]; exact (State.length_setEntry _ _ _).symm ▸ hk)
      ⟨l, havailable⟩ hdue (fun j => by rw [hw.row, hrows, hopen j]) fun j hj => by rw [hw.row, hrows, hothers j hj]
    have hslot : u.slotRec k = s.slotRec k := by
      rw [hw.slotRec, hv]
      rfl
    have hterm : u.termOf k = s.termOf k := by
      rw [hw.termOf, State.termOf, hrows]
      rfl
    refine ⟨_, congrArg Host.Outcome.next hexec, fun j => ?_, m, ?_⟩
    · rw [row_settle, hrows]
    · rw [hsettled, hm, hslot, hterm]
      exact ⟨rfl, rfl, rfl, rfl, by simp [Lane.bind, Lane.enterTune, Lane.setRole, LaneRole.mayOpen], rfl,
        tunedTo_bind s k _ _ _⟩

end Sys2Proof.Machine
end

section
/-! # A lane that its rows still allow

A lane whose trial, HELD mark and swap the rows allow comes out of the settling of an event as it went in, but for its swap context. -/

namespace Sys2Proof.Machine

open Sys2Proof.Safety

/-! ### A queued frame of a low code -/

section
variable {p : Frame → Bool} {L : Link}

theorem queued_withdraw {q : Frame → Bool} (hpq : ∀ f, p f = true → q f = false) (h : L.queued p = true) :
    (L.withdraw q).queued p = true := by
  obtain ⟨e, he, hp⟩ := List.any_eq_true.1 h
  refine List.any_eq_true.2 ⟨e, List.mem_filter.2 ⟨he, ?_⟩, hp⟩
  cases hframe : e.frame with
  | fixed f =>
    rw [hframe] at hp
    simp [QFrame.meets, hpq f hp]
  | _ => simp [QFrame.meets]

/-- A frame of no higher code than the one that joins stays in the queue (R154). -/
theorem queued_join {q : QFrame} (hcode : ∀ f, p f = true → Frame.code f ≤ q.code) (h : L.queued p = true) :
    (L.join q).queued p = true := by
  obtain ⟨e, he, hp⟩ := List.any_eq_true.1 h
  have hle : QFrame.code e.frame ≤ q.code := by
    cases hframe : e.frame with
    | fixed f =>
      rw [hframe] at hp
      exact hcode f hp
    | _ =>
      rw [hframe] at hp
      cases hp
  refine List.any_eq_true.2 ⟨e, ?_, hp⟩
  rw [Link.join_queue, arrive]
  split
  · exact (insertEntry_perm _ _).symm.subset (List.mem_cons_of_mem _ he)
  · split
    · exact he
    · rename_i rest victim hv
      obtain ⟨-, hperm, -⟩ := takeNewestIdle_perm _ hv
      split
      · rename_i hlt
        rcases List.mem_cons.1 (hperm.subset he) with rfl | hrest
        · omega
        · exact (insertEntry_perm _ _).symm.subset (List.mem_cons_of_mem _ hrest)
      · exact he

end

/-- The frames meant are CEDEs by which a lane is HELD. -/
def Reclaims (l : LaneId) (p : Frame → Bool) : Prop := ∀ f, p f = true → isReclaimCedeOf l f = true

theorem code_of_reclaims {l : LaneId} {p : Frame → Bool} (h : Reclaims l p) {f : Frame} (hf : p f = true) : Frame.code f = 1 := by
  have := h f hf
  cases f with
  | cede => rfl
  | _ => cases this

section
variable {l : LaneId} {p : Frame → Bool} (hp : Reclaims l p) {u : State}
include hp

theorem reclaims_apart {q : Frame → Bool} (hq : ∀ slot role term lane fs, q (.cede slot role term lane (.reclaimed fs)) = false)
    (f : Frame) (hf : p f = true) : q f = false := by
  have := hp f hf
  cases f with
  | cede slot role term lane reason =>
    cases reason with
    | reclaimed fs => exact hq slot role term lane fs
    | _ => cases this
  | _ => cases this

theorem reclaims_ne {m : LaneId} (hm : m ≠ l) (f : Frame) (hf : p f = true) :
    isReclaimCedeOf m f = false ∧ ∀ k, isCedeOf k m f = false := by
  have hlane (lane : Byte) (h : lane = byteOf l.val) : (lane == byteOf m.val) = false := by
    rw [beq_eq_false_iff_ne, h]
    exact fun e => hm (byteOf_lane_inj e).symm
  have := hp f hf
  cases f with
  | cede slot role term lane reason =>
    cases reason with
    | reclaimed fs =>
      have := hlane lane (beq_iff_eq.1 this)
      exact ⟨this, fun k => by simp [isCedeOf, this]⟩
    | _ => cases this
  | _ => cases this

theorem reclaims_send {f : Frame} (hf : 1 ≤ Frame.code f) (h : u.link.queued p = true) : (u.send f).link.queued p = true :=
  queued_join (fun g hg => by
    rw [code_of_reclaims hp hg]
    exact hf) h

theorem queued_dropTrial (m : LaneId) (h : u.link.queued p = true) : (u.dropTrial m).link.queued p = true :=
  queued_withdraw (reclaims_apart hp fun _ _ _ _ _ => rfl) h

theorem queued_giveUp (k : Nat) (ρ : CarriageRole) (m : LaneId) (r : CedeReason) (h : u.link.queued p = true) :
    (u.giveUp k ρ m r).link.queued p = true :=
  reclaims_send hp (u := ((u.releaseLane m).endCtx m).withdraw _) (Nat.le_refl 1)
    (queued_withdraw (reclaims_apart hp fun _ _ _ _ _ => rfl) h)

theorem queued_drainIfResting (k : Nat) (m : LaneId) (h : u.link.queued p = true) :
    (u.drainIfResting k m).link.queued p = true := by
  rw [State.drainIfResting]
  split
  · rw [State.drainLane]
    split
    · split
      · exact reclaims_send hp (u := u.setCtx m _) (show 1 ≤ 7 by omega) h
      · exact queued_giveUp hp k _ m _ h
    · exact queued_giveUp hp k _ m _ h
    · exact h
  · exact h

/-- What becomes of another HELD lane does not touch the CEDEs of this one. -/
theorem queued_settleHeldLane {m : LaneId} (hm : m ≠ l) (h : u.link.queued p = true) :
    (State.settleHeldLane m u).link.queued p = true := by
  obtain hu | ⟨fs, r, k, -, -, -, -, hu⟩ := lane_settleHeldLane_cases m u
  · rwa [hu]
  · have hwithdrawn : ((u.withdraw (isReclaimCedeOf m)).withdraw (isCedeOf k m)).link.queued p = true :=
      queued_withdraw (fun f hf => (reclaims_ne hp hm f hf).2 k) (queued_withdraw (fun f hf => (reclaims_ne hp hm f hf).1) h)
    rw [hu]
    simp only [State.unheld]
    split
    · exact hwithdrawn
    · split
      · exact queued_drainIfResting hp (u := State.modLane _ m _) k m hwithdrawn
      · exact reclaims_send hp (u := State.releaseLane _ m) (Nat.le_refl 1) hwithdrawn

theorem queued_settleTrial (m : LaneId) (h : u.link.queued p = true) : (State.settleTrial m u).link.queued p = true := by
  simp only [State.settleTrial]
  split
  · exact queued_dropTrial hp m h
  · exact h

theorem queued_replaceRow (k : Nat) (h : u.link.queued p = true) : (State.replaceRow k u).link.queued p = true := by
  obtain ⟨due, hrow⟩ := replaceRow_eq k u
  have loop (ls : List LaneId) (v : State) (old : RowLocal) (a b : Option Nat) (hv : v.link.queued p = true) :
      (ls.foldl (fun s l => State.raiseLane old a b due k l s) v).link.queued p = true := by
    induction ls generalizing v with
    | nil => exact hv
    | cons m ms ih =>
      refine ih _ ?_
      simp only [State.raiseLane]
      repeat' split
      all_goals first | exact hv | exact queued_dropTrial hp m hv
  rw [hrow]
  exact loop allLanes _ _ _ _ h

end

/-! ### What settling finds of the lane -/

/-- The places that the lane's trial goes by are those of the row as it stands. -/
def Placed (s : State) (y : Lane) (u : State) : Prop :=
  ∀ k, y.slot = some k → (y.mark = .ordinary → (u.loc k).place = s.placeNow k)
    ∧ ((∃ t, y.mark = .standby t) → (u.loc k).standbyPlace = s.standbyPlaceNow k)

/-- The trial of the lane stands: its row allows it, and no place that it goes by has changed. -/
def TrialKept (s : State) (y : Lane) (u : State) : Prop := y.role = .trial → s.trialStands y = true ∧ Placed s y u

/-- The lane is HELD for a row still OPEN, and its CEDE is queued. -/
def HeldKept (s : State) (l : LaneId) (y : Lane) (u : State) : Prop :=
  ∀ fs r, y.mark = .held fs r → (s.row fs).isOpen = true ∧ u.link.queued (isReclaimCedeOf l) = true

/-- No giver of the lane gives its role up: its row is SWAPPING, or its SWAP-OFFER is held and no other lane is in a swap or HELD. -/
def GiverKept (s : State) (l : LaneId) (y : Lane) (u : State) : Prop :=
  ∀ k t st a b, y.ctx = .giver k t st a b → s.swappingAt k t (fun _ => true) = true
    ∨ (st = .offering ∧ ∀ v, SameRows s v → v.lane l = y → v.wants (.swapOffer (byteOf k) t) = true)
      ∧ u.link.heldFrame (isOfferFrame k) = true ∧ ∀ m, m ≠ l → (u.lane m).calm

/-- What the parts of settling up to the swaps leave. -/
structure StaysIn (s : State) (l : LaneId) (y : Lane) (u : State) : Prop where
  lane : u.lane l = y
  trial : TrialKept s y u
  held : HeldKept s l y u
  giver : GiverKept s l y u

theorem trialStands_of_rows {s u : State} (hrow : SameRows s u) (hplan : u.plan = s.plan) (hnumber : u.number = s.number)
    (x : Lane) : u.trialStands x = s.trialStands x := by
  have hterm (k : Nat) : u.termOf k = s.termOf k := by
    rw [State.termOf, hrow]
    rfl
  simp only [State.trialStands]
  split
  · rfl
  · simp only [show ∀ k, u.row k = s.row k from hrow, hterm, standbyWanted_of_plan hplan, hnumber]

theorem raised_self (p : Option Nat) : raised p p = false := by
  cases p <;> simp [raised]

section
variable {s : State} {l : LaneId} {y : Lane} {u v : State}

/-- The link loses no SWAP-OFFER and no CEDE of a HELD lane, and other lanes stay calm. -/
theorem StaysIn.of_link (h : StaysIn s l y u) (hlane : v.lane l = y) (htable : TrialKept s y v)
    (hqueued : u.link.queued (isReclaimCedeOf l) = true → v.link.queued (isReclaimCedeOf l) = true)
    (hoffer : ∀ k, u.link.heldFrame (isOfferFrame k) = true → v.link.heldFrame (isOfferFrame k) = true)
    (hcalm : ∀ m, m ≠ l → (u.lane m).calm → (v.lane m).calm) : StaysIn s l y v where
  lane := hlane
  trial := htable
  held fs r hmark := ⟨(h.held fs r hmark).1, hqueued (h.held fs r hmark).2⟩
  giver k t st a b hctx := (h.giver k t st a b hctx).imp_right fun ⟨hwant, hheld, hothers⟩ =>
    ⟨hwant, hoffer k hheld, fun m hm => hcalm m hm (hothers m hm)⟩

theorem TrialKept.of_table (h : TrialKept s y u) (htable : v.table = u.table) : TrialKept s y v :=
  fun hrole => ⟨(h hrole).1, fun k hk => by rw [State.loc_congr htable]; exact (h hrole).2 k hk⟩

theorem reclaims_self (l : LaneId) : Reclaims l (isReclaimCedeOf l) := fun _ h => h

theorem offer_withdraw {L : Link} {q : Frame → Bool} (hq : ∀ slot t, q (.swapOffer slot t) = false) (k : Nat)
    (h : L.heldFrame (isOfferFrame k) = true) : (L.withdraw q).heldFrame (isOfferFrame k) = true := by
  refine heldFrame_withdraw (fun f hf => ?_) h
  cases f with
  | swapOffer => exact hq _ _
  | _ => cases hf

theorem offer_dropTrial (m : LaneId) (k : Nat) (h : u.link.heldFrame (isOfferFrame k) = true) :
    (u.dropTrial m).link.heldFrame (isOfferFrame k) = true := offer_withdraw (fun _ _ => rfl) k h

theorem offer_replaceRow (j : Nat) (k : Nat) (h : u.link.heldFrame (isOfferFrame k) = true) :
    (State.replaceRow j u).link.heldFrame (isOfferFrame k) = true := by
  obtain ⟨due, hrow⟩ := replaceRow_eq j u
  have loop (ls : List LaneId) (v : State) (old : RowLocal) (a b : Option Nat)
      (hv : v.link.heldFrame (isOfferFrame k) = true) :
      (ls.foldl (fun s l => State.raiseLane old a b due j l s) v).link.heldFrame (isOfferFrame k) = true := by
    induction ls generalizing v with
    | nil => exact hv
    | cons m ms ih =>
      refine ih _ ?_
      simp only [State.raiseLane]
      repeat' split
      all_goals first | exact hv | exact offer_dropTrial m k hv
  rw [hrow]
  exact loop allLanes _ _ _ _ h

theorem calm_replaceRow (j : Nat) (m : LaneId) (h : (u.lane m).calm) : ((State.replaceRow j u).lane m).calm := by
  rcases lane_replaceRow_cases j u m with hr | ⟨-, hr⟩
  all_goals rw [hr]
  · exact h
  · exact ⟨rfl, h.2⟩

theorem calm_settleTrial (i m : LaneId) (h : (u.lane m).calm) : ((State.settleTrial i u).lane m).calm := by
  by_cases hm : m = i
  · subst hm
    rcases lane_settleTrial_cases m u with hr | ⟨-, -, hr⟩
    all_goals rw [hr]
    · exact h
    · exact ⟨rfl, h.2⟩
  · rwa [lane_settleTrial_ne u hm]

theorem staysIn_replaceRow (j : Nat) (hw : Within s u) (h : StaysIn s l y u) : StaysIn s l y (State.replaceRow j u) := by
  refine h.of_link ?_ (fun hrole => ⟨(h.trial hrole).1, fun k hk => ?_⟩) (queued_replaceRow (reclaims_self l) j)
    (offer_replaceRow j) fun m _ => calm_replaceRow j m
  · rcases lane_replaceRow_cases j u l with hr | ⟨⟨htrial, hslot, hraised⟩, -⟩
    · exact hr.trans h.lane
    · rw [h.lane] at htrial hslot
      obtain ⟨hplace, hstandby⟩ := (h.trial htrial).2 j hslot
      rw [hw.placeNow, hw.standbyPlaceNow, h.lane] at hraised
      rcases hraised with ⟨hmark, hr⟩ | ⟨hmark, hr⟩
      · rw [hplace hmark, raised_self] at hr
        cases hr
      · rw [hstandby hmark, raised_self] at hr
        cases hr
  · obtain ⟨hplace, hstandby⟩ := (h.trial hrole).2 k hk
    rcases loc_replaceRow j u k with hr | hr
    · rw [hr]
      exact ⟨hplace, hstandby⟩
    · rw [hr, hw.placeNow, hw.standbyPlaceNow]
      exact ⟨fun _ => rfl, fun _ => rfl⟩

theorem staysIn_settleTrial (m : LaneId) (hw : Within s u) (h : StaysIn s l y u) : StaysIn s l y (State.settleTrial m u) := by
  refine h.of_link ?_ (h.trial.of_table (table_settleTrial m u)) (queued_settleTrial (reclaims_self l) m)
    (fun k hk => ?_) fun i _ => calm_settleTrial m i
  · by_cases hm : l = m
    · subst hm
      rcases lane_settleTrial_cases l u with hr | ⟨htrial, hstands, -⟩
      · exact hr.trans h.lane
      · rw [h.lane] at htrial hstands
        rw [trialStands_of_rows hw.row hw.plan hw.number, (h.trial htrial).1] at hstands
        cases hstands
    · exact (lane_settleTrial_ne u hm).trans h.lane
  · simp only [State.settleTrial]
    split
    · exact offer_dropTrial m k hk
    · exact hk

theorem settleHeldLane_kept (hw : Within s u) (h : StaysIn s l y u) : State.settleHeldLane l u = u := by
  obtain hu | ⟨fs, r, k, hmark, -, -, hopen, -⟩ := lane_settleHeldLane_cases l u
  · exact hu
  · rw [h.lane] at hmark
    obtain ⟨hrow, hqueued⟩ := h.held fs r hmark
    rw [hw.row, hrow, hqueued] at hopen
    cases hopen

theorem staysIn_settleHeldLane (m : LaneId) (hw : Within s u) (h : StaysIn s l y u) : StaysIn s l y (State.settleHeldLane m u) := by
  by_cases hm : m = l
  · subst hm
    rwa [settleHeldLane_kept hw h]
  · have hlane : (State.settleHeldLane m u).lane l = y := (lane_settleHeldLane_ne u (Ne.symm hm)).trans h.lane
    refine ⟨hlane, h.trial.of_table (table_settleHeldLane m u), fun fs r hmark => ⟨(h.held fs r hmark).1,
      queued_settleHeldLane (reclaims_self l) hm (h.held fs r hmark).2⟩, fun k t st a b hctx => ?_⟩
    refine (h.giver k t st a b hctx).imp_right fun ⟨hwant, hheld, hothers⟩ => ?_
    rw [settleHeldLane_of_not_held (hothers m hm).1]
    exact ⟨hwant, hheld, hothers⟩

end

/-! ### The swaps -/

/-- The lane is what it was but for its swap context, and no giver of it gives its role up. -/
def StaysAfter (s : State) (l : LaneId) (y : Lane) (u : State) : Prop :=
  ∃ c, u.lane l = { y with ctx := c }
    ∧ ∀ k t st a b, c = .giver k t st a b → s.swappingAt k t (fun _ => true) = true

section
variable {s : State} {l : LaneId} {y : Lane} {u : State}

theorem staysAfter_settleSwap (m : LaneId) (hw : Within s u) (h : StaysAfter s l y u) :
    StaysAfter s l y (State.settleSwap m u) := by
  by_cases hm : l = m
  · subst hm
    obtain ⟨c, hlane, hgiver⟩ := h
    rcases lane_settleSwap_cases l u with hr | ⟨c', hmove, hr⟩ | ⟨-, ⟨k, t, st, a, b, hctx, hends⟩, -, -⟩
    · exact ⟨c, hr.trans hlane, hgiver⟩
    · refine ⟨c', by rw [hr, hlane], ?_⟩
      rintro k t st a b rfl
      generalize (u.lane l).ctx = x at hmove
      cases hmove
    · rw [hlane] at hctx
      rw [hw.swappingAt, hgiver k t st a b hctx] at hends
      cases hends
  · obtain ⟨c, hlane, hgiver⟩ := h
    exact ⟨c, (lane_settleSwap_ne u hm).trans hlane, hgiver⟩

/-- Where the lane has offered its swap, and no other lane is in one, the swap unit does nothing. -/
theorem settleSwap_offering {k : Nat} {t : Term} {a b : Nat} (hw : Within s u) (hlane : u.lane l = y)
    (hctx : y.ctx = .giver k t .offering a b)
    (hwant : ∀ v, SameRows s v → v.lane l = y → v.wants (.swapOffer (byteOf k) t) = true)
    (hheld : u.link.heldFrame (isOfferFrame k) = true) (hothers : ∀ m, m ≠ l → (u.lane m).calm) (m : LaneId) :
    State.settleSwap m u = u := by
  by_cases hm : m = l
  · subst hm
    simp only [State.settleSwap, hlane, hctx]
    exact if_pos (.inr ⟨rfl, hheld, hwant u hw.row hlane⟩)
  · exact settleSwap_of_none (hothers m hm).2

theorem lane_swaps (hw : Within s u) (h : StaysIn s l y u) :
    Within s (u.forLanes State.settleSwap) ∧ ∃ c, (u.forLanes State.settleSwap).lane l = { y with ctx := c } := by
  by_cases hoffer : ∃ k t a b, y.ctx = .giver k t .offering a b ∧ s.swappingAt k t (fun _ => true) = false
  · obtain ⟨k, t, a, b, hctx, hnot⟩ := hoffer
    rcases h.giver k t .offering a b hctx with hswap | ⟨⟨-, hwant⟩, hheld, hothers⟩
    · rw [hnot] at hswap
      cases hswap
    · have loop (ms : List LaneId) : ms.foldl (fun u m => State.settleSwap m u) u = u := by
        induction ms with
        | nil => rfl
        | cons m ms ih => rw [List.foldl_cons, settleSwap_offering hw h.lane hctx hwant hheld hothers, ih]
      rw [State.forLanes, loop]
      exact ⟨hw, y.ctx, h.lane⟩
  · obtain ⟨hwithin, c, hlane, -⟩ := foldl_keeps (I := StaysAfter s l y) (fun u m => State.settleSwap m u)
      (fun u m => within_settleSwap m u) (fun m u hw h => staysAfter_settleSwap m hw h) allLanes u
      ⟨hw, y.ctx, by rw [h.lane], fun k t st a b hctx => by
        rcases h.giver k t st a b hctx with hswap | ⟨⟨rfl, -⟩, -⟩
        · exact hswap
        · by_contra hnot
          exact hoffer ⟨k, t, a, b, hctx, Bool.eq_false_iff.2 hnot⟩⟩
    exact ⟨hwithin, c, hlane⟩

end

/-! ### The whole of settling -/

/-- The lane is in no trial that a due row can take the lane from. -/
theorem lane_assignLanes_stays {s u : State} {l : LaneId} (hw : Within s u) (havailable : (u.lane l).available = false)
    (hyields : (u.lane l).role = .trial → (∃ t, (u.lane l).mark = .standby t) → ∀ j, (s.row j).isOpen = false) :
    u.assignLanes.lane l = u.lane l := by
  have one (v : State) (hv : Within s v) (hl : v.lane l = u.lane l) : v.assignOne.lane l = u.lane l := by
    rcases lane_assignOne_cases v l with hr | ⟨k, hdue, ⟨hav, -⟩ | ⟨hrole, hmark, -⟩⟩
    · exact hr.trans hl
    · rw [hl, havailable] at hav
      cases hav
    · rw [hl] at hrole hmark
      have hopen := (isOpen_of_due hdue).1
      rw [hv.row, hyields hrole hmark k] at hopen
      cases hopen
  have standby (v : State) (hl : v.lane l = u.lane l) : v.assignStandbyOne.lane l = u.lane l :=
    (lane_assignStandbyOne_taken (by rw [hl]; exact havailable)).trans hl
  rw [State.assignLanes]
  split
  · have w1 := hw.trans (within_assignOne u)
    have w2 := w1.trans (within_assignOne _)
    have w3 := w2.trans (within_assignOne _)
    exact standby _ (standby _ (standby _ (standby _ (one _ w3 (one _ w2 (one _ w1 (one _ hw rfl)))))))
  · rfl

theorem lane_settleBlocks_stays {s : State} {l : LaneId} (h : StaysIn s l (s.lane l) s)
    (havailable : (s.lane l).available = false)
    (hyields : (s.lane l).role = .trial → (∃ t, (s.lane l).mark = .standby t) → ∀ j, (s.row j).isOpen = false) :
    ∃ c, (s.settleBlocks false).lane l = { s.lane l with ctx := c } := by
  have loop (f : LaneId → State → State) (hw : ∀ m u, Within u (f m u))
      (hI : ∀ m u, Within s u → StaysIn s l (s.lane l) u → StaysIn s l (s.lane l) (f m u)) (u : State)
      (h : Within s u ∧ StaysIn s l (s.lane l) u) : Within s (u.forLanes f) ∧ StaysIn s l (s.lane l) (u.forLanes f) :=
    foldl_keeps _ (fun u m => hw m u) (fun m u => hI m u) _ u h
  have h1 : Within s (s.withdraw fun f => isQuiet f && !s.wants f)
      ∧ StaysIn s l (s.lane l) (s.withdraw fun f => isQuiet f && !s.wants f) :=
    ⟨within_withdraw s _, h.of_link rfl (h.trial.of_table rfl)
      (queued_withdraw (reclaims_apart (reclaims_self l) fun _ _ _ _ _ => rfl)) (offer_withdraw fun _ _ => rfl) fun _ _ hm => hm⟩
  obtain ⟨u, hu⟩ : ∃ u, u = (s.withdraw fun f => isQuiet f && !s.wants f).replace := ⟨_, rfl⟩
  have h2 : Within s u ∧ StaysIn s l (s.lane l) u := by
    rw [hu, State.replace]
    exact foldl_keeps (s := s) (I := StaysIn s l (s.lane l)) (fun s k => State.replaceRow k s)
      (fun u k => within_replaceRow k u) (fun k u hw h => staysIn_replaceRow k hw h) _ _ h1
  have hblocks : s.settleParts false
      = (((u.forLanes State.settleTrial).forLanes State.settleHeldLane).forLanes State.settleSwap).withdrawMoot.holdsAgain := by
    rw [State.settleParts, hu]
    exact if_neg (by decide)
  have h3 := loop State.settleTrial within_settleTrial (fun m u hw h => staysIn_settleTrial m hw h) _ h2
  have h4 := loop State.settleHeldLane within_settleHeldLane (fun m u hw h => staysIn_settleHeldLane m hw h) _ h3
  obtain ⟨hw, c, hlane⟩ := lane_swaps h4.1 h4.2
  have hparts : (s.settleParts false).lane l = { s.lane l with ctx := c } := by
    rw [hblocks, (linkOnly_holdsAgain _).lane, State.withdrawMoot, lane_withdraw, hlane]
  refine ⟨c, ?_⟩
  rw [State.settleBlocks, lane_assignLanes_stays (s := s) ?_ (by rw [hparts]; exact havailable) (by rw [hparts]; exact hyields), hparts]
  rw [hblocks]
  exact (hw.trans (within_withdraw _ _)).trans (within_holdsAgain _)

theorem plan_joinIfComplete (s : State) : s.joinIfComplete.plan = s.plan := by
  by_cases hj : s.joins
  · rw [joinIfComplete_joins hj, enterJoined_eq]
  · rw [joinIfComplete_of_not hj]

theorem dir_joinIfComplete (s : State) : s.joinIfComplete.dir = s.dir := by
  by_cases hj : s.joins
  · rw [joinIfComplete_joins hj, enterJoined_eq]
  · rw [joinIfComplete_of_not hj]

theorem holds_of_offer {L : Link} {k : Nat} (h : L.heldFrame (isOfferFrame k) = true) :
    ∃ t, Holds (.swapOffer (byteOf k) t) L := by
  have offered {q : QFrame} (hq : q.meets (isOfferFrame k) = true) : ∃ t, q = .fixed (.swapOffer (byteOf k) t) := by
    cases q with
    | fixed f =>
      cases f with
      | swapOffer slot t =>
        obtain rfl := beq_iff_eq.1 hq
        exact ⟨t, rfl⟩
      | _ => cases hq
    | _ => cases hq
  rcases (heldFrame_iff _ _).1 h with ⟨e, he, hq⟩ | ⟨q, hmem, hq⟩ | ⟨q, hmem, hq⟩
  all_goals obtain ⟨t, ht⟩ := offered hq
  · exact ⟨t, (holds_iff L).2 (.inl ⟨e, he, ht⟩)⟩
  · exact ⟨t, (holds_iff L).2 (.inr (.inl (ht ▸ hmem)))⟩
  · exact ⟨t, (holds_iff L).2 (.inr (.inr (ht ▸ hmem)))⟩

theorem offer_joinIfComplete {s : State} {k : Nat} (h : s.link.heldFrame (isOfferFrame k) = true) :
    s.joinIfComplete.link.heldFrame (isOfferFrame k) = true := by
  obtain ⟨t, ht⟩ := holds_of_offer h
  exact heldFrame_imp (fun f hf => by rw [beq_iff_eq.1 hf]; exact beq_self_eq_true _)
    (holds_joinIfComplete (f := .swapOffer (byteOf k) t) rfl ht)

/-- A SWAP-OFFER that is wanted where no other lane is in a swap is wanted for the lane itself. -/
theorem wants_offer_of_lane {s v : State} {l : LaneId} {slot : Byte} {t : Term} (h : s.wants (.swapOffer slot t) = true)
    (hothers : ∀ i, i ≠ l → (s.lane i).ctx = .none) (hrows : SameRows s v) (hl : v.lane l = s.lane l) :
    v.wants (.swapOffer slot t) = true := by
  simp only [State.wants, Bool.and_eq_true] at h ⊢
  obtain ⟨hgiving, hrow⟩ := h
  obtain ⟨i, -, hi⟩ := List.any_eq_true.1 hgiving
  have hil : i = l := by
    by_contra hne
    rw [hothers i hne] at hi
    simp [SwapCtx.isGiver] at hi
  subst hil
  exact ⟨someLane i (by rw [hl]; exact hi), by rw [hrows]; exact hrow⟩

theorem giverKept_of_stands {s : State} {l : LaneId} (h : SwapStands s l) :
    GiverKept s.joinIfComplete l (s.lane l) s.joinIfComplete := by
  intro k t st a b hctx
  have hrows : SameRows s s.joinIfComplete := row_joinIfComplete s
  rw [SwapStands, hctx] at h
  refine h.imp (fun hswap => ?_) fun ⟨hst, hheld, hwants, hothers⟩ => ⟨⟨hst, fun v hv hl => ?_⟩, offer_joinIfComplete hheld,
    fun m hm => ?_⟩
  · rw [State.swappingAt, hrows]
    exact hswap
  · exact wants_offer_of_lane hwants (fun i hi => (hothers i hi).1) (fun k => (hv k).trans (hrows k)) hl
  · rw [lane_joinIfComplete]
    exact ⟨(hothers m hm).2, (hothers m hm).1⟩

/-- The trial of the lane stands, and no due row can take the lane from it. -/
def TrialAllowed (s : State) (l : LaneId) : Prop :=
  (s.lane l).role = .trial → s.trialStands (s.lane l) = true ∧ Placed s (s.lane l) s
    ∧ ((∃ t, (s.lane l).mark = .standby t) → ∀ j, (s.row j).isOpen = false)

theorem trialAllowed_of_stands {s : State} {l : LaneId} (h : TrialStands s l) : TrialAllowed s l := fun hrole =>
  ⟨(h hrole).1, fun k hk => ⟨fun _ => ((h hrole).2.1 k hk).1.symm, fun _ => ((h hrole).2.1 k hk).2.symm⟩, (h hrole).2.2⟩

theorem trialAllowed_of_role {s : State} {l : LaneId} (h : (s.lane l).role ≠ .trial) : TrialAllowed s l := fun hrole => absurd hrole h

theorem heldStands_of_mark {s : State} {l : LaneId} (h : (s.lane l).mark.isHeld = false) : HeldStands s l := by
  intro fs r hmark
  rw [hmark] at h
  cases h

theorem swapStands_of_none {s : State} {l : LaneId} (h : (s.lane l).ctx = .none) : SwapStands s l := by
  rw [SwapStands, h]
  trivial

/-- A lane whose trial, HELD mark and swap the rows allow comes out of settling as it went in, but for its swap context. -/
theorem lane_settle_stays {s : State} {l : LaneId} (htrial : TrialAllowed s l) (hheld : HeldStands s l) (hswap : SwapStands s l)
    (havailable : (s.lane l).available = false) : ∃ c, (s.settle false).lane l = { s.lane l with ctx := c } := by
  by_cases hmode : s.mode.appliesFrames = true
  · have hlane := lane_joinIfComplete s l
    have hrows : SameRows s s.joinIfComplete := row_joinIfComplete s
    have stays : StaysIn s.joinIfComplete l (s.joinIfComplete.lane l) s.joinIfComplete := by
      rw [hlane]
      refine ⟨hlane, fun hrole => ?_, fun fs r hmark => ?_, giverKept_of_stands hswap⟩
      · obtain ⟨hstands, hplaces, -⟩ := htrial hrole
        refine ⟨(trialStands_of_rows hrows (plan_joinIfComplete s) (number_joinIfComplete s) _).trans hstands, fun k hk => ?_⟩
        rw [State.loc_congr (table_joinIfComplete s), placeNow_of_rows hrows (plan_joinIfComplete s) (dir_joinIfComplete s)
          (number_joinIfComplete s), standbyPlaceNow_of_rows hrows (plan_joinIfComplete s) (dir_joinIfComplete s)
          (number_joinIfComplete s)]
        exact hplaces k hk
      · obtain ⟨hne, hopen, hqueued⟩ := hheld fs r hmark
        rw [joinIfComplete_of_ne hne]
        exact ⟨hopen, hqueued⟩
    obtain ⟨c, hc⟩ := lane_settleBlocks_stays stays (by rw [hlane]; exact havailable) (by
      rw [hlane]
      exact fun hrole hmark j => (hrows j).symm ▸ (htrial hrole).2.2 hmark j)
    rw [hlane] at hc
    exact ⟨c, by rw [settle_eq hmode, hc]⟩
  · refine ⟨(s.lane l).ctx, ?_⟩
    by_cases hiso : s.mode = .isolated
    · rw [settle_isolated hiso]
      exact lane_homeAssignment_of_bind (fun x => x = s.lane l) s l
        (fun k r x _ hav hx => by rw [hx, havailable] at hav; cases hav) rfl
    · rw [settle_other (Bool.eq_false_iff.2 hmode) hiso]

end Sys2Proof.Machine
end

section
/-! # The end of a retry period -/

namespace Sys2Proof.Machine

open Sys2Proof.Safety

/-! ### The places when lanes are assigned -/

theorem loc_replaceRow_self {u : State} {k : Nat} (hk : k < u.table.length) :
    (State.replaceRow k u).loc k = { u.loc k with place := u.placeNow k, standbyPlace := u.standbyPlaceNow k } := by
  rw [State.replaceRow, State.loc_congr (table_forLanes _ (fun l s => ?_) _)]
  · exact State.loc_setEntry_self _ _ hk
  · dsimp only
    repeat' split
    all_goals rfl

/-- Both places of the row are those that the row gives. -/
def PlacedNow (s : State) (k : Nat) (u : State) : Prop :=
  (u.loc k).place = s.placeNow k ∧ (u.loc k).standbyPlace = s.standbyPlaceNow k

theorem placedNow_replace {s u : State} (hw : Within s u) {k : Nat} (hk : k < s.table.length) : PlacedNow s k u.replace := by
  have loop (ks : List Nat) (u : State) (hw : Within s u) (h : k ∈ ks ∨ PlacedNow s k u) :
      PlacedNow s k (ks.foldl (fun s j => State.replaceRow j s) u) := by
    induction ks generalizing u with
    | nil => exact h.resolve_left nofun
    | cons j ks ih =>
      refine ih _ (hw.trans (within_replaceRow j u)) ?_
      by_cases hj : j = k
      · subst hj
        right
        rw [PlacedNow, loc_replaceRow_self (by rw [hw.length]; exact hk), hw.placeNow, hw.standbyPlaceNow]
        exact ⟨rfl, rfl⟩
      · rcases h with h | h
        · exact .inl ((List.mem_cons.1 h).resolve_left (Ne.symm hj))
        · right
          rcases loc_replaceRow j u k with hr | hr
          · rwa [PlacedNow, hr]
          · rw [PlacedNow, hr, hw.placeNow, hw.standbyPlaceNow]
            exact ⟨rfl, rfl⟩
  exact loop _ u hw (.inl (List.mem_range.2 (by rw [hw.length]; exact hk)))

theorem table_withdrawMoot (s : State) : s.withdrawMoot.table = s.table := rfl

theorem table_settleParts (s : State) (c : Bool) :
    (s.settleParts c).table = (s.withdraw fun f => isQuiet f && !s.wants f).replace.table := by
  rw [State.settleParts]
  split
  · rw [table_forLanes _ table_settleHeldLane, table_holdsAgain, table_sendDue, table_holdsAgain, table_withdrawMoot,
      table_forLanes _ table_settleSwap, table_forLanes _ table_settleHeldLane, table_forLanes _ table_settleTrial]
  · rw [table_holdsAgain, table_withdrawMoot, table_forLanes _ table_settleSwap, table_forLanes _ table_settleHeldLane,
      table_forLanes _ table_settleTrial]

theorem placedNow_settleParts {s : State} {k : Nat} (hk : k < s.table.length) (c : Bool) : PlacedNow s k (s.settleParts c) := by
  rw [PlacedNow, State.loc_congr (table_settleParts s c)]
  exact placedNow_replace (within_withdraw s _) hk

theorem assignLanes_keeps {u : State} {I : State → Prop}
    (one : ∀ v, Within u v → v.table = u.table → I v → I v.assignOne)
    (standby : ∀ v, Within u v → v.table = u.table → I v → I v.assignStandbyOne) (h : I u) : I u.assignLanes := by
  have one (v : State) (h : Within u v ∧ v.table = u.table ∧ I v) :
      Within u v.assignOne ∧ v.assignOne.table = u.table ∧ I v.assignOne :=
    ⟨h.1.trans (within_assignOne v), (table_assignOne v).trans h.2.1, one v h.1 h.2.1 h.2.2⟩
  have standby (v : State) (h : Within u v ∧ v.table = u.table ∧ I v) :
      Within u v.assignStandbyOne ∧ v.assignStandbyOne.table = u.table ∧ I v.assignStandbyOne :=
    ⟨h.1.trans (within_assignStandbyOne v), (table_assignStandbyOne v).trans h.2.1, standby v h.1 h.2.1 h.2.2⟩
  rw [State.assignLanes]
  split
  · exact (standby _ (standby _ (standby _ (standby _ (one _ (one _ (one _ (one _ ⟨.refl u, rfl, h⟩)))))))).2.2
  · exact h

/-! ### A lane that is released and not bound to the slot again -/

/-- No lane can be bound to the row for a trial: the places as they stand say so. -/
def Undue (s : State) (k : Nat) : Prop :=
  ((s.row k).isOpen = true → s.termOf k = 0xFFFF#16)
    ∧ ((s.row k).lacksStandby = true → s.standbyWanted k = false ∨ s.standbyPlaceNow k = none)

section
variable {s u : State} {k : Nat} (h : Undue s k) (hw : Within s u)
include h hw

theorem Undue.due : u.due k = false := by
  cases hopen : (s.row k).isOpen with
  | false => exact due_not_open (by rw [hw.row, hopen])
  | true =>
    have hterm : u.termOf k = 65535#16 := (hw.termOf k).trans (h.1 hopen)
    simp [State.due, hterm]

theorem Undue.standbyDue (hplaced : PlacedNow s k u) : u.standbyDue k = false := by
  cases hlacks : (s.row k).lacksStandby with
  | false => exact standbyDue_not_lacking (by rw [hw.row, hlacks])
  | true =>
    rcases h.2 hlacks with hwanted | hnone
    · simp [State.standbyDue, hw.standbyWanted, hwanted]
    · simp [State.standbyDue, hplaced.2, hnone]

end

theorem placeIn_none {x : Station} {order : List Station} (h : x ∉ order) : placeIn x order = none := by
  rw [placeIn, List.findIdx?_eq_none_iff]
  intro y hy
  exact Bool.eq_false_iff.2 fun e => h (beq_iff_eq.1 e ▸ hy)

/-- A station has no standby place behind a lane of its own (R45). -/
theorem standbyPlaceNow_own {s : State} {k : Nat} {c : Pair} (h : (s.row k).carrier = some c) (hc : c.station = s.number) :
    s.standbyPlaceNow k = none := by
  rw [State.standbyPlaceNow]
  split
  · refine placeIn_none fun hmem => ?_
    simp only [State.standbyOrder, h] at hmem
    simpa [hc] using (List.mem_filter.1 hmem).2
  · rfl

/-- A released lane stays released, and is not bound to a row that is not due (R36, R46). -/
theorem released_settle {s : State} {l : LaneId} {k : Nat} (hmode : s.mode = .joined) (hundue : Undue s k)
    (h : Released (s.lane l) ∧ (s.lane l).slot ≠ some k) (c : Bool) :
    Released ((s.settle c).lane l) ∧ ((s.settle c).lane l).slot ≠ some k := by
  rw [settle_eq (by rw [hmode]; rfl), joinIfComplete_of_ne (by rw [hmode]; decide), State.settleBlocks]
  obtain ⟨hw, hparts⟩ := settleParts_keeps (partsKeep_lane ((laneClosed_released s l).toLaneMoves.and (laneMoves_unbound s l k)) c) h
  have hplaced (hlacks : (s.row k).lacksStandby = true) : PlacedNow s k (s.settleParts c) :=
    placedNow_settleParts (s.lt_length_of_row fun hu => by rw [hu] at hlacks; cases hlacks) c
  have notDue (v : State) (hv : Within (s.settleParts c) v) : v.due k = false := hundue.due (hw.trans hv)
  have notStandbyDue (v : State) (hv : Within (s.settleParts c) v) (htable : v.table = (s.settleParts c).table) :
      v.standbyDue k = false := by
    cases hlacks : (s.row k).lacksStandby with
    | false => exact standbyDue_not_lacking (by rw [hv.row, hw.row, hlacks])
    | true => exact hundue.standbyDue (hw.trans hv) (by rw [PlacedNow, State.loc_congr htable]; exact hplaced hlacks)
  have bound {v : State} {x : Lane} (hv : Within (s.settleParts c) v) (hx : Released x) {j : Nat} (hj : j ≠ k) {m : ClaimMark}
      (hm : m = .ordinary ∨ ∃ t, m = .standby t) : Released (x.bind j (v.slotRec j) .trial m)
        ∧ (x.bind j (v.slotRec j) .trial m).slot ≠ some k :=
    ⟨⟨by simp [Lane.bind, Lane.enterTune, Lane.setRole, hx.1], hx.2.1, rfl, rfl, .inr ⟨rfl, rfl, rfl, hm⟩⟩,
      fun e => hj (Option.some.inj e)⟩
  refine assignLanes_keeps (I := fun v => Released (v.lane l) ∧ (v.lane l).slot ≠ some k) (fun v hv htable hl => ?_)
    (fun v hv htable hl => ?_) hparts
  · rcases lane_assignOne_cases v l with hr | ⟨j, hdue, hr⟩
    · rwa [hr]
    · have hj : j ≠ k := by
        rintro rfl
        rw [notDue v hv] at hdue
        cases hdue
      rcases hr with ⟨-, hr⟩ | ⟨-, -, hr⟩
      all_goals rw [hr]
      · exact bound hv hl.1 hj (.inl rfl)
      · exact bound hv ⟨rfl, rfl, rfl, rfl, .inl ⟨rfl, rfl, rfl, rfl⟩⟩ hj (.inl rfl)
  · rcases lane_assignStandbyOne_cases v l with hr | ⟨j, hdue, -, hr⟩
    · rwa [hr]
    · have hj : j ≠ k := by
        rintro rfl
        rw [notStandbyDue v hv htable] at hdue
        cases hdue
      rw [hr]
      exact bound hv hl.1 hj (.inr ⟨_, rfl⟩)

/-! ### RETRY-WAIT ends -/

/-- The row asks for a LATE trial for standby (R43). -/
def State.lateStandby (s : State) (k : Nat) : Bool :=
  (s.row k).lacksStandby && s.standbyWanted k && (s.row k).carrier.all fun c => c.station != s.number

section
variable {s : State} {l : LaneId} {k : Nat} (hstate : (s.lane l).state = .retryWait) (hslot : (s.lane l).slot = some k)
include hstate hslot

theorem retryEnd_eq : s.retryEnd l
    = (if (s.lane l).role = .home then s.modLane l (Lane.enterTune (s.slotRec k))
      else if (!s.claimActive) = true then s.releaseLane l
      else if ((s.row k).isOpen && s.termOf k != 0xFFFF#16) = true then s.bindLane l k .trial (.late false)
      else if s.lateStandby k = true then s.bindLane l k .trial (.late true)
      else s.releaseLane l).settle false := by
  simp only [State.retryEnd, hstate, hslot]
  rfl

end

theorem lateStandby_of_row {s : State} {k : Nat} {n : Term} {c : Pair} {lc : Option Station} (h : s.row k = .carried n c none lc)
    (hwanted : s.standbyWanted k = true) (hc : c.station ≠ s.number) : s.lateStandby k = true := by
  simp [State.lateStandby, h, Row.lacksStandby, Row.carrier, hwanted, hc]

theorem row_of_lacksStandby {r : Row} (h : r.lacksStandby = true) : ∃ n c lc, r = .carried n c none lc := by
  cases r with
  | carried n c sb lc =>
    cases sb with
    | none => exact ⟨n, c, lc, rfl⟩
    | some sb => cases h
  | _ => cases h

/-- A lane bound for a LATE trial that its row allows keeps the trial. -/
theorem late_settle {s : State} {l : LaneId} {k : Nat} {b : Bool} (hctx : (s.lane l).ctx = .none)
    (hstands : (s.bindLane l k .trial (.late b)).trialStands ((s.lane l).bind k (s.slotRec k) .trial (.late b)) = true) :
    ∃ c, ((s.bindLane l k .trial (.late b)).settle false).lane l
      = { (s.lane l).bind k (s.slotRec k) .trial (.late b) with ctx := c } := by
  have hlane : (s.bindLane l k .trial (.late b)).lane l = (s.lane l).bind k (s.slotRec k) .trial (.late b) :=
    State.lane_modLane_self s l _
  rw [← hlane] at hstands ⊢
  refine lane_settle_stays (fun _ => ⟨hstands, fun j _ => ⟨fun hmark => ?_, fun ⟨t, hmark⟩ => ?_⟩, fun ⟨t, hmark⟩ => ?_⟩)
    (heldStands_of_mark (by rw [hlane]; rfl)) (swapStands_of_none (by rw [hlane]; exact hctx)) (by rw [hlane]; rfl)
  all_goals
    rw [hlane] at hmark
    cases hmark

/-- Settles O55. -/
theorem retryPeriodEnds : Obligations.RetryPeriodEnds := by
  intro s l k hstate hslot hctx hmark
  have hend := retryEnd_eq hstate hslot
  obtain ⟨t, ht⟩ : ∃ t, t = s.retryEnd l := ⟨_, rfl⟩
  rw [← ht] at hend
  refine ⟨t, congrArg Host.Outcome.next ht.symm, fun j => ?_, fun hrole => ?_, fun hrole hholds hinactive => ?_,
    fun hrole hactive hopen hterm => ?_, fun n c lc hrole hactive hrow hwanted hc => ?_,
    fun hrole hactive hterm hown => ?_⟩
  · rw [hend, row_settle]
    split
    · rfl
    split
    · rfl
    split
    · rfl
    split
    · rfl
    rfl
  · rw [if_pos hrole] at hend
    have hlane : (s.modLane l (Lane.enterTune (s.slotRec k))).lane l = (s.lane l).enterTune (s.slotRec k) :=
      State.lane_modLane_self s l _
    rw [hend, lane_settle_settled _ _ _ (by
      rw [hlane]
      exact settled_of_role (by rw [show ((s.lane l).enterTune (s.slotRec k)).role = .home from hrole]; decide)
        (by rw [show ((s.lane l).enterTune (s.slotRec k)).role = .home from hrole]; decide)
        (by rw [show ((s.lane l).enterTune (s.slotRec k)).mark = .none from hmark]; rfl) hctx), hlane]
    refine ⟨rfl, hrole, hslot, rfl, fun r hr => ?_⟩
    simp [Lane.enterTune, Tuner.set, hr]
  · rw [if_neg (by rw [hrole]; decide), if_pos (by rw [hinactive]; rfl)] at hend
    have hlane : (s.releaseLane l).lane l = (s.lane l).release := State.lane_modLane_self s l _
    have hstays : t.lane l = (s.lane l).release := by
      rw [hend]
      refine lane_settle (s := s.releaseLane l) (P := (· = (s.lane l).release)) (appliesFrames_of_holdsRoles hholds) ?_ hlane false
      rw [joinIfComplete_of_ne (s := s.releaseLane l) (ne_joining_of_holdsRoles hholds)]
      exact laneClosed_still nofun rfl hctx (.inl hinactive)
    rw [hstays]
    exact ⟨rfl, rfl, rfl, rfl⟩
  · rw [if_neg (by rw [hrole]; decide), if_neg (by rw [hactive]; decide), if_pos (by rw [hopen]; simpa using hterm)] at hend
    obtain ⟨c, hc⟩ := late_settle (b := false) hctx (by
      show (s.trialStands ((s.lane l).bind k (s.slotRec k) .trial (.late false))) = true
      simp [State.trialStands, Lane.bind, Lane.enterTune, ClaimMark.bidsCarrier, hopen])
    rw [hend, hc]
    exact ⟨rfl, rfl, rfl, rfl, rfl, tunedTo_bind s k _ _ _⟩
  · have hlate := lateStandby_of_row hrow hwanted hc
    rw [if_neg (by rw [hrole]; decide), if_neg (by rw [hactive]; decide), if_neg (by rw [hrow]; exact Bool.false_ne_true), if_pos hlate] at hend
    obtain ⟨c', hc'⟩ := late_settle (b := true) hctx (by
      show (s.trialStands ((s.lane l).bind k (s.slotRec k) .trial (.late true))) = true
      simp [State.trialStands, Lane.bind, Lane.enterTune, ClaimMark.bidsCarrier, hrow, Row.lacksStandby, Row.carrier, hwanted, hc])
    rw [hend, hc']
    exact ⟨rfl, rfl, rfl, rfl, rfl, tunedTo_bind s k _ _ _⟩
  · have hnotLate : s.lateStandby k = false := by
      refine Bool.eq_false_iff.2 fun h => ?_
      simp only [State.lateStandby, Bool.and_eq_true] at h
      obtain ⟨⟨hlacks, hwanted⟩, hcarrier⟩ := h
      obtain ⟨n, c, lc, hrow⟩ := row_of_lacksStandby hlacks
      rcases hown n c lc hrow with hw | hc
      · rw [hw] at hwanted
        cases hwanted
      · simp [hrow, Row.carrier, hc] at hcarrier
    rw [if_neg (by rw [hrole]; decide), if_neg (by rw [hactive]; decide), if_neg (by
      rw [Bool.and_eq_true, bne_iff_ne]
      exact fun h => h.2 (hterm h.1)), if_neg (by rw [hnotLate]; decide)] at hend
    have hlane : (s.releaseLane l).lane l = (s.lane l).release := State.lane_modLane_self s l _
    rw [hend]
    refine released_settle (s := s.releaseLane l) (mode_of_claimActive hactive) ⟨hterm, fun hlacks => ?_⟩ ?_ false
    · obtain ⟨n, c, lc, hrow⟩ := row_of_lacksStandby hlacks
      have hrow : s.row k = .carried n c none lc := hrow
      rcases hown n c lc hrow with hw | hc
      · exact .inl hw
      · exact .inr (standbyPlaceNow_own (s := s.releaseLane l) (c := c) (by
          show (s.row k).carrier = some c
          rw [hrow]
          rfl) hc)
    · rw [hlane]
      exact ⟨⟨rfl, rfl, rfl, rfl, .inl ⟨rfl, rfl, rfl, rfl⟩⟩, nofun⟩

end Sys2Proof.Machine
end

section
/-! # A stage window expires -/

namespace Sys2Proof.Machine

open Sys2Proof.Safety

/-! ### The loss of a bound lane -/

theorem afterLoss_enterRetry (rm : RetryMode) {x y : Lane} (hcount : y.retryCount = x.retryCount) (hslot : y.slot = x.slot) :
    afterLoss rm x (y.enterRetry rm) := by
  have count : (y.enterRetry rm).retryCount = satInc 15 x.retryCount := by
    rw [Lane.enterRetry, hcount]
    dsimp only
    split <;> rfl
  refine ⟨count, by rw [Lane.enterRetry]; dsimp only; split <;> rfl, by rw [Lane.enterRetry]; dsimp only; split <;> rfl, ?_⟩
  rw [count]
  by_cases hspent : satInc 15 x.retryCount = 15 ∧ rm = .limited
  · rw [if_pos hspent, Lane.enterRetry, hcount]
    dsimp only
    rw [if_pos hspent]
    exact ⟨rfl, rfl, rfl⟩
  · rw [if_neg hspent, Lane.enterRetry, hcount]
    dsimp only
    rw [if_neg hspent]
    exact ⟨rfl, hslot, rfl⟩

section
variable (rm : RetryMode) (x : Lane)

theorem enterRetry_role : (x.enterRetry rm).role = x.role ∨ (x.enterRetry rm).role = .free := by
  rw [Lane.enterRetry]
  dsimp only
  split
  · exact .inr rfl
  · exact .inl rfl

theorem enterRetry_ctx : (x.enterRetry rm).ctx = x.ctx := by
  rw [Lane.enterRetry]
  dsimp only
  split <;> rfl

theorem enterRetry_mark : (x.enterRetry rm).mark = .none := by
  rw [Lane.enterRetry]
  dsimp only
  split <;> rfl

theorem enterRetry_available : (x.enterRetry rm).available = false := by
  rw [Lane.enterRetry]
  dsimp only
  split <;> simp [Lane.available, Lane.setRole]

theorem enterRetry_free (h : x.role = .free) : (x.enterRetry rm).role = .free := (enterRetry_role rm x).elim (·.trans h) id

theorem settled_enterRetry (hrole : x.role ≠ .trial) (hctx : x.ctx = .none) : Settled (x.enterRetry rm) := by
  refine ⟨?_, by rw [enterRetry_mark]; rfl, by rw [enterRetry_ctx, hctx], enterRetry_available rm x⟩
  rcases enterRetry_role rm x with h | h
  · rw [h]
    exact hrole
  · rw [h]
    decide

end

theorem lane_boundLoss (s : State) (l : LaneId) :
    (s.boundLoss l).lane l = ((s.lossFrames l).lane l).enterRetry s.retryMode := State.lane_modLane_self _ l _

theorem lane_lossFrames_trial {s : State} {l : LaneId} (h : (s.lane l).role = .trial) :
    (s.lossFrames l).lane l = (s.lane l).setRole .free := by
  simp only [State.lossFrames, h]
  exact State.lane_modLane_self _ l _

theorem lossFrames_home {s : State} {l : LaneId} (h : (s.lane l).role = .home) : s.lossFrames l = s := by
  simp only [State.lossFrames, h]

/-- The lane after the loss of a LATE trial or of home carriage. -/
theorem boundLoss_settled {s u : State} {l : LaneId} (hu : u.boundLoss l = s)
    (hrole : (u.lane l).role = .trial ∨ (u.lane l).role = .home) (hctx : (u.lane l).ctx = .none) (c : Bool) :
    ∃ x : Lane, (s.settle c).lane l = x.enterRetry u.retryMode ∧ x.retryCount = (u.lane l).retryCount ∧ x.slot = (u.lane l).slot
      ∧ (x.role = .free ∨ x.role = .home ∧ (u.lane l).role = .home) := by
  obtain ⟨x, hx, hcount, hslot, hfree, hxctx⟩ : ∃ x : Lane, (u.lossFrames l).lane l = x ∧ x.retryCount = (u.lane l).retryCount
      ∧ x.slot = (u.lane l).slot ∧ (x.role = .free ∨ x.role = .home ∧ (u.lane l).role = .home) ∧ x.ctx = .none := by
    rcases hrole with h | h
    · exact ⟨_, lane_lossFrames_trial h, rfl, rfl, .inl rfl, hctx⟩
    · exact ⟨_, congrArg (State.lane · l) (lossFrames_home h), rfl, rfl, .inr ⟨h, h⟩, hctx⟩
  have hlane : s.lane l = x.enterRetry u.retryMode := by rw [← hu, lane_boundLoss, hx]
  refine ⟨x, ?_, hcount, hslot, hfree⟩
  rw [lane_settle_settled s c l (by
    rw [hlane]
    refine settled_enterRetry _ _ ?_ hxctx
    rcases hfree with h | ⟨h, -⟩
    all_goals
      rw [h]
      decide), hlane]

/-! ### The failure of a trial -/

theorem lane_failTrial (s : State) (l : LaneId) : (s.failTrial l).lane l = (s.lane l).release := by
  have marked (u : State) (k : Nat) : (u.markTried k).lane l = u.lane l := by
    rw [State.markTried]
    split <;> rfl
  simp only [State.failTrial]
  split
  · exact lane_dropTrial s l
  · rw [marked]
    exact lane_dropTrial s l
  · exact lane_dropTrial s l

theorem mode_failTrial (s : State) (l : LaneId) : (s.failTrial l).mode = s.mode := by
  simp only [State.failTrial]
  split
  · rfl
  · rw [State.markTried]
    split <;> rfl
  · rfl

theorem loc_failTrial_standby {s : State} {l : LaneId} {k : Nat} {n : Term} (hslot : (s.lane l).slot = some k)
    (hmark : (s.lane l).mark = .standby n) (hk : k < s.table.length) :
    (s.failTrial l).loc k = { s.loc k with standbyTried := true } := by
  simp only [State.failTrial, hslot, hmark]
  exact State.loc_setEntry_self (s.dropTrial l) _ hk

theorem failTrial_ordinary {s : State} {l : LaneId} {k : Nat} (hslot : (s.lane l).slot = some k)
    (hmark : ∀ n, (s.lane l).mark ≠ .standby n) : s.failTrial l = (s.dropTrial l).markTried k := by
  simp only [State.failTrial, hslot]

theorem loc_failTrial_open {s : State} {l : LaneId} {k : Nat} (hslot : (s.lane l).slot = some k)
    (hmark : ∀ n, (s.lane l).mark ≠ .standby n) (hopen : (s.row k).isOpen = true) :
    (s.failTrial l).loc k = { s.loc k with tried := true } := by
  have hk : k < s.table.length := s.lt_length_of_row fun hu => by
    rw [hu] at hopen
    cases hopen
  rw [failTrial_ordinary hslot hmark, State.markTried, if_pos (show ((s.dropTrial l).row k).isOpen = true from hopen)]
  exact State.loc_setEntry_self (s.dropTrial l) _ hk

theorem loc_failTrial_closed {s : State} {l : LaneId} {k : Nat} (hslot : (s.lane l).slot = some k)
    (hmark : ∀ n, (s.lane l).mark ≠ .standby n) (hopen : (s.row k).isOpen = false) : (s.failTrial l).loc k = s.loc k := by
  rw [failTrial_ordinary hslot hmark, State.markTried,
    if_neg (by rw [show (s.dropTrial l).row k = s.row k from rfl, hopen]; decide)]
  rfl

/-- A row in the tried set is one that no lane is bound to while it is OPEN (R35, R37). -/
theorem laneClosed_untried {s : State} {l : LaneId} {k : Nat} (hopen : (s.row k).isOpen = true) (htried : (s.loc k).tried = true) :
    LaneClosed s l fun x => x.slot ≠ some k where
  toLaneMoves := laneMoves_unbound s l k
  bind _ x j m _ _ hm := by
    intro hj
    obtain rfl := Option.some.inj hj
    rcases hm with ⟨-, -, htried'⟩ | ⟨-, hlacks, -⟩
    · rw [htried] at htried'
      cases htried'
    · cases hrow : s.row j with
      | opened => rw [hrow] at hlacks; cases hlacks
      | _ => rw [hrow] at hopen; cases hopen

/-! ### The expiry -/

section
variable {s : State} {l : LaneId}

/-- The station once the receiving of the lane has stopped. -/
def State.stopped (s : State) (l : LaneId) : State := s.modLane l (Lane.stopReceiving (s.slotInput (s.lane l).slot))

theorem lane_stopped (s : State) (l : LaneId) :
    (s.stopped l).lane l = (s.lane l).stopReceiving (s.slotInput (s.lane l).slot) := State.lane_modLane_self s l _

theorem acquisitionFails_lost (h : (s.lane l).role ≠ .trial ∨ (∃ b, (s.lane l).mark = .late b)
    ∨ s.slotInput (s.lane l).slot ≠ .either ∨ (s.lane l).input ≠ .a) : s.acquisitionFails l = (s.stopped l).lost l := by
  simp only [State.acquisitionFails]
  split
  · rfl
  · next hrole heither ha hmark =>
    rcases h with h | ⟨b, h⟩ | h | h
    · exact absurd hrole h
    · exact absurd h (hmark b)
    · exact absurd heither h
    · exact absurd ha h
  · rfl

theorem acquisitionFails_again (hrole : (s.lane l).role = .trial) (hmark : ∀ b, (s.lane l).mark ≠ .late b)
    (heither : s.slotInput (s.lane l).slot = .either) (ha : (s.lane l).input = .a) :
    s.acquisitionFails l = (s.stopped l).modLane l (Lane.enterTune ((s.lane l).slot.bind s.slotRec)) := by
  have hrec : recInput ((s.lane l).slot.bind s.slotRec) = .either := heither
  rw [State.stopped, heither]
  cases hm : (s.lane l).mark with
  | late b => exact absurd hm (hmark b)
  | _ => simp only [State.acquisitionFails, hrole, hm, hrec, ha]

theorem stageExpired_eq {st : AcqStage} (h : (s.lane l).inStage st = true) :
    s.stageExpired l st = (s.acquisitionFails l).settle false := if_pos h

theorem lost_failTrial {u : State} (hrole : (u.lane l).role = .trial) (hmark : ∀ b, (u.lane l).mark ≠ .late b) :
    u.lost l = u.failTrial l := by
  cases hm : (u.lane l).mark with
  | late b => exact absurd hm (hmark b)
  | _ => simp only [State.lost, hrole, hm]

theorem lost_boundLoss_late {u : State} {b : Bool} (hrole : (u.lane l).role = .trial) (hmark : (u.lane l).mark = .late b) :
    u.lost l = u.boundLoss l := by
  simp only [State.lost, hrole, hmark]

theorem lost_boundLoss {u : State} (hfree : (u.lane l).role ≠ .free) (htrial : (u.lane l).role ≠ .trial) :
    u.lost l = u.boundLoss l := by
  cases hr : (u.lane l).role with
  | free => exact absurd hr hfree
  | trial => exact absurd hr htrial
  | _ => simp only [State.lost, hr]

/-- A LATE trial or a HOME lane whose acquisition fails is lost as a bound lane. -/
theorem afterLoss_acquisitionFails {c : Bool} (hctx : (s.lane l).ctx = .none)
    (h : (s.lane l).role = .trial ∧ (∃ b, (s.lane l).mark = .late b) ∨ (s.lane l).role = .home) :
    afterLoss s.retryMode (s.lane l) (((s.acquisitionFails l).settle c).lane l) := by
  have hbound : s.acquisitionFails l = (s.stopped l).boundLoss l := by
    rcases h with ⟨hrole, b, hmark⟩ | hrole
    · rw [acquisitionFails_lost (.inr (.inl ⟨b, hmark⟩)),
        lost_boundLoss_late (by rw [lane_stopped]; exact hrole) (by rw [lane_stopped]; exact hmark)]
    · have hhome : ((s.stopped l).lane l).role = .home := by
        rw [lane_stopped]
        exact hrole
      rw [acquisitionFails_lost (.inl (by rw [hrole]; decide)), lost_boundLoss (by rw [hhome]; decide) (by rw [hhome]; decide)]
  obtain ⟨x, hx, hcount, hslot, -⟩ := boundLoss_settled hbound.symm (by
    rw [lane_stopped]
    exact h.imp And.left id) (by rw [lane_stopped]; exact hctx) c
  rw [lane_stopped] at hcount hslot
  rw [hx]
  exact afterLoss_enterRetry s.retryMode hcount hslot

/-- A trial that failed on A of an EITHER slot is tried on B, as far as its rows still allow it. -/
theorem lane_triedAgain {u : State} {x : Lane} (hu : s.acquisitionFails l = u)
    (hx : x = ((s.lane l).stopReceiving .either).enterTune ((s.lane l).slot.bind s.slotRec))
    (hrole : (s.lane l).role = .trial) (hmark : ∀ b, (s.lane l).mark ≠ .late b) (heither : s.slotInput (s.lane l).slot = .either)
    (ha : (s.lane l).input = .a) (hstands : TrialStands s l) (hctx : (s.lane l).ctx = .none)
    (hheld : (s.lane l).mark.isHeld = false) :
    (∃ c, (u.settle false).lane l = { x with ctx := c }) ∧ ∀ k, u.loc k = s.loc k := by
  have hu' := hu.symm.trans (acquisitionFails_again hrole hmark heither ha)
  have hlane : u.lane l = x := by
    rw [hu', hx, ← heither, ← lane_stopped]
    exact State.lane_modLane_self _ l _
  have hsame : u = { s with lanes := u.lanes } := by
    rw [hu']
    rfl
  obtain ⟨ht, hplaces, hopen⟩ := hstands hrole
  have stays : TrialStands u l := fun _ => by
    have hslot : x.slot = (s.lane l).slot := by rw [hx]; rfl
    rw [hlane]
    refine ⟨?_, fun k hk => ?_, fun ⟨n, hn⟩ => ?_⟩
    · rw [hsame, hx]
      exact ht
    · rw [hsame]
      exact hplaces k (hslot ▸ hk)
    · rw [hsame]
      exact hopen ⟨n, by rw [← hn, hx]; rfl⟩
  have hxfields : x.ctx = .none ∧ x.mark.isHeld = false ∧ x.role ≠ .free := by
    rw [hx]
    exact ⟨hctx, hheld, fun h => by
      have h : (s.lane l).role = .free := h
      rw [hrole] at h
      cases h⟩
  obtain ⟨hxctx, hxheld, hxrole⟩ := hxfields
  refine ⟨?_, fun k => by rw [hsame]; rfl⟩
  rw [← hlane]
  exact lane_settle_stays (trialAllowed_of_stands stays) (heldStands_of_mark (by rw [hlane]; exact hxheld))
    (swapStands_of_none (by rw [hlane]; exact hxctx)) (by rw [hlane]; exact available_of_ne_free hxrole)

/-- A trial that failed on its last input: its slot, or its row's standby, has been tried. -/
theorem triedAfter_failTrial {u : State} {k : Nat} (hslot : (u.lane l).slot = some k) (hmode : u.mode.holdsRoles = true) :
    ((∀ n, (u.lane l).mark ≠ .standby n) → (u.row k).isOpen = true →
        (((u.failTrial l).settle false).loc k).tried = true ∧ (((u.failTrial l).settle false).lane l).slot ≠ some k)
      ∧ ((∃ n, (u.lane l).mark = .standby n) → k < u.table.length →
        (((u.failTrial l).settle false).loc k).standbyTried = true) := by
  have hloc := unplaced_settle (u.failTrial l) false k
  have hfm := mode_failTrial u l
  refine ⟨fun hmark hopen => ?_, fun ⟨n, hn⟩ hk => ?_⟩
  · have htried : ((u.failTrial l).loc k).tried = true := by rw [loc_failTrial_open hslot hmark hopen]
    refine ⟨(congrArg (·.tried) hloc).trans htried, ?_⟩
    refine lane_settle (s := u.failTrial l) (P := fun x => x.slot ≠ some k)
      (by rw [hfm]; exact appliesFrames_of_holdsRoles hmode) ?_ (by rw [lane_failTrial]; nofun) false
    rw [joinIfComplete_of_ne (by rw [hfm]; exact ne_joining_of_holdsRoles hmode)]
    exact laneClosed_untried (by rw [row_of_skeleton (skeleton_failTrial u l)]; exact hopen) htried
  · refine (congrArg (·.standbyTried) hloc).trans ?_
    show ((u.failTrial l).loc k).standbyTried = true
    rw [loc_failTrial_standby hslot hn hk]

end

/-- Settles O50. -/
theorem stageWindowExpiryFails : Obligations.StageWindowExpiryFails := by
  intro s l st hst
  obtain ⟨t, ht⟩ : ∃ t, t = (s.acquisitionFails l).settle false := ⟨_, rfl⟩
  have hlane := lane_stopped s l
  refine ⟨t, congrArg Host.Outcome.next ((stageExpired_eq hst).trans ht.symm), fun k => ?_, fun hctx h => ?_,
    fun hrole hmode hmark => ⟨fun heither ha hstands hctx hheld => ?_, fun k hslot hlast => ?_⟩⟩
  · rw [ht, row_settle, row_of_skeleton (skeleton_acquisitionFails s l)]
  · rw [ht]
    exact afterLoss_acquisitionFails hctx (h.imp id And.left)
  · obtain ⟨⟨c, hc⟩, hloc⟩ := lane_triedAgain rfl rfl hrole hmark heither ha hstands hctx hheld
    rw [ht, hc]
    have hrec : recInput ((s.lane l).slot.bind s.slotRec) = .either := heither
    refine ⟨rfl, ?_, rfl, hrole, rfl, rfl, rfl, fun k hk r hr => ?_, fun k => ?_⟩
    · simp [Lane.enterTune, hrec, Lane.stopReceiving, ha]
    · simp [Lane.enterTune, Tuner.set, hk, hr]
    · have hu := unplaced_settle (s.acquisitionFails l) false k
      rw [hloc] at hu
      exact ⟨congrArg (·.tried) hu, congrArg (·.standbyTried) hu⟩
  · have hfails : s.acquisitionFails l = (s.stopped l).failTrial l := by
      rw [acquisitionFails_lost (.inr (.inr (hlast.imp (fun h => by rw [hslot]; exact h) fun h => by rw [h]; decide))),
        lost_failTrial (by rw [hlane]; exact hrole) (by rw [hlane]; exact hmark)]
    rw [ht, hfails]
    have h := triedAfter_failTrial (u := s.stopped l) (l := l) (k := k) (by rw [hlane]; exact hslot) hmode
    rw [hlane] at h
    exact h

end Sys2Proof.Machine
end

section
/-! # A holdover window ends -/

namespace Sys2Proof.Machine

open Sys2Proof.Safety

/-! ### Settling in any mode -/

theorem link_homeAssignment (s : State) : s.homeAssignment.link = s.link := by
  have one (u : State) (k : Nat) : (State.assignHome k u).link = u.link := by
    simp only [State.assignHome]
    repeat' split
    all_goals rfl
  have loop (ks : List Nat) (u : State) : (ks.foldl (fun s k => State.assignHome k s) u).link = u.link := by
    induction ks generalizing u with
    | nil => rfl
    | cons k ks ih => rw [List.foldl_cons, ih, one]
  rw [State.homeAssignment]
  split
  · exact loop _ s
  · rfl

/-- Outside the modes that act on frames, settling leaves the link as it is. -/
theorem link_settle_apart {s : State} (hmode : s.mode.appliesFrames = false) (c : Bool) : (s.settle c).link = s.link := by
  by_cases hiso : s.mode = .isolated
  · rw [settle_isolated hiso, link_homeAssignment]
  · rw [settle_other hmode hiso]

/-- Outside the modes that act on frames, a lane that is not available stays as it is. -/
theorem lane_settle_apart {s : State} (hmode : s.mode.appliesFrames = false) {l : LaneId} (h : (s.lane l).available = false) (c : Bool) :
    (s.settle c).lane l = s.lane l := by
  by_cases hiso : s.mode = .isolated
  · rw [settle_isolated hiso]
    refine lane_homeAssignment_of_bind (fun x => x = s.lane l) s l (fun k r x _ hav hx => ?_) rfl
    rw [hx, h] at hav
    cases hav
  · rw [settle_other hmode hiso]

/-- A CEDE of a lane that is not HELD stays held through settling after an event that is no completed frame. -/
theorem holds_cede_settled {s : State} {slot role : Byte} {t : Term} {l : LaneId} {r : CedeReason} (hr : ∀ fs, r ≠ .reclaimed fs)
    (hheld : (s.lane l).mark.isHeld = false) (h : Holds (.cede slot role t (byteOf l.val) r) s.link) :
    Holds (.cede slot role t (byteOf l.val) r) (s.settle false).link := by
  by_cases hmode : s.mode.appliesFrames = true
  · rw [settle_eq hmode]
    exact holds_cede_settleBlocks hr (by rw [lane_joinIfComplete]; exact hheld) nofun
      (holds_joinIfComplete (kept_cede slot role t _ hr).owed h)
  · rwa [link_settle_apart (Bool.eq_false_iff.2 hmode)]

/-- A property of the link that goes through every frame settling makes comes out of settling, whatever the mode. -/
theorem linkKeeps_settled {ok : Frame → Prop} {I : Link → Prop} (keeps : LinkKeeps ok I) (makes : Makes ok)
    (hdue : ∀ L f, I L → .fixed f ∈ L.due → ok f) {s : State} (h : I s.link) (c : Bool) : I (s.settle c).link := by
  by_cases hmode : s.mode.appliesFrames = true
  · exact linkKeeps_settle keeps makes hdue hmode h c
  · rwa [link_settle_apart (Bool.eq_false_iff.2 hmode)]

theorem makes_bid (l : LaneId) : Makes fun f => isBidOf l f = false :=
  ⟨fun _ _ _ _ _ => rfl, fun _ _ => rfl, fun _ _ _ => rfl, fun _ _ => rfl⟩

/-- A BID that has been withdrawn does not come back. -/
theorem noIdle_bid_settle {s : State} {l : LaneId} (h : Shed (isBidOf l) s.link) (c : Bool) :
    NoIdle (isBidOf l) (s.settle c).link :=
  (linkKeeps_settled (linkKeeps_shed _) (makes_bid l) (fun _ _ hL hf => hL.ok_of_due hf) h c).1

/-! ### The queue without a lane's CEDEs -/

/-- No frame of the queue meets the test. -/
def Unqueued (p : Frame → Bool) (L : Link) : Prop := ∀ e ∈ L.queue, e.frame.meets p = false

theorem unqueued_iff (p : Frame → Bool) (L : Link) : Unqueued p L ↔ L.queued p = false := by
  rw [Link.queued, List.any_eq_false]
  simp [Unqueued]

theorem linkKeeps_unqueued (p : Frame → Bool) : LinkKeeps (fun f => p f = false) (Unqueued p) where
  thin _ _ hqueue _ _ h e he := h e (hqueue.subset he)
  join L q hq h e he := by
    rw [Link.join_queue] at he
    rcases of_mem_arrive he with he | rfl
    · exact h e he
    · cases q with
      | fixed f => exact hq f rfl
      | _ => rfl

/-- The frames that settling hands over for a slot's role are of other lanes than one that is HELD for no slot and in no swap. -/
theorem sends_beside {u : State} {k : Nat} {l : LaneId} (hheld : (u.lane l).mark.isHeld = false) (hctx : (u.lane l).ctx = .none) :
    Sends (fun f => isCedeOf k l f = false) u := by
  have other (m : LaneId) (j : Nat) (ρ : CarriageRole) (r : CedeReason) (hm : m ≠ l) :
      isCedeOf k l (u.cedeFrame j ρ m r) = false := by
    have hbyte : byteOf m.val ≠ byteOf l.val := fun h => hm (byteOf_lane_inj h)
    simp [State.cedeFrame, isCedeOf, hbyte]
  refine ⟨fun _ => rfl, fun m j ρ r hm => other m j ρ r ?_, fun m j t st a b hm => other m j _ _ ?_⟩
  · rintro rfl
    rw [hheld] at hm
    cases hm
  · rintro rfl
    rw [hctx] at hm
    cases hm

/-- Settling queues no CEDE of a lane that has settled, unless one falls due at a completed frame. -/
theorem unqueued_cede_settle {s : State} {l : LaneId} {k : Nat} (hlane : Settled (s.lane l)) (h : Unqueued (isCedeOf k l) s.link) :
    Unqueued (isCedeOf k l) (s.settle false).link := by
  by_cases hmode : s.mode.appliesFrames = true
  · obtain ⟨htrial, hheld, hctx, havailable⟩ := hlane
    rw [settle_eq hmode]
    have keeps := linkKeeps_unqueued (isCedeOf k l)
    refine (settleBlocks_keeps (settleKeeps_link keeps (s := s.joinIfComplete) (c := false) (P := fun m x => m = l → x = s.lane l)
      (fun m => ?_) (fun u _ hP => ?_)
      (fun u m _ _ hI => HoldKeeps.holdCheck (fun j _ => keeps.holdKeeps fun _ _ => rfl) hI) (fun hc => Bool.noConfusion hc))
      ⟨fun m hm => by rw [lane_joinIfComplete, hm], linkKeeps_joinIfComplete keeps (fun _ _ => rfl) h⟩).2.2
    · by_cases hm : m = l
      · subst hm
        have still := laneClosed_still (s := s.joinIfComplete) (l := m) htrial hheld hctx (.inr havailable)
        simpa using still
      · simp only [hm, false_imp_iff]
        exact ⟨⟨fun _ _ _ => trivial, fun _ _ _ _ => trivial, fun _ _ _ _ _ _ _ _ _ _ _ => trivial, fun _ _ _ _ _ => trivial⟩,
          fun _ _ _ _ _ _ _ => trivial⟩
    · have hu := hP l rfl
      exact sends_beside (by rw [hu]; exact hheld) (by rw [hu]; exact hctx)
  · rwa [link_settle_apart (Bool.eq_false_iff.2 hmode)]

end Sys2Proof.Machine
end

section
/-! # A lane is lost at the end of its holdover window -/

namespace Sys2Proof.Machine

open Sys2Proof.Safety

/-! ### What a lost lane leaves -/

section
variable {s : State} {l : LaneId} {k : Nat}

theorem holdoverExpired_eq (h : (s.lane l).state = .holdover) : s.holdoverExpired l = ((s.stopped l).lost l).settle false := if_pos h

theorem row_holdoverExpired (h : (s.lane l).state = .holdover) : SameRows s (s.holdoverExpired l) := by
  intro j
  rw [holdoverExpired_eq h, row_settle, row_of_skeleton (skeleton_lost (s.stopped l) l)]
  rfl

theorem lossFrames_carries (hrole : (s.lane l).role = .carrier ∨ (s.lane l).role = .giver) (hslot : (s.lane l).slot = some k) :
    s.lossFrames l = ((s.modLane l fun x => { x.setRole .free with ctx := .none }).withdraw (isGiverFrame k)).sendCede k .carrier l .lost := by
  rcases hrole with h | h <;> simp only [State.lossFrames, h, hslot]

theorem lossFrames_standby (hrole : (s.lane l).role = .standby) (hslot : (s.lane l).slot = some k) :
    s.lossFrames l = (s.modLane l fun x => x.setRole .free).sendCede k .standby l .lost := by
  simp only [State.lossFrames, hrole, hslot]

theorem lossFrames_trial (hrole : (s.lane l).role = .trial) :
    s.lossFrames l = (s.withdraw (isBidOf l)).modLane l fun x => x.setRole .free := by
  simp only [State.lossFrames, hrole]

theorem lossFrames_taker {t : Term} {st : TakerStage} {al : Option Nat} (hrole : (s.lane l).role = .taker)
    (hslot : (s.lane l).slot = some k) (hctx : (s.lane l).ctx = .taker k t st al) :
    s.lossFrames l = ((s.modLane l fun x => { x.setRole .free with ctx := .taker k t (.dropping .takerLost) none }).withdraw
      (isTakerFrame k)).send (.swapDrop (byteOf k) t (DropReason.byte .takerLost)) := by
  simp only [State.lossFrames, hrole, hslot, hctx]

/-- A lane that gave up its role by a loss, before the settings of the wait. -/
structure LosesRole (before x : Lane) : Prop where
  role : x.role = .free
  count : x.retryCount = before.retryCount
  slot : x.slot = before.slot

theorem LosesRole.role_retry {x y : Lane} (h : LosesRole y x) (rm : RetryMode) : (x.enterRetry rm).role = .free :=
  enterRetry_free rm x h.role

theorem LosesRole.after {x y : Lane} (h : LosesRole y x) (rm : RetryMode) : afterLoss rm y (x.enterRetry rm) :=
  afterLoss_enterRetry rm h.count h.slot

theorem LosesRole.settled {x y : Lane} (h : LosesRole y x) (hctx : x.ctx = .none) (rm : RetryMode) : Settled (x.enterRetry rm) :=
  settled_enterRetry rm x (by rw [h.role]; decide) hctx

/-- A lost lane of the carrier's side has given up its role and its swap, and its CEDE is held. -/
theorem boundLoss_carries (hrole : (s.lane l).role = .carrier ∨ (s.lane l).role = .giver) (hslot : (s.lane l).slot = some k) :
    ∃ x, (s.boundLoss l).lane l = x.enterRetry s.retryMode ∧ LosesRole (s.lane l) x ∧ x.ctx = .none
      ∧ Holds (s.cedeFrame k .carrier l .lost) (s.boundLoss l).link := by
  refine ⟨{ (s.lane l).setRole .free with ctx := .none }, ?_, ⟨rfl, rfl, rfl⟩, rfl, ?_⟩
  · rw [lane_boundLoss, lossFrames_carries hrole hslot, lane_sendCede, lane_withdraw, State.lane_modLane_self]
  · show Holds _ (s.lossFrames l).link
    rw [lossFrames_carries hrole hslot]
    exact holds_sendCede (State.withdraw (s.modLane l fun x => { x.setRole .free with ctx := .none }) (isGiverFrame k)) k .carrier l nofun

/-- A lost standby has given up its role, and its CEDE is held. -/
theorem boundLoss_standby (hrole : (s.lane l).role = .standby) (hslot : (s.lane l).slot = some k) :
    ∃ x, (s.boundLoss l).lane l = x.enterRetry s.retryMode ∧ LosesRole (s.lane l) x ∧ x.ctx = (s.lane l).ctx
      ∧ Holds (s.cedeFrame k .standby l .lost) (s.boundLoss l).link := by
  refine ⟨(s.lane l).setRole .free, ?_, ⟨rfl, rfl, rfl⟩, rfl, ?_⟩
  · rw [lane_boundLoss, lossFrames_standby hrole hslot, lane_sendCede, State.lane_modLane_self]
  · show Holds _ (s.lossFrames l).link
    rw [lossFrames_standby hrole hslot]
    exact holds_sendCede (s.modLane l fun x => x.setRole .free) k .standby l nofun

/-- A lost taker has given up its role, its stage is DROPPING, and its SWAP-DROP is held. -/
theorem boundLoss_taker {t : Term} {st : TakerStage} {al : Option Nat} (hrole : (s.lane l).role = .taker)
    (hslot : (s.lane l).slot = some k) (hctx : (s.lane l).ctx = .taker k t st al) :
    ∃ x, (s.boundLoss l).lane l = x.enterRetry s.retryMode ∧ LosesRole (s.lane l) x ∧ x.taker = none
      ∧ x.ctx = .taker k t (.dropping .takerLost) none
      ∧ Holds (.swapDrop (byteOf k) t (DropReason.byte .takerLost)) (s.boundLoss l).link := by
  refine ⟨{ (s.lane l).setRole .free with ctx := .taker k t (.dropping .takerLost) none }, ?_, ⟨rfl, rfl, rfl⟩, rfl, rfl, ?_⟩
  · rw [lane_boundLoss, lossFrames_taker hrole hslot hctx, lane_send, lane_withdraw, State.lane_modLane_self]
  · show Holds _ (s.lossFrames l).link
    rw [lossFrames_taker hrole hslot hctx]
    exact holds_join rfl _

theorem lane_boundLoss_other {m : LaneId} (h : m ≠ l) : (s.boundLoss l).lane m = s.lane m := by
  have framed : (s.lossFrames l).lane m = s.lane m := by
    simp only [State.lossFrames]
    split <;> simp only [lane_sendCede, lane_send, lane_withdraw, State.lane_modLane_ne _ _ h]
  rw [State.boundLoss, State.lane_modLane_ne _ _ h, framed]

end

theorem length_boundLoss (s : State) (l : LaneId) : (s.boundLoss l).table.length = s.table.length := by
  simp only [State.boundLoss, State.lossFrames]
  split <;> rfl

theorem enterRetry_taker {rm : RetryMode} {x : Lane} (h : x.taker = none) : (x.enterRetry rm).taker = none := by
  rw [Lane.enterRetry]
  dsimp only
  split
  · rfl
  · exact h

theorem shed_failTrial (s : State) (l : LaneId) : Shed (isBidOf l) (s.failTrial l).link := by
  have marked (u : State) (k : Nat) : (u.markTried k).link = u.link := by
    rw [State.markTried]
    split <;> rfl
  simp only [State.failTrial]
  split
  · exact shed_withdraw s.link (isBidOf l)
  · rw [marked]
    exact shed_withdraw s.link (isBidOf l)
  · exact shed_withdraw s.link (isBidOf l)

theorem row_of_swappingAt {s : State} {k : Nat} {t : Term} {p : SwapPhase → Bool} (h : s.swappingAt k t p = true) :
    ∃ c sb lc ph, s.row k = .swapping t c sb lc ph := by
  rw [State.swappingAt] at h
  cases hrow : s.row k with
  | swapping t' c sb lc ph =>
    rw [hrow] at h
    simp only [Bool.and_eq_true, beq_iff_eq] at h
    exact ⟨c, sb, lc, ph, by rw [h.1]⟩
  | _ =>
    rw [hrow] at h
    cases h

/-! ### The retry limit -/

section
variable {s : State} {l : LaneId}

/-- The expiry that brings the count of a bound lane to its limit is the event RETRY_LIMIT_SPENT (R99). -/
theorem spendLoss_eq (hstate : (s.lane l).state = .holdover) (hfree : (s.lane l).role ≠ .free)
    (hbound : (s.lane l).role = .trial → ∃ b, (s.lane l).mark = .late b) (hmode : s.retryMode = .limited)
    (hcount : 14 ≤ (s.lane l).retryCount) : s.spendLoss l = s.holdoverExpired l := by
  have hspends : s.lossSpends l = true := by
    cases hr : (s.lane l).role with
    | free => exact absurd hr hfree
    | trial =>
      obtain ⟨b, hb⟩ := hbound hr
      simp [State.lossSpends, hr, hb, hmode, hcount]
    | _ => simp [State.lossSpends, hr, hmode, hcount]
  rw [State.spendLoss, if_pos hspends, hstate]

/-- At the limit the lost lane is SPENT. -/
theorem spent_of_afterLoss {x y : Lane} (h : afterLoss .limited x y) (hcount : 14 ≤ x.retryCount) :
    y.state = .spent ∧ y.retryCount = 15 := by
  obtain ⟨hc, -, -, hrest⟩ := h
  have hlimit : y.retryCount = 15 := by
    rw [hc, satInc]
    split <;> omega
  rw [if_pos ⟨hlimit, rfl⟩] at hrest
  exact ⟨hrest.1, hlimit⟩

/-- A SPENT lane asserts ALERT. -/
theorem alert_of_spent {t : State} (h : (t.lane l).state = .spent) (hreset : t.inReset = false) : t.alert = true := by
  have hspent : t.alertSpent = true := someLane l (by rw [h]; rfl)
  simp [State.alert, hreset, hspent]

end

end Sys2Proof.Machine
end

section
/-! # Lost lanes: the clauses of O54 -/

namespace Sys2Proof.Machine

open Sys2Proof.Safety

section
variable {s : State} {l : LaneId} {k : Nat} (hstate : (s.lane l).state = .holdover)
include hstate

theorem holdoverExpired_bound (hfree : (s.lane l).role ≠ .free) (hbound : (s.lane l).role = .trial → ∃ b, (s.lane l).mark = .late b) :
    s.holdoverExpired l = ((s.stopped l).boundLoss l).settle false := by
  have hlane := lane_stopped s l
  rw [holdoverExpired_eq hstate]
  by_cases htrial : (s.lane l).role = .trial
  · obtain ⟨b, hb⟩ := hbound htrial
    rw [lost_boundLoss_late (b := b) (by rw [hlane]; exact htrial) (by rw [hlane]; exact hb)]
  · rw [lost_boundLoss (by rw [hlane]; exact hfree) (by rw [hlane]; exact htrial)]

/-- A lost lane of the carrier's or the standby's side, in no swap any more, waits for its retry, and its CEDE is held. -/
theorem lost_cedes {ρ : CarriageRole} (hfree : (s.lane l).role ≠ .free) (htrial : (s.lane l).role ≠ .trial)
    (hlost : ∃ x, ((s.stopped l).boundLoss l).lane l = x.enterRetry s.retryMode ∧ LosesRole (s.lane l) x ∧ x.ctx = .none
      ∧ Holds ((s.stopped l).cedeFrame k ρ l .lost) ((s.stopped l).boundLoss l).link) :
    afterLoss s.retryMode (s.lane l) ((s.holdoverExpired l).lane l) ∧ ((s.holdoverExpired l).lane l).role = .free
      ∧ ((s.holdoverExpired l).lane l).ctx = .none
      ∧ Holds (.cede (byteOf k) (CarriageRole.byte ρ) (s.termOf k) (byteOf l.val) .lost) (s.holdoverExpired l).link := by
  obtain ⟨x, hx, hloses, hctx, hcede⟩ := hlost
  have hsettled := hloses.settled hctx s.retryMode
  rw [holdoverExpired_bound hstate hfree fun h => absurd h htrial]
  have hlane := lane_settle_settled ((s.stopped l).boundLoss l) false l (by rw [hx]; exact hsettled)
  rw [hx] at hlane
  rw [hlane]
  exact ⟨hloses.after s.retryMode, hloses.role_retry s.retryMode, hsettled.2.2.1,
    holds_cede_settled nofun (by rw [hx]; exact hsettled.2.1) hcede⟩

theorem lost_carries (hrole : (s.lane l).role = .carrier ∨ (s.lane l).role = .giver) (hslot : (s.lane l).slot = some k) :
    afterLoss s.retryMode (s.lane l) ((s.holdoverExpired l).lane l) ∧ ((s.holdoverExpired l).lane l).role = .free
      ∧ ((s.holdoverExpired l).lane l).ctx = .none
      ∧ Holds (.cede (byteOf k) (CarriageRole.byte .carrier) (s.termOf k) (byteOf l.val) .lost) (s.holdoverExpired l).link := by
  have hlane := lane_stopped s l
  obtain ⟨x, hx, ⟨hfree, hcount, hxslot⟩, hctx, hcede⟩ := boundLoss_carries (s := s.stopped l) (l := l) (k := k)
    (by rw [hlane]; exact hrole) (by rw [hlane]; exact hslot)
  rw [hlane] at hcount hxslot
  refine lost_cedes hstate (fun h => ?_) (fun h => ?_) ⟨x, hx, ⟨hfree, hcount, hxslot⟩, hctx, hcede⟩
  all_goals
    rw [h] at hrole
    rcases hrole with hrole | hrole <;> cases hrole

theorem lost_standby (hrole : (s.lane l).role = .standby) (hslot : (s.lane l).slot = some k) (hctx : (s.lane l).ctx = .none) :
    afterLoss s.retryMode (s.lane l) ((s.holdoverExpired l).lane l) ∧ ((s.holdoverExpired l).lane l).role = .free
      ∧ ((s.holdoverExpired l).lane l).ctx = .none
      ∧ Holds (.cede (byteOf k) (CarriageRole.byte .standby) (s.termOf k) (byteOf l.val) .lost) (s.holdoverExpired l).link := by
  have hlane := lane_stopped s l
  obtain ⟨x, hx, ⟨hfree, hcount, hxslot⟩, hxctx, hcede⟩ := boundLoss_standby (s := s.stopped l) (l := l) (k := k)
    (by rw [hlane]; exact hrole) (by rw [hlane]; exact hslot)
  rw [hlane] at hcount hxslot hxctx
  exact lost_cedes hstate (by rw [hrole]; decide) (by rw [hrole]; decide)
    ⟨x, hx, ⟨hfree, hcount, hxslot⟩, hxctx.trans hctx, hcede⟩

/-- A lost taker whose row is still SWAPPING keeps its context in stage DROPPING, and its SWAP-DROP is held. -/
theorem lost_taker {t : Term} {st : TakerStage} {al : Option Nat} (hrole : (s.lane l).role = .taker)
    (hslot : (s.lane l).slot = some k) (hctx : (s.lane l).ctx = .taker k t st al) (hswap : s.swappingAt k t (fun _ => true) = true)
    (hlength : s.table.length ≤ 20) (hbeside : NoSwapBeside s (byteOf k) l) :
    afterLoss s.retryMode (s.lane l) ((s.holdoverExpired l).lane l) ∧ ((s.holdoverExpired l).lane l).role = .free
      ∧ ((s.holdoverExpired l).lane l).taker = none
      ∧ ((s.holdoverExpired l).lane l).ctx = .taker k t (.dropping .takerLost) none
      ∧ Holds (.swapDrop (byteOf k) t 1#8) (s.holdoverExpired l).link := by
  have hlane := lane_stopped s l
  obtain ⟨x, hx, ⟨hfree, hcount, hxslot⟩, htaker, hxctx, hdrop⟩ := boundLoss_taker (s := s.stopped l) (l := l) (k := k) (t := t)
    (st := st) (al := al) (by rw [hlane]; exact hrole) (by rw [hlane]; exact hslot) (by rw [hlane]; exact hctx)
  rw [hlane] at hcount hxslot
  have hloses : LosesRole (s.lane l) x := ⟨hfree, hcount, hxslot⟩
  obtain ⟨u, hu⟩ : ∃ u, u = (s.stopped l).boundLoss l := ⟨_, rfl⟩
  obtain ⟨y, hy⟩ : ∃ y, y = x.enterRetry s.retryMode := ⟨_, rfl⟩
  have hrows : SameRows s u := fun j => by
    rw [hu, row_of_skeleton (skeleton_boundLoss (s.stopped l) l)]
    rfl
  have hul : u.lane l = y := by rw [hu, hy]; exact hx
  have hyctx : y.ctx = .taker k t (.dropping .takerLost) none := by rw [hy, enterRetry_ctx, hxctx]
  have hyrole : y.role = .free := by rw [hy, hloses.role_retry]
  have hyavailable : y.available = false := by rw [hy, enterRetry_available]
  have hk : k < s.table.length := s.lt_length_of_row (fun h => by rw [State.swappingAt, h] at hswap; cases hswap)
  obtain ⟨c, sb, lc, p, hrow⟩ := row_of_swappingAt hswap
  have hdropped : (u.settle false).lane l = y ∧ Holds (.swapDrop (byteOf k) t 1#8) (u.settle false).link := by
    by_cases hmode : u.mode.appliesFrames = true
    · have settles : SwapSettles u l y (.swapDrop (byteOf k) t 1#8) (byteOf k) := by
        refine swapSettles_taker ((hrows k).trans hrow) hyctx nofun (by rw [hyrole]; decide) hyavailable
          (by rw [hy, enterRetry_mark]; rfl) (by rw [hu, length_boundLoss]; exact hlength) rfl (fun j hj => ?_) (fun _ _ => rfl)
          fun v hv _ => ?_
        · simp only [isGiverFrame, isTakerFrame, Bool.or_self, beq_iff_eq] at hj
          exact hj.symm
        · simp only [State.wants]
          rw [toNat_byteOf (by omega)]
          exact swappingAt_of_row ((hv k).trans ((hrows k).trans hrow)) _
      have start : SwapKept l y (.swapDrop (byteOf k) t 1#8) (byteOf k) u := by
        refine ⟨hul, fun m hm j hj => hbeside m j hm ?_, hu ▸ hdrop⟩
        rw [hu, lane_boundLoss_other hm, State.stopped, State.lane_modLane_ne s _ hm] at hj
        exact hj
      obtain ⟨hsettled, -, hholds⟩ := swapKept_settle hmode settles (fun _ => rfl) start false
      exact ⟨hsettled, hholds⟩
    · have hmode := Bool.eq_false_iff.2 hmode
      rw [lane_settle_apart hmode (by rw [hul]; exact hyavailable), link_settle_apart hmode]
      exact ⟨hul, hu ▸ hdrop⟩
  rw [holdoverExpired_bound hstate (by rw [hrole]; decide) fun h => by rw [hrole] at h; cases h]
  rw [← hu, hdropped.1]
  exact ⟨hy ▸ hloses.after s.retryMode, hyrole, by rw [hy, enterRetry_taker htaker], hyctx, hdropped.2⟩

end

end Sys2Proof.Machine
end

section
/-! # A HELD lane through settling

A lane HELD for a row that is OPEN, whose CEDE is queued, stays HELD through settling, and no frame that settling hands over takes the
CEDE's place in the queue. -/

namespace Sys2Proof.Machine

open Sys2Proof.Safety

section
variable {l : LaneId} {p : Frame → Bool} (hp : Reclaims l p) {u : State}
include hp

theorem queued_settleSwap (m : LaneId) (h : u.link.queued p = true) : (State.settleSwap m u).link.queued p = true := by
  have thinned (v : State) (q : Frame → Bool) (hq : ∀ slot role term lane fs, q (.cede slot role term lane (.reclaimed fs)) = false)
      (hv : v.link = u.link) : (v.withdraw q).link.queued p = true := by
    show (v.link.withdraw q).queued p = true
    rw [hv]
    exact queued_withdraw (reclaims_apart hp hq) h
  simp only [State.settleSwap]
  split
  · exact h
  · simp only [State.settleGiver]
    repeat' split
    · exact h
    · exact h
    · exact queued_giveUp hp (u := State.endCtx _ m) _ _ _ _ (thinned _ _ (fun _ _ _ _ _ => rfl) rfl)
    · exact thinned _ _ (fun _ _ _ _ _ => rfl) rfl
  · simp only [State.settleTaker]
    repeat' split
    all_goals exact thinned _ _ (fun _ _ _ _ _ => by simp [isTakerFrame]) rfl

theorem queued_assignOne (h : u.link.queued p = true) : u.assignOne.link.queued p = true := by
  simp only [State.assignOne]
  repeat' split
  · exact h
  · exact h
  · exact queued_dropTrial hp _ h
  · exact h

theorem holdKeeps_reclaims (k : Nat) : HoldKeeps k fun L => L.queued p = true where
  forget _ h := h
  drop L h := by
    obtain ⟨e, he, hm⟩ := List.any_eq_true.1 h
    have hnot : e.frame.meets (isHoldFrame k) = false := by
      cases hf : e.frame with
      | fixed f =>
        rw [hf] at hm
        exact reclaims_apart hp (q := isHoldFrame k) (fun _ _ _ _ _ => rfl) f hm
      | _ => rfl
    exact List.any_eq_true.2 ⟨e, mem_dropLastWhere he (by rw [idleHold, hnot, Bool.and_false]), hm⟩
  send L t v h := queued_join (fun f hf => by
    rw [code_of_reclaims hp hf]
    exact show 1 ≤ 5 by omega) h

end

/-- A lane that is HELD, in no role and in no swap, with its CEDE in the queue. -/
structure Holding (l : LaneId) (p : Frame → Bool) (y : Lane) (u : State) : Prop where
  lane : u.lane l = y
  queued : u.link.queued p = true

section
variable {s : State} {l : LaneId} {p : Frame → Bool} (hp : Reclaims l p) {y : Lane} {fs : Nat} {r : CarriageRole}
  (hrole : y.role = .free) (hctx : y.ctx = .none) (hmark : y.mark = .held fs r) (hopen : (s.row fs).isOpen = true)
include hp hrole hctx hmark hopen

theorem settleKeeps_holding : SettleKeeps s false (Holding l p y) where
  quiets u _ h := ⟨h.lane, queued_withdraw (reclaims_apart hp fun _ _ _ _ _ => rfl) h.queued⟩
  replaceRow k u _ h := by
    refine ⟨?_, queued_replaceRow hp k h.queued⟩
    rcases lane_replaceRow_cases k u l with hr | ⟨⟨htrial, -⟩, -⟩
    · exact hr.trans h.lane
    · rw [h.lane, hrole] at htrial
      cases htrial
  trial m u _ h := by
    refine ⟨?_, queued_settleTrial hp m h.queued⟩
    by_cases hm : l = m
    · subst hm
      rcases lane_settleTrial_cases l u with hr | ⟨htrial, -⟩
      · exact hr.trans h.lane
      · rw [h.lane, hrole] at htrial
        cases htrial
    · exact (lane_settleTrial_ne u hm).trans h.lane
  held m u hw h := by
    by_cases hm : m = l
    · subst hm
      obtain hu | ⟨fs', r', k, hmark', -, -, hout, -⟩ := lane_settleHeldLane_cases m u
      · rwa [hu]
      · rw [h.lane, hmark] at hmark'
        cases hmark'
        have hqueued : u.link.queued (isReclaimCedeOf m) = true := by
          obtain ⟨e, he, hf⟩ := List.any_eq_true.1 h.queued
          refine List.any_eq_true.2 ⟨e, he, ?_⟩
          cases hframe : e.frame with
          | fixed f =>
            rw [hframe] at hf
            exact hp f hf
          | _ =>
            rw [hframe] at hf
            cases hf
        rw [hw.row, hopen, hqueued] at hout
        cases hout
    · exact ⟨(lane_settleHeldLane_ne u (Ne.symm hm)).trans h.lane, queued_settleHeldLane hp hm h.queued⟩
  swap m u _ h := by
    by_cases hm : m = l
    · subst hm
      rwa [settleSwap_of_none (by rw [h.lane, hctx])]
    · exact ⟨(lane_settleSwap_ne u (Ne.symm hm)).trans h.lane, queued_settleSwap hp m h.queued⟩
  moot u _ h := ⟨h.lane, queued_withdraw (reclaims_apart hp fun _ _ _ _ _ => rfl) h.queued⟩
  holdAgain m u _ h := by
    refine ⟨((linkOnly_holdAgain m u).lane l).trans h.lane, ?_⟩
    simp only [State.holdAgain]
    split
    · split
      · exact HoldKeeps.holdCheck (fun k _ => holdKeeps_reclaims hp k) h.queued
      · exact h.queued
    · exact h.queued
  sendDue hc := Bool.noConfusion hc
  assign _ u _ h := by
    refine ⟨?_, queued_assignOne hp h.queued⟩
    rcases lane_assignOne_cases u l with hr | ⟨k, -, ⟨hav, -⟩ | ⟨htrial, -⟩⟩
    · exact hr.trans h.lane
    · rw [h.lane, Lane.available, hmark] at hav
      simp at hav
    · rw [h.lane, hrole] at htrial
      cases htrial
  assignStandby _ u _ h := by
    refine ⟨(lane_assignStandbyOne_taken ?_).trans h.lane, by rw [assignStandbyOne_link]; exact h.queued⟩
    rw [h.lane, Lane.available, hmark]
    simp

/-- A HELD lane comes out of settling as it went in, its CEDE still queued. -/
theorem holding_settle (hmode : s.mode ≠ .joining) (h : Holding l p y s) : Holding l p y (s.settle false) := by
  by_cases happlies : s.mode.appliesFrames = true
  · rw [settle_eq happlies, joinIfComplete_of_ne hmode]
    exact (settleBlocks_keeps (settleKeeps_holding hp hrole hctx hmark hopen) h).2
  · have happlies := Bool.eq_false_iff.2 happlies
    refine ⟨?_, by rw [link_settle_apart happlies]; exact h.queued⟩
    rw [lane_settle_apart happlies, h.lane]
    rw [h.lane, Lane.available, hmark]
    simp

end

end Sys2Proof.Machine
end

section
/-! # Lost lanes that hold no role in the table -/

namespace Sys2Proof.Machine

open Sys2Proof.Safety

section
variable {s : State} {l : LaneId} {k : Nat} (hstate : (s.lane l).state = .holdover)
include hstate

/-- A HOME lane of an ISOLATED station keeps its role while it waits, and no frame follows its loss. -/
theorem lost_home (hrole : (s.lane l).role = .home) (hmode : s.mode = .isolated) :
    afterLoss s.retryMode (s.lane l) ((s.holdoverExpired l).lane l)
      ∧ (((s.holdoverExpired l).lane l).state = .retryWait → ((s.holdoverExpired l).lane l).role = .home)
      ∧ (s.holdoverExpired l).link = s.link := by
  have hlane := lane_stopped s l
  have hhome : ((s.stopped l).lane l).role = .home := by rw [hlane]; exact hrole
  obtain ⟨x, hx⟩ : ∃ x, x = (s.lane l).stopReceiving (s.slotInput (s.lane l).slot) := ⟨_, rfl⟩
  have hul : ((s.stopped l).boundLoss l).lane l = x.enterRetry s.retryMode := by
    rw [lane_boundLoss, lossFrames_home hhome, hlane, hx]
    rfl
  have happlies : ((s.stopped l).boundLoss l).mode.appliesFrames = false := by
    have hm : ((s.stopped l).boundLoss l).mode = s.mode := by
      rw [State.boundLoss, lossFrames_home hhome]
      rfl
    rw [hm, hmode]
    rfl
  rw [holdoverExpired_bound hstate (by rw [hrole]; decide) fun h => by rw [hrole] at h; cases h]
  rw [lane_settle_apart happlies (by rw [hul, enterRetry_available]), link_settle_apart happlies, hul]
  refine ⟨afterLoss_enterRetry s.retryMode (by rw [hx]; rfl) (by rw [hx]; rfl), fun hwait => ?_, ?_⟩
  · rw [Lane.enterRetry] at hwait ⊢
    dsimp only at hwait ⊢
    split at hwait
    · cases hwait
    · rename_i hnot
      rw [if_neg hnot, hx]
      exact hrole
  · rw [State.boundLoss, lossFrames_home hhome]
    rfl

/-- A lost LATE trial waits for its retry without its role; its BID is withdrawn, and no CEDE of it is queued. -/
theorem lost_late {b : Bool} (hrole : (s.lane l).role = .trial) (hmark : (s.lane l).mark = .late b) (hctx : (s.lane l).ctx = .none) :
    afterLoss s.retryMode (s.lane l) ((s.holdoverExpired l).lane l) ∧ ((s.holdoverExpired l).lane l).role = .free
      ∧ (∀ j, ((s.holdoverExpired l).loc j).tried = (s.loc j).tried)
      ∧ NoIdle (isBidOf l) (s.holdoverExpired l).link
      ∧ ((s.holdoverExpired l).link.queued (isCedeOf k l) = true → s.link.queued (isCedeOf k l) = true) := by
  have hlane := lane_stopped s l
  have hfree : (s.lane l).role ≠ .free := by rw [hrole]; decide
  have htrial : ((s.stopped l).lane l).role = .trial := by rw [hlane]; exact hrole
  obtain ⟨x, hx⟩ : ∃ x, x = ((s.stopped l).lane l).setRole .free := ⟨_, rfl⟩
  have hloses : LosesRole (s.lane l) x := by
    rw [hx, hlane]
    exact ⟨rfl, rfl, rfl⟩
  have hxctx : x.ctx = .none := by rw [hx, hlane]; exact hctx
  obtain ⟨u, hu⟩ : ∃ u, u = (s.stopped l).boundLoss l := ⟨_, rfl⟩
  have hul : u.lane l = x.enterRetry s.retryMode := by rw [hu, lane_boundLoss, lane_lossFrames_trial htrial, hx]; rfl
  have hsettled : Settled (u.lane l) := by rw [hul]; exact hloses.settled hxctx s.retryMode
  have hulink : u.link = s.link.withdraw (isBidOf l) := by
    rw [hu, State.boundLoss, lossFrames_trial htrial]
    rfl
  have hloc (j : Nat) : u.loc j = s.loc j := by
    rw [hu, State.boundLoss, lossFrames_trial htrial]
    rfl
  rw [holdoverExpired_bound hstate hfree fun _ => ⟨b, hmark⟩, ← hu]
  rw [lane_settle_settled u false l hsettled, hul]
  refine ⟨hloses.after s.retryMode, hloses.role_retry s.retryMode, fun j => ?_, ?_, fun hqueued => ?_⟩
  · refine (congrArg RowLocal.tried (unplaced_settle u false j)).trans ?_
    rw [hloc]
    rfl
  · exact noIdle_bid_settle (by rw [hulink]; exact shed_withdraw _ _) false
  · by_contra hnot
    have hnone : Unqueued (isCedeOf k l) u.link := by
      rw [hulink]
      exact (linkKeeps_unqueued _).withdraw _ ((unqueued_iff _ _).2 (Bool.eq_false_iff.2 hnot))
    rw [(unqueued_iff _ _).1 (unqueued_cede_settle hsettled hnone)] at hqueued
    cases hqueued

/-- A lost trial of any other mark fails: the lane is released, its BID withdrawn, and its slot or its row's standby tried. -/
theorem lost_trial (hslot : (s.lane l).slot = some k) (hrole : (s.lane l).role = .trial) (hmode : s.mode.holdsRoles = true)
    (hmark : ∀ b, (s.lane l).mark ≠ .late b) :
    Released ((s.holdoverExpired l).lane l) ∧ NoIdle (isBidOf l) (s.holdoverExpired l).link
      ∧ ((∀ n, (s.lane l).mark ≠ .standby n) → (s.row k).isOpen = true →
          ((s.holdoverExpired l).loc k).tried = true ∧ ((s.holdoverExpired l).lane l).slot ≠ some k)
      ∧ ((∀ n, (s.lane l).mark ≠ .standby n) → (s.row k).isOpen = false →
          ((s.holdoverExpired l).loc k).tried = (s.loc k).tried)
      ∧ ((∃ n, (s.lane l).mark = .standby n) → k < s.table.length → ((s.holdoverExpired l).loc k).standbyTried = true) := by
  have hlane := lane_stopped s l
  obtain ⟨htried, hstandby⟩ := triedAfter_failTrial (u := s.stopped l) (l := l) (k := k) (by rw [hlane]; exact hslot) hmode
  rw [hlane] at htried hstandby
  rw [holdoverExpired_eq hstate, lost_failTrial (by rw [hlane]; exact hrole) (by rw [hlane]; exact hmark)]
  refine ⟨?_, noIdle_bid_settle (shed_failTrial (s.stopped l) l) false, htried, fun hnot hclosed => ?_, hstandby⟩
  · refine lane_settle (s := (s.stopped l).failTrial l) (P := Released) ?_ (laneClosed_released _ l) ?_ false
    · rw [mode_failTrial]
      exact appliesFrames_of_holdsRoles hmode
    · rw [lane_failTrial]
      exact ⟨rfl, rfl, rfl, rfl, .inl ⟨rfl, rfl, rfl, rfl⟩⟩
  · refine (congrArg RowLocal.tried (unplaced_settle ((s.stopped l).failTrial l) false k)).trans ?_
    rw [loc_failTrial_closed (s := s.stopped l) (by rw [hlane]; exact hslot) (by rw [hlane]; exact hnot) hclosed]
    rfl

/-- A HELD lane that loses its multiplex enters IDLE and stays HELD, its CEDE still queued. -/
theorem lost_held {fs : Nat} {role : CarriageRole} (hrole : (s.lane l).role = .free) (hmark : (s.lane l).mark = .held fs role)
    (hctx : (s.lane l).ctx = .none) (hheld : HeldStands s l) :
    (s.holdoverExpired l).lane l = ((s.lane l).stopReceiving (s.slotInput (s.lane l).slot)).loseHeld
      ∧ (s.holdoverExpired l).link.queued (isReclaimCedeOf l) = true := by
  have hlane := lane_stopped s l
  obtain ⟨hjoining, hopen, hqueued⟩ := hheld fs role hmark
  have hlost : (s.stopped l).lost l = (s.stopped l).modLane l Lane.loseHeld := by
    simp only [State.lost, hlane, Lane.stopReceiving, hrole, hmark]
  have holding := holding_settle (s := (s.stopped l).modLane l Lane.loseHeld) (l := l) (reclaims_self l)
    (y := ((s.lane l).stopReceiving (s.slotInput (s.lane l).slot)).loseHeld) hrole hctx hmark hopen hjoining
    ⟨by rw [State.lane_modLane_self, hlane], hqueued⟩
  rw [holdoverExpired_eq hstate, hlost]
  exact ⟨holding.lane, holding.queued⟩

end

/-- Settles O54. -/
theorem lostLanesCedeAndRetry : Obligations.LostLanesCedeAndRetry := by
  refine ⟨fun s l k hstate hslot hmark => ⟨fun role hrole hctx => ?_, fun hrole => ?_, fun term st al hrole hctx hswap hlength hbeside => ?_,
    fun hrole hmode hctx => ?_⟩, fun s l k hstate hslot hctx => ⟨fun hrole hmode hlate hheld => ?_, fun hrole ⟨b, hb⟩ => ?_,
    fun fs role hrole hmark hstands => ?_⟩⟩
  all_goals
    refine ⟨s.holdoverExpired l, rfl, row_holdoverExpired hstate, ?_⟩
    have spends (hfree : (s.lane l).role ≠ .free) (hbound : (s.lane l).role = .trial → ∃ b, (s.lane l).mark = .late b)
        (hlimited : s.retryMode = .limited) (hcount : 14 ≤ (s.lane l).retryCount) :
        exec (.retryLimitSpent l) s = .next (s.holdoverExpired l) :=
      congrArg Host.Outcome.next (spendLoss_eq hstate hfree hbound hlimited hcount)
  · obtain ⟨hafter, hfree, -, hcede⟩ : afterLoss s.retryMode (s.lane l) ((s.holdoverExpired l).lane l)
        ∧ ((s.holdoverExpired l).lane l).role = .free ∧ ((s.holdoverExpired l).lane l).ctx = .none
        ∧ Holds (.cede (byteOf k) (CarriageRole.byte role) (s.termOf k) (byteOf l.val) .lost) (s.holdoverExpired l).link := by
      cases role with
      | carrier => exact lost_carries hstate (.inl hrole) hslot
      | standby => exact lost_standby hstate hrole hslot hctx
    refine ⟨hafter, hfree, hcede, fun hlimited hcount => ?_⟩
    rw [hlimited] at hafter
    obtain ⟨hspent, hfull⟩ := spent_of_afterLoss hafter hcount
    refine ⟨spends ?_ ?_ hlimited hcount, hspent, hfull, alert_of_spent hspent⟩
    · cases role <;> simp [hrole]
    · cases role <;> simp [hrole]
  · obtain ⟨hafter, hfree, hnone, hcede⟩ := lost_carries hstate (.inr hrole) hslot
    exact ⟨hafter, hfree, hnone, hcede, spends (by simp [hrole]) (by simp [hrole])⟩
  · obtain ⟨hafter, hfree, htaker, hdropping, hdrop⟩ := lost_taker hstate hrole hslot hctx hswap hlength hbeside
    exact ⟨hafter, hfree, htaker, hdropping, hdrop, spends (by simp [hrole]) (by simp [hrole])⟩
  · obtain ⟨hafter, hhome, hlink⟩ := lost_home hstate hrole hmode
    exact ⟨hafter, hhome, hlink, spends (by simp [hrole]) (by simp [hrole])⟩
  · exact lost_trial hstate hslot hrole hmode hlate
  · obtain ⟨hafter, hfree, htried, hbid, hcede⟩ := lost_late (k := k) hstate hrole hb hctx
    exact ⟨hafter, hfree, htried, hbid, hcede, spends (by simp [hrole]) fun _ => ⟨b, hb⟩⟩
  · obtain ⟨hlane, hqueued⟩ := lost_held hstate hrole hmark hctx hstands
    rw [hlane]
    exact ⟨rfl, hrole, hslot, hmark, rfl, rfl, rfl, rfl, rfl, rfl, rfl, hqueued⟩

end Sys2Proof.Machine
end

section
/-! # A quality period closes

What the period does to its lane, and the two events that a close brings about (O56). -/

namespace Sys2Proof.Machine

open Sys2Proof.Safety

/-! ### The lane -/

/-- The lane as the ladder, the lock rules and the quality streak leave it at a period close (R92). -/
def Lane.periodTaken (p : Profile) (margin : Nat) (x : Lane) : Lane :=
  ((x.closePeriod margin).takePeriod p (x.closePeriod margin).margin).takeQuality p

/-- The ladder and the lock rules change the lane's progress and nothing else of it. -/
theorem takePeriod_eq (x : Lane) (p : Profile) (m : Nat) : ∃ st timer low run set clock sync, x.takePeriod p m =
    { x with state := st, stateTimer := timer, lowPeriods := low, steadyRun := run, settings := set, lockClock := clock, sync := sync } := by
  rw [Lane.takePeriod]
  repeat' split
  all_goals exact ⟨_, _, _, _, _, _, _, rfl⟩

/-- What the close of a period leaves of a lane: its claim, its role and its swap. -/
structure SameClaim (x y : Lane) : Prop where
  role : y.role = x.role
  slot : y.slot = x.slot
  mark : y.mark = x.mark
  bidTerm : y.bidTerm = x.bidTerm
  ctx : y.ctx = x.ctx
  gate : y.gate = x.gate
  buffer : y.buffer = x.buffer

theorem SameClaim.refl (x : Lane) : SameClaim x x := ⟨rfl, rfl, rfl, rfl, rfl, rfl, rfl⟩

theorem SameClaim.trans {x y z : Lane} (h : SameClaim x y) (h' : SameClaim y z) : SameClaim x z :=
  ⟨h'.role.trans h.role, h'.slot.trans h.slot, h'.mark.trans h.mark, h'.bidTerm.trans h.bidTerm, h'.ctx.trans h.ctx,
    h'.gate.trans h.gate, h'.buffer.trans h.buffer⟩

theorem sameClaim_takeQuality (x : Lane) (p : Profile) : SameClaim x (x.takeQuality p) := by
  rw [Lane.takeQuality]
  split <;> exact ⟨rfl, rfl, rfl, rfl, rfl, rfl, rfl⟩

theorem sameClaim_takePeriod (x : Lane) (p : Profile) (m : Nat) : SameClaim x (x.takePeriod p m) := by
  obtain ⟨st, timer, low, run, set, clock, sync, h⟩ := takePeriod_eq x p m
  rw [h]
  exact ⟨rfl, rfl, rfl, rfl, rfl, rfl, rfl⟩

theorem sameClaim_periodTaken (p : Profile) (m : Nat) (x : Lane) : SameClaim x (x.periodTaken p m) :=
  have closed : SameClaim x (x.closePeriod m) := ⟨rfl, rfl, rfl, rfl, rfl, rfl, rfl⟩
  (closed.trans (sameClaim_takePeriod _ p _)).trans (sameClaim_takeQuality _ p)

theorem sameClaim_takeClash (x : Lane) : SameClaim x x.takeClash := ⟨rfl, rfl, rfl, rfl, rfl, rfl, rfl⟩

/-- The clash record is the outlet port's own: the ladder leaves it as it is. -/
theorem clash_periodTaken (p : Profile) (m : Nat) (x : Lane) :
    (x.periodTaken p m).clashSeen = x.clashSeen ∧ (x.periodTaken p m).clashStreak = x.clashStreak := by
  have h : ∀ y : Lane, (y.takeQuality p).clashSeen = y.clashSeen ∧ (y.takeQuality p).clashStreak = y.clashStreak := by
    intro y
    rw [Lane.takeQuality]
    split <;> exact ⟨rfl, rfl⟩
  obtain ⟨st, timer, low, run, set, clock, sync, hp⟩ := takePeriod_eq (x.closePeriod m) p (x.closePeriod m).margin
  rw [Lane.periodTaken, (h _).1, (h _).2, hp]
  exact ⟨rfl, rfl⟩

/-! ### The station -/

section
variable {s : State} {l : LaneId} {m : Nat}

theorem lane_periodTaken (s : State) (l : LaneId) (m : Nat) :
    (s.periodTaken l m).lane l = (s.lane l).periodTaken (s.profile (s.lane l).slot) m := State.lane_modLane_self s l _

theorem clashLimit_periodTaken : ((s.periodTaken l m).lane l).clashLimit = (s.lane l).clashLimit := by
  obtain ⟨hseen, hstreak⟩ := clash_periodTaken (s.profile (s.lane l).slot) m (s.lane l)
  rw [lane_periodTaken, Lane.clashLimit, (sameClaim_periodTaken _ m _).role, hseen, hstreak]
  rfl

theorem periodClose_eq (h : (s.lane l).state.sampled = true) :
    s.periodClose l m = ((((s.periodTaken l m).trigger l).renewBid l).clashTaken l).settle false := if_pos h

theorem trigger_fires {u : State} {k : Nat} (hslot : (u.lane l).slot = some k) (h : u.triggerFires l = true) :
    u.trigger l = u.offerSwap k l := by
  simp only [State.trigger, hslot, h]
  rfl

theorem trigger_idle {u : State} (h : u.triggerFires l = false) : u.trigger l = u := by
  rw [State.trigger]
  split
  · rw [h]
    rfl
  · rfl

theorem renewBid_of_role {u : State} (h : (u.lane l).role ≠ .trial) : u.renewBid l = u := if_neg fun hc => h hc.1

theorem clashTaken_below {u : State} (h : (u.lane l).clashLimit = false) : u.clashTaken l = u.modLane l Lane.takeClash := by
  simp only [State.clashTaken, h]

theorem clashTaken_limit {u : State} {k : Nat} (h : (u.lane l).clashLimit = true) (hslot : (u.lane l).slot = some k) :
    u.clashTaken l = u.giveUp k .carrier l .clash := by
  simp only [State.clashTaken, h, hslot]

theorem row_periodClose (h : (s.lane l).state.sampled = true) : SameRows s (s.periodClose l m) := by
  intro j
  rw [periodClose_eq h, row_settle, row_of_skeleton (skeleton_clashTaken _ l), row_of_skeleton (skeleton_renewBid _ l),
    row_of_skeleton (skeleton_trigger _ l)]
  rfl

/-- Where the trigger fires, the lane is the CARRIER of a CARRIED row with a standby, in no swap, at a JOINED station (R56). -/
theorem triggerFires_some {u : State} {k : Nat} (hslot : (u.lane l).slot = some k) (h : u.triggerFires l = true) :
    u.mode = .joined ∧ (u.lane l).role = .carrier ∧ (u.lane l).ctx = .none ∧ ∃ t c sb lc, u.row k = .carried t c (some sb) lc := by
  simp only [State.triggerFires, hslot, Bool.and_eq_true, beq_iff_eq] at h
  obtain ⟨⟨⟨⟨hmode, hrole⟩, -⟩, hctx⟩, hrow⟩ := h
  refine ⟨hmode, hrole, hctx, ?_⟩
  cases hr : u.row k with
  | carried t c sb lc =>
    cases sb with
    | none => rw [hr] at hrow; cases hrow
    | some sb => exact ⟨t, c, sb, lc, rfl⟩
  | _ =>
    rw [hr] at hrow
    cases hrow

end

/-! ### The obligation -/

section
variable {s : State} {l : LaneId} {m k : Nat} (hslot : (s.lane l).slot = some k)
include hslot

/-- The trigger opens the GIVER context and hands over the SWAP-OFFER, and both come out of settling (R56, R57). -/
theorem trigger_settled (htrigger : s.triggersAt l m = true) (hclash : (s.lane l).clashLimit = false)
    (hheld : (s.lane l).mark.isHeld = false) (hothers : ∀ i, i ≠ l → (s.lane i).ctx = .none) (hlength : s.table.length ≤ 20) :
    ((s.periodClose l m).lane l).ctx = .giver k (s.termOf k) .offering 0 0 ∧ ((s.periodClose l m).lane l).role = .carrier
      ∧ ((s.periodClose l m).lane l).gate = (s.lane l).gate
      ∧ Holds (.swapOffer (byteOf k) (s.termOf k)) (s.periodClose l m).link := by
  rw [State.triggersAt, Bool.and_eq_true] at htrigger
  obtain ⟨hsampled, hfires⟩ := htrigger
  have hsame := sameClaim_periodTaken (s.profile (s.lane l).slot) m (s.lane l)
  rw [← lane_periodTaken] at hsame
  have htslot : ((s.periodTaken l m).lane l).slot = some k := hsame.slot.trans hslot
  obtain ⟨hmode, hrole, -, t, c, sb, lc, hrow⟩ := triggerFires_some htslot hfires
  have hterm : s.termOf k = t := termOf_of_row (s := s) (congrArg Row.term hrow)
  have hk : k < s.table.length := s.lt_length_of_row (by
    rw [show s.row k = _ from hrow]
    nofun)
  obtain ⟨u, hu⟩ : ∃ u, u = (s.periodTaken l m).offerSwap k l := ⟨_, rfl⟩
  have hulane : u.lane l = { (s.periodTaken l m).lane l with ctx := .giver k (s.termOf k) .offering 0 0 } := by
    rw [hu, lane_offerSwap]
    rfl
  obtain ⟨v, hv⟩ : ∃ v, v = u.modLane l Lane.takeClash := ⟨_, rfl⟩
  have hvlane : v.lane l = (u.lane l).takeClash := by rw [hv]; exact State.lane_modLane_self u l _
  have hclose : s.periodClose l m = v.settle false := by
    rw [periodClose_eq hsampled, trigger_fires htslot hfires, ← hu, renewBid_of_role, clashTaken_below, hv]
    · rw [hulane]
      exact clashLimit_periodTaken.trans hclash
    · rw [hulane]
      exact fun h => by
        have h : ((s.periodTaken l m).lane l).role = .trial := h
        rw [hrole] at h
        cases h
  have hvmode : v.mode = .joined := by rw [hv, hu]; exact hmode
  have hvrow : v.row k = .carried t c (some sb) lc := by rw [hv, hu]; exact hrow
  have hvnumber : v.mode = .resting → ∀ i, i ≠ l → ∀ j, (v.row j).names (v.ownPair i) = true →
      (v.row j).isSwapping = false → byteOf j ≠ byteOf k := fun h => by
    rw [hvmode] at h
    cases h
  have hsent : Holds (.swapOffer (byteOf k) (s.termOf k)) v.link := by
    rw [hv, hu]
    exact holds_offerSwap (s.periodTaken l m) k l
  obtain ⟨hkept, hholds⟩ := swapKept_offering (u := v) (l := l) (k := k) (t := s.termOf k) (a := 0) (b := 0) (by rw [hvmode]; rfl)
    (by omega) (by rw [hterm]; exact hvrow) (by rw [hvlane, hulane]; rfl) (by rw [hvlane, hulane]; exact hrole)
    (by rw [hvlane, hulane]; exact htslot) (by rw [hvlane, hulane]; exact hsame.mark ▸ hheld) hvnumber (fun i hi => by
      rw [hv, State.lane_modLane_ne u _ hi, hu, lane_offerSwap_ne _ _ hi, State.periodTaken, State.lane_modLane_ne s _ hi]
      exact apart_none (hothers i hi)) hsent false
  rw [hclose, hkept, hvlane, hulane]
  exact ⟨rfl, hrole, hsame.gate, hholds⟩

/-- At the clash limit the lane gives up its role and its swap, and its CEDE comes out of settling (R129). -/
theorem clash_settled (hlimit : s.clashLimitAt l = true) :
    ((s.periodClose l m).lane l).gate = false ∧ ((s.periodClose l m).lane l).role ≠ .carrier
      ∧ ((s.periodClose l m).lane l).role ≠ .giver ∧ ((s.periodClose l m).lane l).ctx = .none
      ∧ Holds (.cede (byteOf k) 0#8 (s.termOf k) (byteOf l.val) .clash) (s.periodClose l m).link := by
  rw [State.clashLimitAt, Bool.and_eq_true] at hlimit
  obtain ⟨hsampled, hclash⟩ := hlimit
  obtain ⟨z, hz⟩ : ∃ z, z = ((s.periodTaken l m).trigger l).renewBid l := ⟨_, rfl⟩
  have hsame := sameClaim_periodTaken (s.profile (s.lane l).slot) m (s.lane l)
  rw [← lane_periodTaken] at hsame
  have htslot := hsame.slot.trans hslot
  have hplays : ((s.periodTaken l m).lane l).role ≠ .trial := by
    rw [hsame.role]
    intro h
    rw [Lane.clashLimit, h] at hclash
    cases hclash
  have hcases : z = s.periodTaken l m ∨ z = (s.periodTaken l m).offerSwap k l := by
    cases hfires : (s.periodTaken l m).triggerFires l with
    | false => exact .inl (by rw [hz, trigger_idle hfires, renewBid_of_role hplays])
    | true =>
      refine .inr ?_
      rw [hz, trigger_fires htslot hfires, renewBid_of_role]
      rw [lane_offerSwap]
      exact hplays
  have hzlimit : (z.lane l).clashLimit = true ∧ (z.lane l).slot = some k := by
    rcases hcases with h | h
    all_goals rw [h]
    · exact ⟨clashLimit_periodTaken.trans hclash, htslot⟩
    · rw [lane_offerSwap]
      exact ⟨clashLimit_periodTaken.trans hclash, htslot⟩
  have hterm : z.termOf k = s.termOf k := by rcases hcases with h | h <;> rw [h] <;> rfl
  obtain ⟨v, hv⟩ : ∃ v, v = z.giveUp k .carrier l .clash := ⟨_, rfl⟩
  have hvlane : v.lane l = (z.lane l).gaveUp := by rw [hv, lane_giveUp]
  have hclose : s.periodClose l m = v.settle false := by
    rw [periodClose_eq hsampled, ← hz, clashTaken_limit hzlimit.1 hzlimit.2, ← hv]
  have hcede : Holds (.cede (byteOf k) 0#8 (s.termOf k) (byteOf l.val) .clash) v.link := by
    rw [hv, ← hterm]
    exact holds_giveUp_cede z k .carrier l nofun
  have hgone : (v.lane l).roleless ∧ (v.lane l).ctx = .none ∧ (v.lane l).mark.isHeld = false := by
    rw [hvlane]
    exact ⟨roleless_gaveUp _, rfl, rfl⟩
  rw [hclose]
  obtain ⟨hgate, hcarrier, hgiver, hctx⟩ : ((v.settle false).lane l).gate = false ∧ ((v.settle false).lane l).role ≠ .carrier
      ∧ ((v.settle false).lane l).role ≠ .giver ∧ ((v.settle false).lane l).ctx = .none := by
    by_cases happlies : v.mode.appliesFrames = true
    · obtain ⟨hless, hnone, -⟩ := lane_settle happlies (laneClosed_and (laneClosed_roleless _ l) (laneClosed_ctx (by nofun))) hgone false
      exact ⟨hless.2.1, hless.ne nofun nofun, hless.ne nofun nofun, hnone⟩
    · by_cases hiso : v.mode = .isolated
      · rw [settle_isolated hiso]
        have hhome := lane_homeAssignment_of_bind (fun x => (x.role = .free ∨ x.role = .home) ∧ x.gate = false ∧ x.ctx = .none) v l
          (fun j r x _ _ hx => ⟨.inr rfl, by simp [Lane.bind, Lane.enterTune, Lane.setRole, hx.2.1], hx.2.2⟩)
          (by rw [hvlane]; exact ⟨.inl rfl, rfl, rfl⟩)
        obtain ⟨hrole, hgate, hctx⟩ := hhome
        refine ⟨hgate, ?_, ?_, hctx⟩ <;> rcases hrole with h | h <;> rw [h] <;> decide
      · rw [settle_other (Bool.eq_false_iff.2 happlies) hiso, hvlane]
        exact ⟨rfl, nofun, nofun, rfl⟩
  exact ⟨hgate, hcarrier, hgiver, hctx, holds_cede_settled nofun hgone.2.2 hcede⟩

end

/-- Settles O56. -/
theorem triggerAndClash : Obligations.TriggerAndClash := by
  intro s l m k hslot
  refine ⟨fun htrigger hclash hheld hothers hlength => ⟨s.periodClose l m, congrArg Host.Outcome.next (if_pos htrigger),
    row_periodClose ?_, trigger_settled hslot htrigger hclash hheld hothers hlength⟩, fun hlimit => ?_⟩
  · rw [State.triggersAt, Bool.and_eq_true] at htrigger
    exact htrigger.1
  · refine ⟨s.periodClose l m, congrArg Host.Outcome.next (if_pos hlimit), row_periodClose ?_, clash_settled (m := m) hslot hlimit⟩
    rw [State.clashLimitAt, Bool.and_eq_true] at hlimit
    exact hlimit.1

end Sys2Proof.Machine
end

section
/-! # The lane of a period that closes stays what its rows allow -/

namespace Sys2Proof.Machine

open Sys2Proof.Safety

/-! ### A renewed BID -/

section
variable {s : State} {l : LaneId}

/-- A BID that is queued anew bids what the trial's row allows. -/
theorem trialStands_sendBid (h : s.trialStands (s.lane l) = true) :
    (s.sendBid l).trialStands ((s.sendBid l).lane l) = true := by
  have hw := within_sendBid s l
  rw [trialStands_of_rows hw.row hw.plan hw.number]
  cases hslot : (s.lane l).slot with
  | none =>
    rw [State.trialStands, hslot] at h
    cases h
  | some k =>
    have hat (x : Lane) (hx : x.slot = some k) (hmark : x.mark = (s.lane l).mark)
        (hbid : if x.mark.bidsCarrier then x.bidTerm = some (s.termOf k + 1#16) else x.bidTerm = some (s.termOf k)) :
        s.trialStands x = true := by
      simp only [State.trialStands, hslot, hx, hmark] at h hbid ⊢
      by_cases hcarrier : (s.lane l).mark.bidsCarrier = true
      · rw [if_pos hcarrier] at h hbid ⊢
        rw [Bool.and_eq_true] at h ⊢
        exact ⟨h.1, by rw [hbid]; simp⟩
      · rw [if_neg hcarrier] at h hbid ⊢
        simp only [Bool.and_eq_true] at h ⊢
        obtain ⟨⟨hplace, -⟩, hterm⟩ := h
        exact ⟨⟨hplace, by rw [hbid]; simp⟩, hterm⟩
    by_cases hcarrier : (s.lane l).mark.bidsCarrier = true ∧ (s.row k).isOpen = true
    · rw [sendBid_carrier hslot hcarrier.1 hcarrier.2, lane_send, State.lane_modLane_self]
      exact hat _ hslot rfl (by
        rw [if_pos]
        exact hcarrier.1)
    · by_cases hstandby : (s.lane l).mark.bidsStandby = true ∧ (s.row k).lacksStandby = true
      · rw [sendBid_standby hslot hstandby.1 hstandby.2, lane_send, State.lane_modLane_self]
        exact hat _ hslot rfl (by
          rw [if_neg]
          simp [not_bidsCarrier_of_bidsStandby hstandby.1])
      · have hsame : s.sendBid l = s := by
          simp only [State.sendBid, hslot]
          rw [if_neg (by simpa using hcarrier), if_neg (by simpa using hstandby)]
        rw [hsame]
        exact h

theorem sendBid_queues (s : State) (l : LaneId) :
    s.sendBid l = s ∨ ∃ t f, Frame.code f = 8 ∧ s.sendBid l = (s.modLane l fun x => { x with bidTerm := some t }).send f := by
  simp only [State.sendBid]
  repeat' split
  · exact .inl rfl
  · exact .inr ⟨_, _, rfl, rfl⟩
  · exact .inr ⟨_, _, rfl, rfl⟩
  · exact .inl rfl

theorem trialStands_congr (s : State) {x y : Lane} (h : SameClaim x y) : s.trialStands y = s.trialStands x := by
  simp only [State.trialStands, h.slot, h.mark, h.bidTerm]

/-- What the renewal of a BID leaves of the station. -/
structure Renews (l : LaneId) (q r : State) : Prop where
  within : Within q r
  table : r.table = q.table
  others : ∀ m, m ≠ l → r.lane m = q.lane m
  lane : ∃ b, r.lane l = { q.lane l with bidTerm := b }
  trial : q.trialStands (q.lane l) = true → r.trialStands (r.lane l) = true
  mode : r.mode = q.mode
  queued : q.link.queued (isReclaimCedeOf l) = true → r.link.queued (isReclaimCedeOf l) = true
  offer : ∀ k, q.link.heldFrame (isOfferFrame k) = true → r.link.heldFrame (isOfferFrame k) = true

theorem renews_refl (s : State) : Renews l s s :=
  ⟨.refl s, rfl, fun _ _ => rfl, ⟨_, rfl⟩, id, rfl, id, fun _ => id⟩

theorem renews_renewBid (s : State) : Renews l s (s.renewBid l) := by
  rw [State.renewBid]
  split
  · have hw := within_sendBid s l
    obtain hs | ⟨t, f, hcode, hs⟩ := sendBid_queues s l
    · rw [hs]
      exact renews_refl s
    · refine ⟨hw, table_sendBid s l, fun m hm => ?_, lane_sendBid s l, trialStands_sendBid, hw.mode, fun h => ?_, fun k h => ?_⟩
      all_goals rw [hs]
      · rw [lane_send, State.lane_modLane_ne s _ hm]
      · exact reclaims_send (reclaims_self l) (u := s.modLane l _) (by omega) h
      · refine heldFrame_join_of_held (fun g hg => ?_) h _
        cases g with
        | swapOffer => rfl
        | _ => cases hg
  · exact renews_refl s

end

/-! ### The close of a period -/

/-- A SWAP-OFFER stays wanted where the rows are the same, and every lane has its role, its slot and its swap. -/
theorem wants_offer_congr {s u : State} (hrows : SameRows s u)
    (hlanes : ∀ i, (u.lane i).role = (s.lane i).role ∧ (u.lane i).slot = (s.lane i).slot ∧ (u.lane i).ctx = (s.lane i).ctx)
    (slot : Byte) (t : Term) : u.wants (.swapOffer slot t) = s.wants (.swapOffer slot t) := by
  have hgiving : u.givingCarrier slot.toNat = s.givingCarrier slot.toNat := by
    simp only [State.givingCarrier, hlanes]
  simp only [State.wants, hgiving, show u.row slot.toNat = s.row slot.toNat from hrows _]

/-- The station of a period close that brings about no event, before it settles. -/
def State.periodClosed (s : State) (l : LaneId) (m : Nat) : State := ((s.periodTaken l m).renewBid l).modLane l Lane.takeClash

section
variable {s : State} {l : LaneId} {m : Nat}

theorem periodClose_quiet (hsampled : (s.lane l).state.sampled = true) (hclash : (s.lane l).clashLimit = false)
    (htrigger : s.triggersAt l m = false) : s.periodClose l m = (s.periodClosed l m).settle false := by
  have hidle : (s.periodTaken l m).triggerFires l = false := by
    rw [State.triggersAt, hsampled, Bool.true_and] at htrigger
    exact htrigger
  have hlimit : (((s.periodTaken l m).renewBid l).lane l).clashLimit = false := by
    obtain ⟨b, hb⟩ := (renews_renewBid (l := l) (s.periodTaken l m)).lane
    rw [hb]
    exact clashLimit_periodTaken.trans hclash
  rw [periodClose_eq hsampled, trigger_idle hidle, clashTaken_below hlimit]
  rfl

theorem lane_periodClosed (s : State) (l : LaneId) (m : Nat) : ∃ b, (s.periodClosed l m).lane l
    = { ((s.lane l).periodTaken (s.profile (s.lane l).slot) m).takeClash with bidTerm := b } := by
  obtain ⟨b, hb⟩ := (renews_renewBid (l := l) (s.periodTaken l m)).lane
  refine ⟨b, ?_⟩
  rw [State.periodClosed, State.lane_modLane_self, hb, lane_periodTaken]
  rfl

theorem lane_periodClosed_ne {i : LaneId} (h : i ≠ l) : (s.periodClosed l m).lane i = s.lane i := by
  rw [State.periodClosed, State.lane_modLane_ne _ _ h, (renews_renewBid (l := l) (s.periodTaken l m)).others i h,
    State.periodTaken, State.lane_modLane_ne s _ h]

/-- The ladder takes a sampled lane to no state in which it is available. -/
theorem periodTaken_ne_idle (p : Profile) {x : Lane} (h : x.state.sampled = true) : (x.periodTaken p m).state ≠ .idle := by
  have hq (y : Lane) : (y.takeQuality p).state = y.state := by
    rw [Lane.takeQuality]
    split <;> rfl
  rw [Lane.periodTaken, hq]
  intro hidle
  rw [Lane.takePeriod] at hidle
  repeat' split at hidle
  all_goals first
    | cases hidle
    | (rw [show x.state = .idle from hidle] at h; cases h)

/-- The close of a period leaves a lane to its trial, its HELD mark or its swap where the rows allow it. -/
theorem stays_periodClosed (hsampled : (s.lane l).state.sampled = true) (htrial : TrialStands s l) (hheld : HeldStands s l)
    (hswap : SwapStands s l) : ∃ c, ((s.periodClosed l m).settle false).lane l = { (s.periodClosed l m).lane l with ctx := c } := by
  have hrenews := renews_renewBid (l := l) (s.periodTaken l m)
  obtain ⟨b, hb⟩ := lane_periodClosed s l m
  have hsame := (sameClaim_periodTaken (s.profile (s.lane l).slot) m (s.lane l)).trans (sameClaim_takeClash _)
  have hne := periodTaken_ne_idle (m := m) (s.profile (s.lane l).slot) hsampled
  obtain ⟨y, hy⟩ : ∃ y, y = ((s.lane l).periodTaken (s.profile (s.lane l).slot) m).takeClash := ⟨_, rfl⟩
  rw [← hy] at hb hsame
  obtain ⟨u, hu⟩ : ∃ u, u = s.periodClosed l m := ⟨_, rfl⟩
  have hrows : SameRows s u := fun k => by
    rw [hu]
    exact (hrenews.within.row k).trans rfl
  have hmode : u.mode = s.mode := by rw [hu]; exact hrenews.mode.trans rfl
  have hlane (i : LaneId) : (u.lane i).role = (s.lane i).role ∧ (u.lane i).slot = (s.lane i).slot
      ∧ (u.lane i).ctx = (s.lane i).ctx ∧ (u.lane i).mark = (s.lane i).mark := by
    by_cases hi : i = l
    · subst hi
      rw [hu, hb]
      exact ⟨hsame.role, hsame.slot, hsame.ctx, hsame.mark⟩
    · rw [hu, lane_periodClosed_ne hi]
      exact ⟨rfl, rfl, rfl, rfl⟩
  obtain ⟨hrole, hslot, hctx, hmark⟩ := hlane l
  rw [← hu]
  refine lane_settle_stays (fun htr => ?_) (fun fs r hm => ?_) ?_ ?_
  · rw [hrole] at htr
    obtain ⟨hstands, hplaces, hopen⟩ := htrial htr
    have htable : u.table = s.table := by rw [hu]; exact hrenews.table.trans rfl
    have hplan : u.plan = s.plan := by rw [hu]; exact hrenews.within.plan.trans rfl
    have hdir : u.dir = s.dir := by rw [hu]; exact hrenews.within.dir.trans rfl
    have hnumber : u.number = s.number := by rw [hu]; exact hrenews.within.number.trans rfl
    refine ⟨?_, fun k hk => ?_, fun hstandby j => ?_⟩
    · have htaken : (s.periodTaken l m).trialStands ((s.periodTaken l m).lane l) = true := by
        rw [lane_periodTaken]
        exact (trialStands_congr s (sameClaim_periodTaken (s.profile (s.lane l).slot) m (s.lane l))).trans hstands
      have hrenewed := hrenews.trial htaken
      rw [hu, State.periodClosed, State.lane_modLane_self]
      exact hrenewed
    · rw [hslot] at hk
      obtain ⟨hplace, hstandby⟩ := hplaces k hk
      rw [State.loc_congr htable, placeNow_of_rows hrows hplan hdir hnumber, standbyPlaceNow_of_rows hrows hplan hdir hnumber]
      exact ⟨fun _ => hplace.symm, fun _ => hstandby.symm⟩
    · rw [hmark] at hstandby
      rw [hrows]
      exact hopen hstandby j
  · rw [hmark] at hm
    obtain ⟨hjoining, hopen, hqueued⟩ := hheld fs r hm
    refine ⟨by rw [hmode]; exact hjoining, by rw [hrows]; exact hopen, ?_⟩
    rw [hu]
    exact hrenews.queued hqueued
  · have hat (k : Nat) (t : Term) : u.swappingAt k t (fun _ => true) = s.swappingAt k t (fun _ => true) := by
      rw [State.swappingAt, hrows]
      rfl
    rw [SwapStands] at hswap ⊢
    rw [hctx]
    cases hc : (s.lane l).ctx with
    | none => trivial
    | taker k t st al =>
      rw [hc] at hswap
      exact (hat k t).trans hswap
    | giver k t st a b =>
      rw [hc] at hswap
      refine hswap.imp (hat k t).trans fun ⟨hst, hoffer, hwants, hothers⟩ => ⟨hst, ?_, ?_, fun i hi => ?_⟩
      · rw [hu]
        exact hrenews.offer k hoffer
      · exact (wants_offer_congr hrows (fun i => ⟨(hlane i).1, (hlane i).2.1, (hlane i).2.2.1⟩) _ _).trans hwants
      · rw [(hlane i).2.2.1, (hlane i).2.2.2]
        exact hothers i hi
  · rw [Lane.available, hu, hb, hy]
    have : (((s.lane l).periodTaken (s.profile (s.lane l).slot) m).state == LaneState.idle) = false := by simpa using hne
    simp [Lane.takeClash, this]

end

end Sys2Proof.Machine
end

section
/-! # What a quality period brings about -/

namespace Sys2Proof.Machine

open Sys2Proof.Safety

/-! ### The ladder -/

/-- The part of a lane that the ladder and the lock rules move. -/
structure SameLadder (x y : Lane) : Prop where
  state : y.state = x.state
  stateTimer : y.stateTimer = x.stateTimer
  lowPeriods : y.lowPeriods = x.lowPeriods
  steadyRun : y.steadyRun = x.steadyRun
  settings : y.settings = x.settings
  lockClock : y.lockClock = x.lockClock
  sync : y.sync = x.sync

section
variable {p : Profile} {m : Nat} {x : Lane}

theorem sameLadder_takeQuality (x : Lane) (p : Profile) : SameLadder x (x.takeQuality p) := by
  rw [Lane.takeQuality]
  split <;> exact ⟨rfl, rfl, rfl, rfl, rfl, rfl, rfl⟩

/-- Past ACQ1 the ladder judges the period by its margin. -/
theorem ladder_periodTaken (h : x.state ≠ .acq1) :
    SameLadder ((x.closePeriod m).takePeriod p (min m 63)) (x.periodTaken p m) := by
  have hmargin : (x.closePeriod m).margin = min m 63 := if_neg h
  rw [Lane.periodTaken, hmargin]
  exact sameLadder_takeQuality _ p

/-- In ACQ1 and in ACQ3 a period moves nothing. -/
theorem ladder_waits (h : x.state = .acq1 ∨ x.state = .acq3) : SameLadder x (x.periodTaken p m) := by
  have hsame : (x.closePeriod m).takePeriod p (x.closePeriod m).margin = x.closePeriod m := by
    have hstate : (x.closePeriod m).state = x.state := rfl
    rw [Lane.takePeriod, hstate]
    rcases h with h | h <;> rw [h]
  obtain ⟨hst, htimer, hlow, hrun, hset, hclock, hsync⟩ := sameLadder_takeQuality (x.closePeriod m) p
  rw [Lane.periodTaken, hsame]
  exact ⟨hst, htimer, hlow, hrun, hset, hclock, hsync⟩

theorem takePeriod_acq2 (h : x.state = .acq2) : x.takePeriod p m = if acq2Threshold p ≤ m then x.toAcq p .acq3 else x := by
  simp only [Lane.takePeriod, h]

theorem takePeriod_low_first (h : x.state = .locked) (hlow : m < lockFloor p x.settings) (hfirst : x.lowPeriods = 0) :
    x.takePeriod p m = { x with lowPeriods := 1, steadyRun := 0 } := by
  simp only [Lane.takePeriod, h]
  rw [if_pos hlow, if_pos hfirst]

theorem takePeriod_low_again (h : x.state = .locked) (hlow : m < lockFloor p x.settings) (hagain : x.lowPeriods ≠ 0) :
    x.takePeriod p m = x.holdOver p := by
  simp only [Lane.takePeriod, h]
  rw [if_pos hlow, if_neg hagain]

theorem takePeriod_fair (h : x.state = .locked) (hlow : ¬m < lockFloor p x.settings) : ∃ run set, x.takePeriod p m
    = { x with lowPeriods := 0, steadyRun := run, settings := set } := by
  simp only [Lane.takePeriod, h]
  rw [if_neg hlow]
  repeat' split
  all_goals exact ⟨_, _, rfl⟩

theorem takePeriod_recovering (h : x.state = .locked) (hlow : ¬m < lockFloor p x.settings) (hset : x.settings = .recovery)
    (hrun : x.steadyRun ≠ 29) : x.takePeriod p m
    = { x with lowPeriods := 0, steadyRun := if lockFloor p .steady + 2 ≤ m then x.steadyRun + 1 else 0 } := by
  simp only [Lane.takePeriod, h]
  rw [if_neg hlow, hset]
  dsimp only
  split
  · rw [if_neg (by omega)]
  · rfl

theorem takePeriod_steadied (h : x.state = .locked) (hlow : ¬m < lockFloor p x.settings) (hset : x.settings = .recovery)
    (hrun : x.steadyRun = 29) (hgood : lockFloor p .steady + 2 ≤ m) : x.takePeriod p m
    = { x with lowPeriods := 0, settings := .steady, steadyRun := 0 } := by
  simp only [Lane.takePeriod, h]
  rw [if_neg hlow, hset]
  dsimp only
  rw [if_pos hgood, if_pos (by omega)]

theorem takePeriod_holdover (h : x.state = .holdover) : x.takePeriod p m = { x with sync := { x.sync with
    qualified := decide (lockFloor p .recovery ≤ m),
    hits := if lockFloor p .recovery ≤ m ∧ x.sync.qualified = false then 0 else x.sync.hits } } := by
  have hstep : x.takePeriod p m = if lockFloor p .recovery ≤ m then
      if x.sync.qualified then x else { x with sync := { x.sync with qualified := true, hits := 0 } }
    else { x with sync := { x.sync with qualified := false } } := by simp only [Lane.takePeriod, h]
  rw [hstep]
  by_cases hm : lockFloor p .recovery ≤ m
  · rw [if_pos hm, decide_eq_true hm]
    by_cases hq : x.sync.qualified = true
    · rw [if_pos hq, if_neg (by simp [hq]), ← hq]
    · rw [if_neg hq, if_pos ⟨hm, Bool.eq_false_iff.2 hq⟩]
  · rw [if_neg hm, decide_eq_false hm, if_neg fun h => hm h.1]

theorem not_low_of_good (h : lockFloor p .steady + 2 ≤ m) : ¬m < lockFloor p .recovery := by
  cases p <;> simp only [lockFloor] at h ⊢ <;> omega

/-- The sampler's record of the period, and the quality streak (R56, R92). -/
theorem record_periodTaken (p : Profile) (m : Nat) (x : Lane) :
    (x.periodTaken p m).margin = (if x.state = .acq1 then 0 else min m 63) ∧ (x.periodTaken p m).residual = x.periodErrors
      ∧ (x.periodTaken p m).periodErrors = 0 ∧ (x.periodTaken p m).periodClock = some 100
      ∧ (x.periodTaken p m).qualityStreak = (if x.role = .carrier then
          (if (x.periodTaken p m).margin < swapFloor p ∨ (x.periodTaken p m).residual ≠ 0 then satInc 5 x.qualityStreak else 0)
        else x.qualityStreak) := by
  obtain ⟨st, timer, low, run, set, clock, sync, hp⟩ := takePeriod_eq (x.closePeriod m) p (x.closePeriod m).margin
  rw [Lane.periodTaken, hp, Lane.takeQuality]
  by_cases hrole : x.role = .carrier
  · rw [if_pos (show (x.closePeriod m).role = .carrier from hrole), if_pos hrole]
    exact ⟨rfl, rfl, rfl, rfl, rfl⟩
  · rw [if_neg (show ¬(x.closePeriod m).role = .carrier from hrole), if_neg hrole]
    exact ⟨rfl, rfl, rfl, rfl, rfl⟩

end

/-- Settles O51. -/
theorem qualityPeriodCloses : Obligations.QualityPeriodCloses := by
  refine ⟨fun s l m hsampled htrial hheld hswap hclash htrigger => ?_, rfl, rfl, rfl, rfl, rfl⟩
  intro p low
  obtain ⟨x, hx⟩ : ∃ x, x = s.lane l := ⟨_, rfl⟩
  obtain ⟨y, hy⟩ : ∃ y, y = x.periodTaken p m := ⟨_, rfl⟩
  obtain ⟨t, ht⟩ : ∃ t, t = s.periodClose l m := ⟨_, rfl⟩
  have hlane : ∃ b c, t.lane l = { y.takeClash with bidTerm := b, ctx := c } := by
    obtain ⟨b, hb⟩ := lane_periodClosed s l m
    obtain ⟨c, hc⟩ := stays_periodClosed (m := m) hsampled htrial hheld hswap
    exact ⟨b, c, by rw [ht, periodClose_quiet hsampled hclash htrigger, hc, hb, hy, hx]⟩
  obtain ⟨b, c, hlane⟩ := hlane
  have hsame : SameClaim x y := hy ▸ sameClaim_periodTaken p m x
  obtain ⟨hmargin, hresidual, herrors, hclock, hquality⟩ := record_periodTaken p m x
  obtain ⟨hseen, hstreak⟩ := clash_periodTaken p m x
  rw [← hy] at hmargin hresidual herrors hclock hquality hseen hstreak
  have hdir : t.dir = s.dir := by
    rw [ht, periodClose_quiet hsampled hclash htrigger]
    exact (dir_of_skeleton (skeleton_settle _ false)).trans ((renews_renewBid (l := l) (s.periodTaken l m)).within.dir.trans rfl)
  have hladder (h : x.state ≠ .acq1) : SameLadder ((x.closePeriod m).takePeriod p (min m 63)) (t.lane l) := by
    rw [hlane]
    obtain ⟨h1, h2, h3, h4, h5, h6, h7⟩ := hy ▸ ladder_periodTaken (p := p) (m := m) h
    exact ⟨h1, h2, h3, h4, h5, h6, h7⟩
  have hrun : (x.closePeriod m).state = x.state ∧ (x.closePeriod m).settings = x.settings := ⟨rfl, rfl⟩
  have hlowAt : low ↔ min m 63 < lockFloor p (x.closePeriod m).settings := by
    rw [hrun.2, hx]
  have hcompletes (h : s.steadyCompletes l m = true) : x.state = .locked ∧ x.settings = .recovery ∧ x.steadyRun = 29
      ∧ lockFloor p .steady + 2 ≤ min m 63 := by
    rw [hx]
    simpa [State.steadyCompletes, and_assoc] using h
  rw [← hx] at hsampled ⊢
  refine ⟨t, congrArg Host.Outcome.next ht.symm, ?_, hdir, ?_, ?_, ?_, ?_, ?_, ?_, ?_, ?_, ?_, ?_, ?_, ?_, fun hstate => ?_, fun hstate => ?_,
    fun hstate hlow => ?_, fun hstate hlow hfirst => ?_, fun hstate hlow hagain => ?_, fun hstate => ?_, fun hsteady => ?_⟩
  · rw [ht]
    exact row_periodClose (hx ▸ hsampled)
  · rw [hlane]; exact hmargin
  · rw [hlane]; exact hresidual
  · rw [hlane]; exact herrors
  · rw [hlane]; exact hclock
  · rw [hlane]; rfl
  · rw [hlane, ← hseen, ← hstreak]; rfl
  · rw [hlane]; exact hsame.role
  · rw [hlane]; exact hsame.gate
  · rw [hlane]; exact hsame.buffer
  · rw [hlane]; exact hsame.slot
  · rw [hlane]; exact hsame.mark
  · rw [hlane]; exact hquality
  · rw [hlane]
    obtain ⟨h1, h2, -⟩ := hy ▸ ladder_waits (p := p) (m := m) hstate
    exact ⟨h1, h2⟩
  · have hl := hladder (by rw [hstate]; decide)
    rw [takePeriod_acq2 (x := x.closePeriod m) hstate] at hl
    split
    · rename_i hpass
      rw [if_pos hpass] at hl
      exact ⟨hl.state, hl.stateTimer⟩
    · rename_i hfail
      rw [if_neg hfail] at hl
      exact ⟨hl.state.trans hstate, hl.stateTimer⟩
  · have hl := hladder (by rw [hstate]; decide)
    obtain ⟨run, set, hfair⟩ := takePeriod_fair (x := x.closePeriod m) hstate (hlowAt.not.1 hlow)
    refine ⟨?_, ?_, ?_, fun hset hrun => ?_⟩
    · rw [hl.state, hfair]
      exact hstate
    · rw [hl.lowPeriods, hfair]
    · rw [hl.sync, hfair]
      rfl
    · rw [hl.settings, hl.steadyRun, takePeriod_recovering (x := x.closePeriod m) hstate (hlowAt.not.1 hlow) hset hrun]
      exact ⟨hset, rfl⟩
  · have hl := hladder (by rw [hstate]; decide)
    rw [takePeriod_low_first (x := x.closePeriod m) hstate (hlowAt.1 hlow) hfirst] at hl
    exact ⟨hl.state.trans hstate, hl.lowPeriods, hl.settings, hl.sync, hl.steadyRun⟩
  · have hl := hladder (by rw [hstate]; decide)
    rw [takePeriod_low_again (x := x.closePeriod m) hstate (hlowAt.1 hlow) hagain] at hl
    exact ⟨hl.state, hl.settings, hl.sync, hl.lockClock, hl.lowPeriods, hl.steadyRun, hl.stateTimer⟩
  · have hl := hladder (by rw [hstate]; decide)
    rw [takePeriod_holdover (x := x.closePeriod m) hstate] at hl
    exact ⟨hl.state.trans hstate, hl.stateTimer, hl.sync⟩
  · obtain ⟨hstate, hset, hrun, hgood⟩ := hcompletes hsteady
    have hl := hladder (by rw [hstate]; decide)
    have hfair : ¬min m 63 < lockFloor p (x.closePeriod m).settings := by
      rw [show (x.closePeriod m).settings = .recovery from hset]
      exact not_low_of_good hgood
    rw [takePeriod_steadied (x := x.closePeriod m) hstate hfair hset hrun hgood] at hl
    exact ⟨congrArg Host.Outcome.next ((if_pos hsteady).trans ht.symm), hl.settings, hl.steadyRun, hl.state.trans hstate⟩

end Sys2Proof.Machine
end

section
/-! # The victim of a reclaim -/

namespace Sys2Proof.Machine

open Sys2Proof.Safety

/-! ### The highest rank number, then the highest slot -/

/-- The second victim comes first: its row has the higher rank number, or the same and no lower slot (R49). -/
def State.Later (s : State) (a b : Victim) : Prop := s.rank a.1 < s.rank b.1 ∨ (s.rank a.1 = s.rank b.1 ∧ a.1 ≤ b.1)

section
variable {s : State}

theorem Later.refl (a : Victim) : s.Later a a := .inr ⟨rfl, Nat.le_refl _⟩

theorem Later.trans {a b c : Victim} (h : s.Later a b) (h' : s.Later b c) : s.Later a c := by
  rw [State.Later] at *
  omega

theorem Later.slot_eq {a b : Victim} (h : s.Later a b) (h' : s.Later b a) : a.1 = b.1 := by
  rw [State.Later] at *
  omega

/-- The better of the best victim so far and the next one. -/
def State.better (s : State) (best : Option Victim) (v : Victim) : Option Victim :=
  match best with
  | none => some v
  | some b => if s.rank b.1 ≤ s.rank v.1 then some v else some b

theorem lastVictim_eq (s : State) (vs : List Victim) : s.lastVictim vs = vs.foldl s.better none := rfl

theorem foldl_better (vs : List Victim) (b : Victim) (h : (b :: vs).Pairwise fun a c => a.1 < c.1) :
    ∃ w, vs.foldl s.better (some b) = some w ∧ w ∈ b :: vs ∧ ∀ v ∈ b :: vs, s.Later v w := by
  induction vs generalizing b with
  | nil => exact ⟨b, rfl, List.mem_cons_self, fun v hv => by rw [List.mem_singleton.1 hv]; exact Later.refl b⟩
  | cons v vs ih =>
    obtain ⟨hb, hvs⟩ := List.pairwise_cons.1 h
    have hlt := hb v List.mem_cons_self
    rw [List.foldl_cons]
    by_cases hrank : s.rank b.1 ≤ s.rank v.1
    · obtain ⟨w, hw, hmem, hall⟩ := ih v hvs
      have hbv : s.Later b v := by rw [State.Later]; omega
      refine ⟨w, by rw [State.better, if_pos hrank]; exact hw, List.mem_cons_of_mem _ hmem, fun u hu => ?_⟩
      rcases List.mem_cons.1 hu with rfl | hu
      · exact Later.trans hbv (hall v List.mem_cons_self)
      · exact hall u hu
    · obtain ⟨w, hw, hmem, hall⟩ := ih b (List.pairwise_cons.2 ⟨fun u hu => hb u (List.mem_cons_of_mem _ hu), (List.pairwise_cons.1 hvs).2⟩)
      have hvb : s.Later v b := by rw [State.Later]; omega
      refine ⟨w, by rw [State.better, if_neg hrank]; exact hw, ?_, fun u hu => ?_⟩
      · rcases List.mem_cons.1 hmem with rfl | hmem
        · exact List.mem_cons_self
        · exact List.mem_cons_of_mem _ (List.mem_cons_of_mem _ hmem)
      · rcases List.mem_cons.1 hu with rfl | hu
        · exact hall u List.mem_cons_self
        · rcases List.mem_cons.1 hu with rfl | hu
          · exact Later.trans hvb (hall b List.mem_cons_self)
          · exact hall u (List.mem_cons_of_mem _ hu)

/-- Among the victims of one kind, one for each slot at most, the last is the greatest. -/
theorem lastVictim_range {f : Nat → Option Victim} (hf : ∀ j v, f j = some v → v.1 = j) (n : Nat) :
    ((∀ j, j < n → f j = none) ∧ s.lastVictim ((List.range n).filterMap f) = none)
      ∨ ∃ w, s.lastVictim ((List.range n).filterMap f) = some w ∧ w.1 < n ∧ f w.1 = some w
        ∧ ∀ j v, j < n → f j = some v → s.Later v w := by
  have hmem (v : Victim) : v ∈ (List.range n).filterMap f ↔ v.1 < n ∧ f v.1 = some v := by
    rw [List.mem_filterMap]
    refine ⟨fun ⟨j, hj, hv⟩ => ?_, fun ⟨hn, hv⟩ => ⟨v.1, List.mem_range.2 hn, hv⟩⟩
    obtain rfl := hf j v hv
    exact ⟨List.mem_range.1 hj, hv⟩
  have hsorted : ((List.range n).filterMap f).Pairwise fun a c => a.1 < c.1 := by
    refine List.Pairwise.filterMap f (fun a b hab v hv w hw => ?_) List.pairwise_lt_range
    rw [hf a v hv, hf b w hw]
    exact hab
  rw [lastVictim_eq]
  cases hvs : (List.range n).filterMap f with
  | nil =>
    refine .inl ⟨fun j hj => ?_, rfl⟩
    cases hfj : f j with
    | none => rfl
    | some v =>
      have : v ∈ (List.range n).filterMap f := List.mem_filterMap.2 ⟨j, List.mem_range.2 hj, hfj⟩
      rw [hvs] at this
      cases this
  | cons b vs =>
    rw [hvs] at hsorted hmem
    obtain ⟨w, hw, hin, hall⟩ := foldl_better (s := s) vs b hsorted
    refine .inr ⟨w, hw, ((hmem w).1 hin).1, ((hmem w).1 hin).2, fun j v hj hv => hall v ((hmem v).2 ?_)⟩
    obtain rfl := hf j v hv
    exact ⟨hj, hv⟩

end

/-! ### Eligible lanes -/

section
variable {s : State} {k : Nat}

theorem standbyVictim_iff (j : Nat) (v : Victim) :
    s.standbyVictim k j = some v ↔ ∃ p, v = (j, p, .standby) ∧ standbyEligible s k j p := by
  rw [State.standbyVictim]
  cases hrow : s.row j with
  | carried t c sb lc =>
    cases sb with
    | some p =>
      simp only [standbyEligible, hrow, Option.ite_none_right_eq_some, Option.some.injEq]
      refine ⟨fun ⟨hc, hv⟩ => ⟨p, hv.symm, t, c, lc, rfl, hc⟩, fun ⟨q, hv, t', c', lc', hq, hc⟩ => ?_⟩
      cases hq
      exact ⟨hc, hv.symm⟩
    | none => simp [standbyEligible, hrow]
  | _ => simp [standbyEligible, hrow]

theorem pinned_iff (x : Station) (j : Nat) : s.pinned x j = true ↔ pins s x j := by
  have hit (w : PinWindow) : ((BitVec.ofNat 5 j &&& w.mask) == (w.value &&& w.mask)) = true
      ↔ ∀ i, i < 5 → w.mask.getLsbD i = true → j.testBit i = w.value.getLsbD i := by
    rw [beq_iff_eq]
    refine ⟨fun h i hi hm => ?_, fun h => BitVec.eq_of_getLsbD_eq fun i hi => ?_⟩
    · have := congrArg (fun b : BitVec 5 => b.getLsbD i) h
      simpa only [BitVec.getLsbD_and, BitVec.getLsbD_ofNat, hi, hm, decide_true, Bool.true_and, Bool.and_true] using this
    · cases hm : w.mask.getLsbD i with
      | false => simp only [BitVec.getLsbD_and, hm, Bool.and_false]
      | true =>
        simp only [BitVec.getLsbD_and, BitVec.getLsbD_ofNat, hi, hm, decide_true, Bool.true_and, Bool.and_true]
        exact h i hi hm
  rw [State.pinned, pins]
  cases hplan : s.plan with
  | none => simp
  | some p =>
    simp only [Bool.or_eq_true, Bool.and_eq_true, hit]
    refine ⟨fun h => ?_, fun ⟨q, w, hq, hw, hvalid, hbits⟩ => ?_⟩
    · rcases h with ⟨hvalid, hbits⟩ | ⟨hvalid, hbits⟩
      · exact ⟨p, _, rfl, .inl rfl, hvalid, hbits⟩
      · exact ⟨p, _, rfl, .inr rfl, hvalid, hbits⟩
    · cases hq
      rcases hw with rfl | rfl
      · exact .inl ⟨hvalid, hbits⟩
      · exact .inr ⟨hvalid, hbits⟩

theorem exemptionVoid_iff (x : Station) : s.exemptionVoid x = true
    ↔ ∀ i q, (s.row i).names q = true → q.station = x → (s.row i).standby ≠ some q ∧ pins s x i := by
  rw [State.exemptionVoid, List.all_eq_true]
  refine ⟨fun h i q hq hx => ?_, fun h i hi => ?_⟩
  · have hi : i < s.table.length := s.lt_length_of_row (by
      intro hu
      rw [hu, Row.names_iff] at hq
      rcases hq with hq | hq <;> cases hq)
    have hat := h i (List.mem_range.2 hi)
    rw [Bool.and_eq_true] at hat
    obtain ⟨hstandby, hcarrier⟩ := hat
    have hnot : (s.row i).standby ≠ some q := fun he => by
      rw [he] at hstandby
      simp [hx] at hstandby
    refine ⟨hnot, ?_⟩
    rw [Row.names_iff] at hq
    rcases hq with hq | hq
    · rw [hq] at hcarrier
      simpa [hx, pinned_iff] using hcarrier
    · exact absurd hq hnot
  · rw [Bool.and_eq_true]
    refine ⟨?_, ?_⟩
    · cases hsb : (s.row i).standby with
      | none => rfl
      | some p =>
        by_cases hp : p.station = x
        · exact absurd hsb (h i p ((Row.names_iff _ _).2 (.inr hsb)) hp).1
        · simpa using hp
    · cases hc : (s.row i).carrier with
      | none => rfl
      | some p =>
        by_cases hp : p.station = x
        · simp [pinned_iff, (h i p ((Row.names_iff _ _).2 (.inl hc)) hp).2]
        · simp [hp]

theorem carrierVictim_iff (j : Nat) (v : Victim) :
    s.carrierVictim k j = some v ↔ ∃ p, v = (j, p, .carrier) ∧ carrierEligible s k j p := by
  rw [State.carrierVictim]
  cases hrow : s.row j with
  | carried t c sb lc =>
    have hexempt : (!s.pinned c.station j || s.exemptionVoid c.station) = true ↔ (pins s c.station j → ∀ i q,
        (s.row i).names q = true → q.station = c.station → (s.row i).standby ≠ some q ∧ pins s c.station i) := by
      rw [← exemptionVoid_iff, ← pinned_iff]
      cases s.pinned c.station j <;> simp
    simp only [carrierEligible, hrow, Option.ite_none_right_eq_some, Option.some.injEq, Bool.and_eq_true, decide_eq_true_eq, hexempt]
    refine ⟨fun ⟨⟨⟨hc, hrank⟩, hex⟩, hv⟩ => ⟨c, hv.symm, t, sb, lc, rfl, hc, hrank, hex⟩, fun ⟨q, hv, t', sb', lc', hq, hc, hrank, hex⟩ => ?_⟩
    cases hq
    exact ⟨⟨⟨hc, hrank⟩, hex⟩, hv.symm⟩
  | _ => simp [carrierEligible, hrow]

theorem standbyVictim_slot (j : Nat) (v : Victim) (h : s.standbyVictim k j = some v) : v.1 = j := by
  obtain ⟨p, rfl, -⟩ := (standbyVictim_iff j v).1 h
  rfl

theorem carrierVictim_slot (j : Nat) (v : Victim) (h : s.carrierVictim k j = some v) : v.1 = j := by
  obtain ⟨p, rfl, -⟩ := (carrierVictim_iff j v).1 h
  rfl

theorem lt_of_standbyEligible {j : Nat} {p : Pair} (h : standbyEligible s k j p) : j < s.table.length := by
  obtain ⟨t, c, lc, hrow, -⟩ := h
  exact s.lt_length_of_row (by rw [hrow]; nofun)

theorem lt_of_carrierEligible {j : Nat} {p : Pair} (h : carrierEligible s k j p) : j < s.table.length := by
  obtain ⟨t, c, lc, hrow, -⟩ := h
  exact s.lt_length_of_row (by rw [hrow]; nofun)

/-- The victim that the claim unit computes is the one of R49 and R50. -/
theorem victim_iff (j : Nat) (p : Pair) (role : CarriageRole) : s.victim k = some (j, p, role) ↔ isVictim s k j p role := by
  have standbys := lastVictim_range (s := s) (standbyVictim_slot (s := s) (k := k)) s.table.length
  have carriers := lastVictim_range (s := s) (carrierVictim_slot (s := s) (k := k)) s.table.length
  rw [State.victim]
  rcases standbys with ⟨hnone, hlast⟩ | ⟨⟨i, q', ρ⟩, hlast, -, hw, hmax⟩
  · have nobody (i : Nat) (q : Pair) : ¬standbyEligible s k i q := fun h => by
      have := hnone i (lt_of_standbyEligible h)
      rw [(standbyVictim_iff i _).2 ⟨q, rfl, h⟩] at this
      cases this
    rcases carriers with ⟨hnone', hlast'⟩ | ⟨⟨i, q', ρ⟩, hlast', -, hw, hmax⟩
    all_goals simp only [hlast, hlast']
    · refine ⟨nofun, fun h => ?_⟩
      cases role with
      | standby => exact absurd h.1 (nobody j p)
      | carrier =>
        have := hnone' j (lt_of_carrierEligible h.2.1)
        rw [(carrierVictim_iff j _).2 ⟨p, rfl, h.2.1⟩] at this
        cases this
    · obtain ⟨q, hq, hel⟩ := (carrierVictim_iff i _).1 hw
      cases hq
      refine ⟨fun h => ?_, fun h => ?_⟩
      · cases h
        exact ⟨nobody, hel, fun i r hr => hmax i (i, r, .carrier) (lt_of_carrierEligible hr) ((carrierVictim_iff i _).2 ⟨r, rfl, hr⟩)⟩
      · cases role with
        | standby => exact absurd h.1 (nobody j p)
        | carrier =>
          obtain ⟨-, helig, hall⟩ := h
          have hat := (carrierVictim_iff j _).2 ⟨p, rfl, helig⟩
          have hslot := Later.slot_eq (s := s) (hmax j _ (lt_of_carrierEligible helig) hat) (hall i _ hel)
          cases hslot
          exact hw.symm.trans hat
  · simp only [hlast]
    obtain ⟨q, hq, hel⟩ := (standbyVictim_iff i _).1 hw
    cases hq
    refine ⟨fun h => ?_, fun h => ?_⟩
    · cases h
      exact ⟨hel, fun i r hr => hmax i (i, r, .standby) (lt_of_standbyEligible hr) ((standbyVictim_iff i _).2 ⟨r, rfl, hr⟩)⟩
    · cases role with
      | carrier => exact absurd hel (h.1 _ _)
      | standby =>
        obtain ⟨helig, hall⟩ := h
        have hat := (standbyVictim_iff j _).2 ⟨p, rfl, helig⟩
        have hslot := Later.slot_eq (s := s) (hmax j _ (lt_of_standbyEligible helig) hat) (hall i _ hel)
        cases hslot
        exact hw.symm.trans hat

end

/-! ### The wait for a victim ends -/

theorem rank_of_plan {s u : State} (hplan : u.plan = s.plan) (k : Nat) : u.rank k = s.rank k := by
  rw [State.rank, slotRec_of_plan hplan]
  rfl

section
variable {s u : State} (hrow : SameRows s u) (hplan : u.plan = s.plan) (hdir : u.dir = s.dir) (hnumber : u.number = s.number)
include hrow hplan hdir hnumber

theorem standbyEligible_of_rows (k j : Nat) (p : Pair) : standbyEligible u k j p ↔ standbyEligible s k j p := by
  simp only [standbyEligible, show u.row j = s.row j from hrow j, candidate_of_plan hplan hdir hnumber]

theorem carrierEligible_of_rows (k j : Nat) (p : Pair) : carrierEligible u k j p ↔ carrierEligible s k j p := by
  simp only [carrierEligible, pins, show ∀ i, u.row i = s.row i from hrow, candidate_of_plan hplan hdir hnumber,
    rank_of_plan hplan, hplan]

theorem isVictim_of_rows (k j : Nat) (p : Pair) (role : CarriageRole) : isVictim u k j p role ↔ isVictim s k j p role := by
  cases role <;> simp only [isVictim, standbyEligible_of_rows hrow hplan hdir hnumber, carrierEligible_of_rows hrow hplan hdir hnumber,
    rank_of_plan hplan]

end

/-- The lane of a victim, as the reclaim leaves it (R51). -/
def Lane.reclaimed (k : Nat) (role : CarriageRole) (x : Lane) : Lane := { x.setRole .free with mark := .held k role, ctx := .none }

section
variable {s : State} {k j : Nat} {l : LaneId} {role : CarriageRole}

theorem reclaim_victim (hvictim : s.victim k = some (j, ⟨s.number, l⟩, role)) (hplays : (s.lane l).plays j role = true) :
    s.reclaim k = ((s.withdraw fun f => isGiverFrame j f || isTakerFrame j f).modLane l (Lane.reclaimed k role)).sendCede j role l
      (.reclaimed (byteOf k)) := by
  simp only [State.reclaim, hvictim]
  exact if_pos ⟨trivial, hplays⟩

/-- Where the victim is no lane of the station, the reclaim does nothing. -/
theorem reclaim_other (h : ∀ i m r, s.victim k ≠ some (i, ⟨s.number, m⟩, r)) : s.reclaim k = s := by
  rw [State.reclaim]
  split
  · rfl
  · rename_i i p r hv
    refine if_neg fun hc => ?_
    have hp : p = ⟨s.number, p.lane⟩ := by rw [← hc.1]
    rw [hp] at hv
    exact h i p.lane r hv

/-- A lane that is HELD through the settling was HELD before. -/
theorem laneClosed_heldBefore (s : State) (l : LaneId) (m : ClaimMark) : LaneClosed s l fun x => x.mark.isHeld = true → x.mark = m where
  release _ _ _ h := by cases h
  ctx _ _ h _ := h
  gaveUp _ _ _ _ _ _ _ _ _ _ _ h := by cases h
  unheld x y _ _ hm h := by
    have hnone : y.mark = .none := by
      cases hm with
      | carrier =>
        rw [Lane.openGate]
        split <;> rfl
      | offers =>
        show (Lane.openGate _).mark = .none
        rw [Lane.openGate]
        split <;> rfl
      | _ => rfl
    rw [hnone] at h
    cases h
  bind _ x j m _ _ hm h := by
    rcases hm with ⟨rfl, -⟩ | ⟨rfl, -⟩ <;> cases h

end

end Sys2Proof.Machine
end

section
/-! # The reclaim-wait timer expires -/

namespace Sys2Proof.Machine

open Sys2Proof.Safety

section
variable {s : State} {k : Nat}

/-- The station once the reclaim-wait timer of the slot has restarted (R48). -/
def State.waitsAgain (s : State) (k : Nat) : State := s.setLoc k { s.loc k with reclaimWait := some 3000 }

theorem reclaimExpired_cases (h : (s.loc k).reclaimWait.isSome = true) : s.reclaimExpired k = s.waitsAgain k
    ∨ s.reclaimExpired k = ((s.waitsAgain k).reclaim k).settle false := by
  have hsome : (s.loc k).reclaimWait.isNone = false := by simpa [Option.isSome_iff_ne_none, Option.isNone_iff_eq_none] using h
  simp only [State.reclaimExpired, hsome, Bool.false_eq_true, ↓reduceIte]
  repeat' split
  all_goals first | exact .inl rfl | exact .inr rfl

theorem reclaimExpired_open {n : Term} {lc : Option Station} {m : Nat} (h : (s.loc k).reclaimWait.isSome = true)
    (hrow : s.row k = .opened n lc m) (hm : m < 3) (hactive : s.claimActive = true) :
    s.reclaimExpired k = ((s.waitsAgain k).reclaim k).settle false := by
  have hsome : (s.loc k).reclaimWait.isNone = false := by simpa [Option.isSome_iff_ne_none, Option.isNone_iff_eq_none] using h
  have hrow' : (s.waitsAgain k).row k = .opened n lc m := (State.row_setLoc s k k _).trans hrow
  simp only [State.reclaimExpired, hsome, Bool.false_eq_true, ↓reduceIte]
  rw [State.waitsAgain] at hrow' ⊢
  simp only [hrow']
  exact if_pos ⟨hm, hactive⟩

theorem lt_length_of_wait (h : (s.loc k).reclaimWait.isSome = true) : k < s.table.length := by
  by_contra hk
  rw [State.loc, List.getElem?_eq_none (Nat.le_of_not_lt hk)] at h
  cases h

theorem table_reclaim (u : State) (k : Nat) : (u.reclaim k).table = u.table := by
  rw [State.reclaim]
  split
  · rfl
  · split <;> rfl

theorem row_waitsAgain (s : State) (k : Nat) : SameRows s (s.waitsAgain k) := fun j => State.row_setLoc s k j _

theorem row_reclaimExpired (h : (s.loc k).reclaimWait.isSome = true) : SameRows s (s.reclaimExpired k) := by
  intro j
  rcases reclaimExpired_cases h with ht | ht
  all_goals rw [ht]
  · exact row_waitsAgain s k j
  · rw [row_settle, State.row, table_reclaim]
    exact row_waitsAgain s k j

theorem wait_reclaimExpired (h : (s.loc k).reclaimWait.isSome = true) :
    ((s.reclaimExpired k).loc k).reclaimWait = some 3000 := by
  have hwaits : (s.waitsAgain k).loc k = { s.loc k with reclaimWait := some 3000 } :=
    State.loc_setEntry_self s _ (lt_length_of_wait h)
  rcases reclaimExpired_cases h with ht | ht
  all_goals rw [ht]
  · rw [hwaits]
  · refine (congrArg RowLocal.reclaimWait (unplaced_settle ((s.waitsAgain k).reclaim k) false k)).trans ?_
    rw [State.loc_congr (table_reclaim _ k), hwaits]
    rfl

theorem isVictim_waitsAgain (j : Nat) (p : Pair) (role : CarriageRole) :
    (s.waitsAgain k).victim k = some (j, p, role) ↔ isVictim s k j p role :=
  (victim_iff j p role).trans (isVictim_of_rows (row_waitsAgain s k) rfl rfl rfl k j p role)

theorem slot_of_plays {x : Lane} {j : Nat} {role : CarriageRole} (h : x.plays j role = true) : x.slot = some j := by
  cases role
  all_goals
    simp only [Lane.plays, Lane.carries, Lane.standsBy, Bool.and_eq_true, beq_iff_eq] at h
    exact h.2

/-- The victim's lane is HELD, and its CEDE queued, once the station has settled (R51). -/
theorem reclaim_settled {u : State} {j : Nat} {l : LaneId} {role : CarriageRole} (hopen : (u.row k).isOpen = true)
    (hmode : u.mode = .joined) (hvictim : u.victim k = some (j, ⟨u.number, l⟩, role)) (hplays : (u.lane l).plays j role = true)
    (hroom : u.link.queue.length < 8) :
    Holding l (· == .cede (byteOf j) (CarriageRole.byte role) (u.termOf j) (byteOf l.val) (.reclaimed (byteOf k)))
      ((u.lane l).reclaimed k role) ((u.reclaim k).settle false) := by
  obtain ⟨p, hp⟩ : ∃ p : Frame → Bool, p
      = (· == .cede (byteOf j) (CarriageRole.byte role) (u.termOf j) (byteOf l.val) (.reclaimed (byteOf k))) := ⟨_, rfl⟩
  have hreclaims : Reclaims l p := fun f hf => by
    rw [hp] at hf
    rw [beq_iff_eq.1 hf]
    exact beq_self_eq_true _
  rw [← hp, reclaim_victim hvictim hplays]
  refine holding_settle hreclaims (fs := k) (r := role) rfl rfl rfl hopen (fun h => by
    have h : u.mode = .joining := h
    rw [hmode] at h
    cases h) ⟨?_, ?_⟩
  · rw [lane_sendCede, State.lane_modLane_self]
    rfl
  · have hlength : ((u.withdraw fun f => isGiverFrame j f || isTakerFrame j f).modLane l (Lane.reclaimed k role)).link.queue.length < 8 :=
      Nat.lt_of_le_of_lt (List.length_filter_le _ _) hroom
    refine queued_send hlength ?_
    rw [hp]
    exact beq_self_eq_true _

/-- Where the victim is no lane of the station, no lane comes to be HELD. -/
theorem held_reclaimExpired (h : (s.loc k).reclaimWait.isSome = true)
    (hnot : ∀ j l role, ¬isVictim s k j ⟨s.number, l⟩ role) (l : LaneId)
    (hheld : ((s.reclaimExpired k).lane l).mark.isHeld = true) : ((s.reclaimExpired k).lane l).mark = (s.lane l).mark := by
  have hidle : (s.waitsAgain k).reclaim k = s.waitsAgain k :=
    reclaim_other fun i m r hv => hnot i m r ((isVictim_waitsAgain i _ r).1 hv)
  rcases reclaimExpired_cases h with ht | ht
  all_goals rw [ht] at hheld ⊢
  · rfl
  · rw [hidle] at hheld ⊢
    revert hheld
    obtain ⟨u, hu⟩ : ∃ u, u = s.waitsAgain k := ⟨_, rfl⟩
    have hlane : u.lane l = s.lane l := by rw [hu]; rfl
    rw [← hu]
    by_cases happlies : u.mode.appliesFrames = true
    · exact lane_settle happlies (laneClosed_heldBefore _ l (s.lane l).mark) (fun _ => by rw [hlane]) false
    · by_cases hiso : u.mode = .isolated
      · rw [settle_isolated hiso]
        exact lane_homeAssignment_of_bind (fun x => x.mark.isHeld = true → x.mark = (s.lane l).mark) u l
          (fun _ _ _ _ _ _ hb => by cases hb) (fun _ => by rw [hlane])
      · rw [settle_other (Bool.eq_false_iff.2 happlies) hiso, hlane]
        exact fun _ => rfl

end

/-- Settles O47. -/
theorem reclaimWaitTakesTheVictim : Obligations.ReclaimWaitTakesTheVictim := by
  intro s k hwait
  refine ⟨s.reclaimExpired k, rfl, row_reclaimExpired hwait, wait_reclaimExpired hwait,
    fun n lc m j l role hrow hm hactive hvictim hplays _ hroom => ?_, held_reclaimExpired hwait⟩
  have hopen : ((s.waitsAgain k).row k).isOpen = true := by
    rw [row_waitsAgain, hrow]
    rfl
  have hheld := reclaim_settled (u := s.waitsAgain k) hopen (mode_of_claimActive hactive)
    ((isVictim_waitsAgain j _ role).2 hvictim) hplays hroom
  have hterm : (s.waitsAgain k).termOf j = s.termOf j := by
    rw [State.termOf, row_waitsAgain]
    rfl
  rw [hterm] at hheld
  rw [reclaimExpired_open hwait hrow hm hactive, hheld.lane]
  exact ⟨rfl, rfl, by simp [Lane.reclaimed, Lane.setRole, LaneRole.mayOpen], slot_of_plays (x := s.lane l) hplays, rfl, hheld.queued⟩

end Sys2Proof.Machine
end

section
/-! # A BID of this station -/

namespace Sys2Proof.Machine

open Sys2Proof.Safety

/-! ### The outcome of the BID -/

theorem carriageRoleOf_byte (ρ : CarriageRole) : carriageRoleOf (CarriageRole.byte ρ) = some ρ := by cases ρ <;> rfl

section
variable {s : State} {rx : Rx} {slot margin : Byte} {term : Term} {l : LaneId} {ρ : CarriageRole}

theorem acceptsBid_met {v : State} {x : Station} (hv : Met s x v) (y : Station) (k : Nat) :
    v.acceptsBid y l k ρ term = s.acceptsBid y l k ρ term := by
  rw [show v = { s with link := v.link } from hv.only]
  rfl

theorem takesBids_of_holdsRoles {v : State} (h : v.mode.holdsRoles = true) : TakesBids v := fun hj => absurd hj (ne_joining_of_holdsRoles h)

/-- An accepted BID of this station names its lane in the row, and settles its lane's side (R41, R42, R47). -/
theorem ownBid_accepted (hmode : s.mode.holdsRoles = true)
    (h : Applies s rx (.bid slot (CarriageRole.byte ρ) term (byteOf l.val) margin) s.number)
    (ha : s.acceptsBid s.number l slot.toNat ρ term = true) :
    ∃ r u, Rowed s slot.toNat r u ∧ r.term = some term ∧ r.named ρ = some (s.ownPair l)
      ∧ SettlesTo (u.ownBidAccepted l slot.toNat ρ)
          (s.completeFrame rx (.bid slot (CarriageRole.byte ρ) term (byteOf l.val) margin)) := by
  obtain ⟨v, hv, hx, hsettles⟩ := frame_settles h rfl
  obtain ⟨r, hr, hk, hterm, hnamed⟩ : ∃ r, v.applyBid s.number l slot.toNat ρ term = v.putRow slot.toNat r
      ∧ s.row slot.toNat ≠ .unknown ∧ r.term = some term ∧ r.named ρ = some (s.ownPair l) := by
    cases ρ with
    | carrier =>
      obtain ⟨⟨t, lc, n, hrow, -⟩, -⟩ := (bidAccepted_iff s s.number l slot.toNat term).1 ha
      refine ⟨.carried term ⟨s.number, l⟩ none lc, ?_, by rw [hrow]; nofun, rfl, rfl⟩
      have hvrow : v.row slot.toNat = _ := (hv.row _).trans hrow
      simp only [State.applyBid, hvrow]
    | standby =>
      obtain ⟨⟨c, lc, hrow, -⟩, -⟩ := (standbyBidAccepted_iff s s.number l slot.toNat term).1 ha
      refine ⟨.carried term c (some ⟨s.number, l⟩) lc, ?_, by rw [hrow]; nofun, rfl, rfl⟩
      have hvrow : v.row slot.toNat = _ := (hv.row _).trans hrow
      simp only [State.applyBid, hvrow]
  have hrowed := hv.rowed hk r
  refine ⟨r, _, hrowed, hterm, hnamed, ?_⟩
  have htaken := takeBid_accepted hx (carriageRoleOf_byte ρ) (laneOf_byteOf l)
    (takesBids_of_holdsRoles (v := v) (by rw [hv.mode]; exact hmode)) ((acceptsBid_met hv _ _).trans ha)
  rw [hr, if_pos hrowed.number.symm] at htaken
  rw [← htaken]
  exact hsettles

theorem ownBid_ignored (hmode : s.mode.holdsRoles = true)
    (h : Applies s rx (.bid slot (CarriageRole.byte ρ) term (byteOf l.val) margin) s.number)
    (ha : s.acceptsBid s.number l slot.toNat ρ term = false) :
    ∃ v, Met s s.number v ∧ SettlesTo (v.ownBidIgnored l slot.toNat ρ term)
      (s.completeFrame rx (.bid slot (CarriageRole.byte ρ) term (byteOf l.val) margin)) := by
  obtain ⟨v, hv, hx, hsettles⟩ := frame_settles h rfl
  refine ⟨v, hv, ?_⟩
  have hignored := takeBid_ignored hx (carriageRoleOf_byte ρ) (laneOf_byteOf l)
    (takesBids_of_holdsRoles (v := v) (by rw [hv.mode]; exact hmode)) ((acceptsBid_met hv _ _).trans ha)
  rw [if_pos hv.number.symm] at hignored
  rw [← hignored]
  exact hsettles

end

/-! ### The lane's side -/

/-- The lane of an accepted BID takes the role (R41, R47). -/
def Lane.wins (ρ : CarriageRole) (x : Lane) : Lane :=
  match ρ with
  | .carrier => Lane.openGate { x.setRole .carrier with mark := .none, bidTerm := none }
  | .standby => { x.setRole .standby with mark := .none, bidTerm := none }

theorem wins_carrier (x : Lane) : (x.wins .carrier).role = .carrier ∧ (x.wins .carrier).gate = true ∧ (x.wins .carrier).mark = .none
    ∧ (x.wins .carrier).slot = x.slot ∧ (x.wins .carrier).retryCount = x.retryCount ∧ (x.wins .carrier).ctx = x.ctx := by
  rw [Lane.wins, Lane.openGate]
  split
  · rename_i h
    exact ⟨rfl, h, rfl, rfl, rfl, rfl⟩
  · exact ⟨rfl, rfl, rfl, rfl, rfl, rfl⟩

theorem wins_standby (x : Lane) : (x.wins .standby).role = .standby ∧ (x.wins .standby).gate = false
    ∧ (x.wins .standby).mark = .none ∧ (x.wins .standby).slot = x.slot ∧ (x.wins .standby).retryCount = x.retryCount
    ∧ (x.wins .standby).ctx = x.ctx := ⟨rfl, by simp [Lane.wins, Lane.setRole, LaneRole.mayOpen], rfl, rfl, rfl, rfl⟩

theorem settled_wins {x : Lane} (ρ : CarriageRole) (hctx : x.ctx = .none) : Settled (x.wins ρ) := by
  cases ρ with
  | carrier =>
    obtain ⟨hrole, -, hmark, -, -, hc⟩ := wins_carrier x
    exact settled_of_role (by rw [hrole]; decide) (by rw [hrole]; decide) (by rw [hmark]; rfl) (hc.trans hctx)
  | standby => exact settled_of_role nofun nofun rfl hctx

section
variable {s u t : State} {k : Nat} {l : LaneId} {ρ : CarriageRole}

theorem ownBidAccepted_tries (h : (u.lane l).tries k ρ = true) : u.ownBidAccepted l k ρ = u.modLane l (Lane.wins ρ) := by
  rw [State.ownBidAccepted, if_pos h]
  rfl

theorem ownBidAccepted_stopped (h : (u.lane l).tries k ρ = false) : u.ownBidAccepted l k ρ = u.sendCede k ρ l u.swapReason := by
  rw [State.ownBidAccepted, if_neg (by rw [h]; decide)]

/-- A lane in the trial that the BID was for takes the role. -/
theorem wins_of_settles (htries : (s.lane l).tries k ρ = true) (hctx : (s.lane l).ctx = .none) (hlane : u.lane l = s.lane l)
    (h : SettlesTo (u.ownBidAccepted l k ρ) t) : t.lane l = (s.lane l).wins ρ := by
  rw [ownBidAccepted_tries (by rw [hlane]; exact htries)] at h
  have hl : (u.modLane l (Lane.wins ρ)).lane l = (s.lane l).wins ρ := by rw [State.lane_modLane_self, hlane]
  rw [h.settled (by rw [hl]; exact settled_wins ρ hctx), hl]

theorem mode_ownBidIgnored (v : State) (l : LaneId) (k : Nat) (ρ : CarriageRole) (term : Term) :
    (v.ownBidIgnored l k ρ term).mode = v.mode := by
  simp only [State.ownBidIgnored, State.markTried]
  repeat' split
  all_goals rfl

theorem lane_ownBidIgnored_tries {v : State} (h : (v.lane l).tries k ρ = true) (term : Term) :
    (v.ownBidIgnored l k ρ term).lane l = (v.lane l).release := by
  have hdrop := lane_dropTrial v l
  simp only [State.ownBidIgnored, h, if_true, State.markTried]
  repeat' split
  all_goals exact hdrop

/-- An ignored BID releases the lane in the trial that it was for. -/
theorem released_of_ignored {v : State} {x : Station} (hv : Met s x v) (hmode : s.mode.holdsRoles = true)
    (htries : (s.lane l).tries k ρ = true) {term : Term} (h : SettlesTo (v.ownBidIgnored l k ρ term) t) : Released (t.lane l) := by
  have hm : (v.ownBidIgnored l k ρ term).mode = s.mode := (mode_ownBidIgnored v l k ρ term).trans hv.mode
  refine h.closed (by rw [hm]; exact appliesFrames_of_holdsRoles hmode) (by rw [hm]; exact ne_joining_of_holdsRoles hmode)
    (fun w _ => laneClosed_released w l) ?_
  rw [lane_ownBidIgnored_tries (by rw [hv.lane]; exact htries)]
  exact ⟨rfl, rfl, rfl, rfl, .inl ⟨rfl, rfl, rfl, rfl⟩⟩

end

end Sys2Proof.Machine
end

section
/-! # A BID of this station: the clauses of O29 -/

namespace Sys2Proof.Machine

open Sys2Proof.Safety

section
variable {s : State} {rx : Rx} {slot margin : Byte} {term : Term} {l : LaneId} {ρ : CarriageRole}
  (hmode : s.mode.holdsRoles = true) (h : Applies s rx (.bid slot (CarriageRole.byte ρ) term (byteOf l.val) margin) s.number)
include hmode h

/-- The station as the BID leaves it. -/
theorem ownBid_stays (htries : (s.lane l).tries slot.toNat ρ = false) (hsettled : Settled (s.lane l)) :
    (s.completeFrame rx (.bid slot (CarriageRole.byte ρ) term (byteOf l.val) margin)).lane l = s.lane l := by
  cases ha : s.acceptsBid s.number l slot.toNat ρ term with
  | true =>
    obtain ⟨r, u, hu, -, -, hsettles⟩ := ownBid_accepted hmode h ha
    rw [ownBidAccepted_stopped (by rw [hu.lane]; exact htries)] at hsettles
    have hlane : (u.sendCede slot.toNat ρ l u.swapReason).lane l = s.lane l := (lane_sendCede u _ _ _ _ l).trans (hu.lane l)
    rw [hsettles.settled (by rw [hlane]; exact hsettled), hlane]
  | false =>
    obtain ⟨v, hv, hsettles⟩ := ownBid_ignored hmode h ha
    have hlane : (v.ownBidIgnored l slot.toNat ρ term).lane l = s.lane l :=
      (lane_ownBidIgnored v l _ ρ term l (by rw [hv.lane]; exact htries)).trans (hv.lane l)
    rw [hsettles.settled (by rw [hlane]; exact hsettled), hlane]

theorem ownBid_wins (ha : s.acceptsBid s.number l slot.toNat ρ term = true) (htries : (s.lane l).tries slot.toNat ρ = true)
    (hctx : (s.lane l).ctx = .none) :
    (s.completeFrame rx (.bid slot (CarriageRole.byte ρ) term (byteOf l.val) margin)).lane l = (s.lane l).wins ρ := by
  obtain ⟨r, u, hu, -, -, hsettles⟩ := ownBid_accepted hmode h ha
  exact wins_of_settles htries hctx (hu.lane l) hsettles

/-- An accepted BID whose lane has stopped the trial is followed by a CEDE, and the lane takes no role (R42). -/
theorem ownBid_cedes (ha : s.acceptsBid s.number l slot.toNat ρ term = true) (htries : (s.lane l).tries slot.toNat ρ = false)
    (hheld : (s.lane l).mark.isHeld = false) :
    Holds (.cede slot (CarriageRole.byte ρ) term (byteOf l.val) s.swapReason)
        (s.completeFrame rx (.bid slot (CarriageRole.byte ρ) term (byteOf l.val) margin)).link
      ∧ ((s.lane l).role = .free → (s.lane l).gate = false →
        ((s.completeFrame rx (.bid slot (CarriageRole.byte ρ) term (byteOf l.val) margin)).lane l).roleless) := by
  obtain ⟨r, u, hu, hterm, hnamed, hsettles⟩ := ownBid_accepted hmode h ha
  rw [ownBidAccepted_stopped (by rw [hu.lane]; exact htries)] at hsettles
  have hlane : (u.sendCede slot.toNat ρ l u.swapReason).lane l = s.lane l := (lane_sendCede u _ _ _ _ l).trans (hu.lane l)
  have hw := within_sendCede u slot.toNat ρ l u.swapReason
  have hm : (u.sendCede slot.toNat ρ l u.swapReason).mode = s.mode := hw.mode.trans hu.mode
  have happlies : (u.sendCede slot.toNat ρ l u.swapReason).mode.appliesFrames = true := by
    rw [hm]
    exact appliesFrames_of_holdsRoles hmode
  have hjoining : (u.sendCede slot.toNat ρ l u.swapReason).mode ≠ .joining := by
    rw [hm]
    exact ne_joining_of_holdsRoles hmode
  refine ⟨?_, fun hrole hgate => hsettles.roleless happlies hjoining (by rw [hlane]; exact roleless_of_free hrole hgate hheld)⟩
  have hsent := holds_sendCede u slot.toNat ρ l (swapReason_ne u)
  rw [State.cedeFrame, termOf_of_row (by rw [hu.row]; exact hterm), byteOf_toNat] at hsent
  rw [← hu.swapReason]
  exact hsettles.cede happlies hjoining (swapReason_ne u) (by rw [hlane]; exact hheld) (by rw [hw.row, hu.row]; exact hterm)
    (by rw [hw.row, hu.row, hw.ownPair, hu.ownPair]; exact hnamed) hsent

theorem ownBid_releases (ha : s.acceptsBid s.number l slot.toNat ρ term = false) (htries : (s.lane l).tries slot.toNat ρ = true) :
    Released ((s.completeFrame rx (.bid slot (CarriageRole.byte ρ) term (byteOf l.val) margin)).lane l) := by
  obtain ⟨v, hv, hsettles⟩ := ownBid_ignored hmode h ha
  exact released_of_ignored hv hmode htries hsettles

end

theorem lacksStandby_iff (r : Row) : r.lacksStandby = true ↔ ∃ t c lc, r = .carried t c none lc := by
  cases r with
  | carried t c sb lc => cases sb <;> simp [Row.lacksStandby]
  | _ => simp [Row.lacksStandby]

theorem lacks_at_term {s : State} {term : Term} (k : Nat) : ((s.row k).lacksStandby && s.termOf k == term) = true ↔ ∃ c lc, s.row k = .carried term c none lc := by
  rw [Bool.and_eq_true, lacksStandby_iff, beq_iff_eq]
  constructor
  · rintro ⟨⟨t, c, lc, hrow⟩, hterm⟩
    rw [termOf_of_row (congrArg Row.term hrow)] at hterm
    exact ⟨c, lc, hterm ▸ hrow⟩
  · rintro ⟨c, lc, hrow⟩
    exact ⟨⟨term, c, lc, hrow⟩, termOf_of_row (congrArg Row.term hrow)⟩

section
variable {s : State} {rx : Rx} {slot margin : Byte} {term : Term} {l : LaneId} (hmode : s.mode.holdsRoles = true)
include hmode

/-- An ignored carrier BID: the slot joins the tried set where its row is OPEN, and a lane released by it is not bound to it. -/
theorem ignored_carrierBid (h : Applies s rx (.bid slot 0#8 term (byteOf l.val) margin) s.number)
    (ha : s.bidAccepted s.number l slot.toNat term = false) :
    ((s.completeFrame rx (.bid slot 0#8 term (byteOf l.val) margin)).loc slot.toNat).tried
        = ((s.row slot.toNat).isOpen || (s.loc slot.toNat).tried)
      ∧ ((s.lane l).tries slot.toNat .carrier = true → (s.row slot.toNat).isOpen = true →
        ((s.completeFrame rx (.bid slot 0#8 term (byteOf l.val) margin)).lane l).slot ≠ some slot.toNat) := by
  obtain ⟨v, hv, hsettles⟩ := ownBid_ignored (ρ := .carrier) hmode h ha
  have hvloc : v.loc slot.toNat = s.loc slot.toNat := by
    rw [show v = { s with link := v.link } from hv.only]
    rfl
  have htried := tried_ownBidIgnored v l slot.toNat term
  rw [hv.row, hvloc] at htried
  refine ⟨(congrArg RowLocal.tried (hsettles.unplaced slot.toNat)).trans htried, fun htries hopen => ?_⟩
  have hm : (v.ownBidIgnored l slot.toNat .carrier term).mode = s.mode := (mode_ownBidIgnored v l _ _ term).trans hv.mode
  refine hsettles.closed (P := fun x => x.slot ≠ some slot.toNat) (by rw [hm]; exact appliesFrames_of_holdsRoles hmode)
    (by rw [hm]; exact ne_joining_of_holdsRoles hmode) (fun w hw => laneClosed_untried ?_ ?_) ?_
  · rw [hw.row, row_ownBidIgnored, hv.row]
    exact hopen
  · rw [hw.loc, htried, hopen]
    rfl
  · rw [lane_ownBidIgnored_tries (by rw [hv.lane]; exact htries)]
    nofun

theorem ignored_standbyBid (h : Applies s rx (.bid slot 1#8 term (byteOf l.val) margin) s.number)
    (ha : s.standbyBidAccepted s.number l slot.toNat term = false) :
    ((s.completeFrame rx (.bid slot 1#8 term (byteOf l.val) margin)).loc slot.toNat).standbyTried
      = ((s.row slot.toNat).lacksStandby && s.termOf slot.toNat == term || (s.loc slot.toNat).standbyTried) := by
  obtain ⟨v, hv, hsettles⟩ := ownBid_ignored (ρ := .standby) hmode h ha
  have hvloc : v.loc slot.toNat = s.loc slot.toNat := by
    rw [show v = { s with link := v.link } from hv.only]
    rfl
  have hvterm : v.termOf slot.toNat = s.termOf slot.toNat := by
    rw [State.termOf, hv.row]
    rfl
  have htried := standbyTried_ownBidIgnored v l slot.toNat term
  rw [hv.row, hvloc, hvterm] at htried
  exact (congrArg RowLocal.standbyTried (hsettles.unplaced slot.toNat)).trans htried

end

theorem tries_carrier {x : Lane} {k : Nat} (hrole : x.role = .trial) (hslot : x.slot = some k) (hmark : x.mark.bidsCarrier = true) :
    x.tries k .carrier = true := by
  simp [Lane.tries, hrole, hslot, hmark]

theorem tries_standby {x : Lane} {k : Nat} (hrole : x.role = .trial) (hslot : x.slot = some k) (hmark : x.mark.bidsStandby = true) :
    x.tries k .standby = true := by
  simp [Lane.tries, hrole, hslot, hmark]

/-- Settles O29. -/
theorem ownBidGivesItsLaneTheRole : Obligations.OwnBidGivesItsLaneTheRole := by
  intro s rx slot margin term l hmode
  refine ⟨fun h => ⟨_, rfl, ?_, fun hstopped => ⟨fun hsettled => ?_, fun ha hheld => ?_⟩, fun ha => ?_⟩,
    fun h => ⟨_, rfl, ?_, fun hstopped => ⟨fun hsettled => ?_, fun ha hheld => ?_⟩, fun ha => ?_⟩⟩
  · rintro ⟨-, hrole, hslot, hctx⟩ hmark
    have htries : (s.lane l).tries slot.toNat .carrier = true := tries_carrier hrole hslot (by
      simp only [List.mem_cons, List.not_mem_nil, or_false] at hmark
      rcases hmark with hm | hm | hm <;> rw [hm] <;> rfl)
    refine ⟨fun ha => ?_, fun ha => ⟨ownBid_releases (ρ := .carrier) hmode h ha htries, (ignored_carrierBid hmode h ha).2 htries⟩⟩
    have hwins : (s.completeFrame rx (.bid slot 0#8 term (byteOf l.val) margin)).lane l = (s.lane l).wins .carrier :=
      ownBid_wins (ρ := .carrier) hmode h ha htries hctx
    rw [hwins]
    obtain ⟨hr, hg, hm, hs, hc, -⟩ := wins_carrier (s.lane l)
    exact ⟨hr, hg, hm, hs.trans hslot, hc⟩
  · exact ownBid_stays (ρ := .carrier) hmode h hstopped hsettled
  · obtain ⟨hcede, hless⟩ := ownBid_cedes (ρ := .carrier) hmode h ha hstopped hheld
    refine ⟨hcede, fun hrole hgate => ?_⟩
    have hl := hless hrole hgate
    exact ⟨hl.ne nofun nofun, hl.ne nofun nofun, hl.2.1⟩
  · obtain ⟨htried, -⟩ := ignored_carrierBid hmode h ha
    exact ⟨fun hopen => htried.trans (by rw [hopen]; rfl), fun hclosed => htried.trans (by rw [hclosed]; rfl)⟩
  · rintro ⟨-, hrole, hslot, hctx⟩ hmark
    have htries : (s.lane l).tries slot.toNat .standby = true := tries_standby hrole hslot (by
      rcases hmark with ⟨t, hm⟩ | hm <;> rw [hm] <;> rfl)
    refine ⟨fun ha => ?_, fun ha => ownBid_releases (ρ := .standby) hmode h ha htries⟩
    have hwins : (s.completeFrame rx (.bid slot 1#8 term (byteOf l.val) margin)).lane l = (s.lane l).wins .standby :=
      ownBid_wins (ρ := .standby) hmode h ha htries hctx
    rw [hwins]
    obtain ⟨hr, hg, hm, hs, hc, -⟩ := wins_standby (s.lane l)
    exact ⟨hr, hg, hm, hs.trans hslot, hc⟩
  · exact ownBid_stays (ρ := .standby) hmode h hstopped hsettled
  · obtain ⟨hcede, hless⟩ := ownBid_cedes (ρ := .standby) hmode h ha hstopped hheld
    refine ⟨hcede, fun hrole hgate => ?_⟩
    have hl := hless hrole hgate
    exact ⟨hl.ne nofun nofun, hl.ne nofun nofun, hl.2.1⟩
  · have htried := ignored_standbyBid hmode h ha
    refine ⟨fun hlacks => ?_, fun hnot => ?_⟩
    · rw [(lacks_at_term (s := s) slot.toNat).2 hlacks] at htried
      exact htried
    · rw [Bool.eq_false_iff.2 (mt (lacks_at_term (s := s) slot.toNat).1 hnot)] at htried
      exact htried

end Sys2Proof.Machine
end

section
/-! # A lane that is HELD and in a role

O26 does not say that a HELD lane is in no role, nor that a row names a pair in one role alone. The CEDE of a lane that is HELD and its
row's carrier and standby at once, at term 65535, opens the row; the cut then releases the lane as the row's standby, HELD mark and all,
before the reclaim looks for it, and no RECLAIM trial follows. (`State.reclaim` itself leaves a HELD lane FREE, so the counterexample turns on
a hypothesis that the statement leaves out.) -/

namespace Sys2Proof.Machine

open Sys2Proof.Safety

/-- A plan of one slot. -/
def oneSlotPlan : Plan :=
  { number := 3#16, drainCount := 16, retry := .limited,
    windows := Vector.replicate 8 ({ valid := false, value := 0#5, mask := 0#5 }, { valid := false, value := 0#5, mask := 0#5 }),
    slots := [{ freq := 474000, bandwidth := .mhz8, input := .either, profile := .fixed, rank := 2, outlet := 0, home := 0,
                mask := 0xFF#8, rotate := false, standbyWanted := true }],
    digest := 0xBEEF#16 }

/-- Lane 0 gives slot 0 up for slot 0. -/
def ownReclaim : Frame := .cede 0#8 0#8 0xFFFF#16 0#8 (.reclaimed 0#8)

/-- Station 0, JOINED, its claim unit active, the CEDE on the line; lane 0 is carrier and standby of row 0, STANDBY and HELD. -/
def heldStandby : State :=
  { State.reset with
    inReset := false, mode := .joined, plan := some oneSlotPlan,
    table := [{ row := .carried 0xFFFF#16 ⟨0, 0⟩ (some ⟨0, 0⟩) none, loc := .reset }],
    dir := State.reset.dir.set 0 { PeerRec.absent with state := .self, mode := some .joined },
    lanes := State.reset.lanes.set 0 { Lane.reset with role := .standby, slot := some 0, mark := .held 0 .carrier },
    link := { State.reset.link with onAir := some ownReclaim, queue := [{ frame := .fixed ownReclaim, onLine := true }] } }

/-- The frame is this station's own, and was seen. -/
def ownSeen : Rx := { sender := 0#4, seen := true, fresh := true }

theorem heldStandby_applies : Applies heldStandby ownSeen ownReclaim 0 := by decide +kernel

theorem heldStandby_released : heldStandby.claimActive = true
    ∧ ((heldStandby.completeFrame ownSeen ownReclaim).row 0).isOpen = true
    ∧ ((heldStandby.completeFrame ownSeen ownReclaim).lane 0).role = .free := by decide +kernel

/-- Refutes O26: a lane that is HELD and its row's standby at once starts no RECLAIM trial. -/
theorem not_cedeLeavesTheRow : ¬ Obligations.CedeLeavesTheRow := by
  intro h
  obtain ⟨⟨t, ht, -, -, -, hheld, -⟩, -⟩ := h heldStandby ownSeen 0#8 0#8 0xFFFF#16 (.reclaimed 0#8) 0 |>.imp_left fun h => h heldStandby_applies
  obtain ⟨hactive, hopen, hfree⟩ := heldStandby_released
  obtain rfl : heldStandby.completeFrame ownSeen ownReclaim = t := Host.Outcome.next.inj ht
  obtain ⟨htrial, -⟩ := (hheld 0 0#8 .carrier rfl rfl rfl rfl rfl).1 hactive hopen
  rw [hfree] at htrial
  cases htrial

end Sys2Proof.Machine
end
